-- ==== Sys2Proof/Word.lean ====
section
/-! DEFINITION. Word.lean: bytes, bit fields of natural numbers, two's complement, byte order. -/

namespace Sys2Proof

/-- One byte. -/
abbrev Byte := BitVec 8

/-- A string of bytes, lowest address first. -/
abbrev Bytes := List Byte

/-- Bits [lo + w - 1 : lo] of v. -/
def bits (v lo w : Nat) : Nat := (v >>> lo) % 2 ^ w

/-- v with bits [lo + w - 1 : lo] replaced by x. -/
def putBits (v lo w x : Nat) : Nat := v - (bits v lo w <<< lo) + ((x % 2 ^ w) <<< lo)

/-- Bool as a bit. -/
def b2n (b : Bool) : Nat := if b then 1 else 0

/-- The w-bit two's complement value of v. -/
def toS (w v : Nat) : Int :=
  if v % 2 ^ w < 2 ^ (w - 1) then (v % 2 ^ w : Nat) else (v % 2 ^ w : Nat) - (2 ^ w : Nat)

/-- The w-bit two's complement code of i, wrapping. -/
def ofS (w : Nat) (i : Int) : Nat := (i % (2 ^ w : Nat)).toNat

/-- i held within lo to hi. -/
def clampI (i lo hi : Int) : Int := if i < lo then lo else if hi < i then hi else i

/-- n held within lo to hi. -/
def clampN (n lo hi : Nat) : Nat := if n < lo then lo else if hi < n then hi else n

/-- n saturated at w bits. -/
def satN (w n : Nat) : Nat := if n < 2 ^ w then n else 2 ^ w - 1

/-- The n low bytes of v, least significant first (00 R8). -/
def leBytes : Nat → Nat → Bytes
  | 0, _ => []
  | n + 1, v => BitVec.ofNat 8 v :: leBytes n (v >>> 8)

/-- The number a little-endian byte string spells. -/
def leNat : Bytes → Nat
  | [] => 0
  | b :: bs => b.toNat + 256 * leNat bs

/-- The n low bytes of v, most significant first (00 R9). -/
def beBytes (n v : Nat) : Bytes := (leBytes n v).reverse

/-- The number a big-endian byte string spells. -/
def beNat (bs : Bytes) : Nat := leNat bs.reverse

/-- n zero bytes. -/
def zeros (n : Nat) : Bytes := List.replicate n 0

/-- The first n bytes, zero-extended. -/
def padTo (n : Nat) (bs : Bytes) : Bytes := (bs ++ zeros (n - bs.length)).take n

/-- The little-endian field of n bytes at offset o of a byte string; bytes beyond the end read 0. -/
def fieldLE (bs : Bytes) (o n : Nat) : Nat := leNat ((bs.drop o).take n)

/-- The big-endian field of n bytes at offset o; short strings read as zero-extended at the end. -/
def fieldBE (bs : Bytes) (o n : Nat) : Nat := beNat (padTo n ((bs.drop o).take n))

/-- Byte string with the bytes from offset o overwritten by x. -/
def putAt (bs : Bytes) (o : Nat) (x : Bytes) : Bytes := bs.take o ++ x ++ bs.drop (o + x.length)

/-- x rounded up to a multiple of m. -/
def roundUp (x m : Nat) : Nat := (x + m - 1) / m * m

/-- Ceiling quotient. -/
def ceilDiv (x m : Nat) : Nat := (x + m - 1) / m

/-- Sequence-number order of 00 R13 at w bits: a is later than b. -/
def seqLater (w a b : Nat) : Bool := decide (0 < (a + 2 ^ w - b % 2 ^ w) % 2 ^ w) && decide ((a + 2 ^ w - b % 2 ^ w) % 2 ^ w < 2 ^ (w - 1))

/-- Sum of a list of numbers. -/
def sumN (l : List Nat) : Nat := l.foldl (· + ·) 0

/-- Indices of the set bits of a mask, ascending, below n. -/
def bitList (m n : Nat) : List Nat := (List.range n).filter (fun i => m.testBit i)

/-- The least power-of-two exponent k with x ≤ 2^k, by search below fuel. -/
def clog2 (x : Nat) : Nat := if x ≤ 1 then 0 else Nat.log2 (x - 1) + 1

/-! Association lists sorted by key: the maps of State. -/

/-- The value at k. -/
def aget {α : Type} : List (Nat × α) → Nat → Option α
  | [], _ => none
  | (j, a) :: m, k => if j = k then some a else aget m k

/-- The map with a at k, keys kept rising. -/
def aput {α : Type} : List (Nat × α) → Nat → α → List (Nat × α)
  | [], k, a => [(k, a)]
  | (j, b) :: m, k, a => if k < j then (k, a) :: (j, b) :: m else if k = j then (k, a) :: m else (j, b) :: aput m k a

/-- The map without k. -/
def adel {α : Type} (m : List (Nat × α)) (k : Nat) : List (Nat × α) := m.filter (fun e => e.1 ≠ k)

/-- The map with f applied at k, where k is present. -/
def amod {α : Type} (m : List (Nat × α)) (k : Nat) (f : α → α) : List (Nat × α) :=
  m.map (fun e => if e.1 = k then (e.1, f e.2) else e)

end Sys2Proof
end

