-- ==== Sys2Proof/Syntax.lean ====
section
/-! DEFINITION. Syntax.lean: the commands, one constructor for each row of spec/opcode_table.json, and the
data they carry from outside: frames of the fabric, errors detected, readings. -/

namespace Sys2Proof

/-- The work an operation runs in: an entry of a queue that is itself one operation (02 R39), or a step of a
launched graph or of a persistent task's item. -/
inductive WRef where
  | entry (q i : Nat)
  | step (inv step : Nat)
  deriving DecidableEq, Repr

/-- An election key (16 R773, R775): priority, serial number, eligibility. -/
structure Key where
  prio : Nat
  serial : Nat
  eligible : Bool
  deriving DecidableEq, Repr

/-- HELLO (16, Discovery and HELLO). -/
structure Hello where
  serial : Nat
  prio : Nat
  role : Nat
  id : Nat
  port : Nat
  term : Nat
  mgrId : Nat
  mgrPrio : Nat
  mgrSerial : Nat
  code : Nat
  eligible : Bool
  epoch : Nat
  fabEpoch : Nat
  digest : Bytes
  deriving DecidableEq, Repr

/-- A route-table entry (16, FAB_ROUTE): next hops in order, hop count, self. -/
structure RouteEnt where
  hops : List Nat
  dist : Nat
  self : Bool
  deriving DecidableEq, Repr

/-- A map entry (16, MAP PUBLISH): shard, holder device, state, vectors. -/
structure MapEnt where
  shard : Nat
  device : Nat
  state : Nat
  vectors : Nat
  deriving DecidableEq, Repr

/-- A search result entry: F32 code of its value, vector identifier. -/
structure Hit where
  dist : Nat
  id : Nat
  deriving DecidableEq, Repr

/-- Bodies of Melaz frames (16, Frames and the sections that own each TYPE). -/
inductive MBody where
  | data (payload : Bytes)
  | hello (h : Hello)
  | elect (claim : Bool) (term : Nat) (key : Key) (latest : Nat)
  | join (serial : Nat) (pref : Option Nat)
  | idTable (tab : List (Nat × Nat))
  | route (ver : Nat) (tab : List RouteEnt)
  | timeReq (t1 : Int)
  | timeResp (t1 t2 t3 : Int)
  | propose (id expect mask : Nat)
  | stage (id reason : Nat) (digests : List (Nat × Bytes))
  | arm (id flip : Nat)
  | armed (id reason : Nat) (msgFlip : Bool)
  | flip (id : Nat)
  | flipNow (id : Nat)
  | flipped (id epoch : Nat)
  | abort (id reason : Nat)
  | rejoin (serial : Nat) (digests : List (Nat × Bytes))
  | rejoinReply (ok : Bool) (epoch : Nat)
  | announce (channel shard vectors shape : Nat)
  | withdraw (channel shard : Nat)
  | publish (channel gen frag frags : Nat) (ents : List MapEnt)
  | fetch (channel : Nat)
  | searchReq (id channel gen : Nat) (shards : List Nat) (k list hops : Nat) (row : Bytes)
  | searchAnswer (id shard gen vectors expansions values flags : Nat) (hits : List Hit)
  | searchBounce (id shard gen : Nat)
  | beacon (key : Key) (term mgr : Nat) (digest : Bytes) (fabEpoch : Nat) (quarantined : List Nat)
  | neighbours (device role : Nat) (links : List (Nat × Nat × Nat × Nat))
  | freeze (thaw : Bool) (id at_ : Nat)
  | credit
  | mark (us delay : Nat) (cum : List Nat)
  deriving DecidableEq, Repr

/-- A Melaz frame (16, Frames), as it crosses a link: header fields, body, and what the receiver saw of it. -/
structure MFrame where
  ver : Nat
  typ : Nat
  src : Nat
  dst : Nat
  vc : Nat
  ttl : Nat
  fwClass : Nat
  len : Nat
  epoch : Nat
  gen : Nat
  part : Nat
  flags : Nat
  cls : Nat
  egress : Nat
  crVc : Nat
  crCount : Nat
  actions : Nat
  score : Nat
  flow : Nat
  body : MBody
  /-- the FCS holds -/
  fcsOk : Bool
  /-- LENGTH agrees with the frame (R763) -/
  lenOk : Bool
  /-- arrival at the timestamp point (10 R463) on the receiver's fabric time, 2^-16 ns; 0 in a frame being sent -/
  arrival : Int
  deriving DecidableEq, Repr

/-- A detected error (19): what detects it and the work it touched. Fault code of 19, Error classes; code 0 is
an error corrected in place by an HBM stack (CORRECTED). -/
structure ErrEvent where
  code : Nat
  page : Nat
  addr : Nat
  step : Nat
  opcode : Nat
  slot : Option Nat
  queue : Nat
  epoch : Nat
  part : Option Nat
  die : Nat
  unit : Nat
  detail : Nat
  deriving DecidableEq, Repr

/-- The commands. -/
inductive Instr where
  /-- SQ_TAIL_DB (R46) -/
  | sqTailDb (fn q val : Nat) (stores : List (Nat × Bytes))
  /-- CQ_HEAD_DB (R93) -/
  | cqHeadDb (fn q val : Nat)
  /-- SLOT_MAP (R52) -/
  | slotMap (slot : Nat)
  /-- SLOT_UNMAP (R55) -/
  | slotUnmap (slot : Nat)
  /-- GRANT (R54) -/
  | grant (slot : Nat)
  /-- DESCRIPTOR_FETCH_FAIL (R407) -/
  | descriptorFetchFail (q count : Nat)
  /-- ENTRY_RETIRE (R99) -/
  | entryRetire (q : Nat)
  /-- NOP (R99) -/
  | nop (q i : Nat)
  /-- LAUNCH_GRAPH (R69) -/
  | launchGraph (q i : Nat)
  /-- LAUNCH_PERSISTENT (R74) -/
  | launchPersistent (q i : Nat)
  /-- STOP_PERSISTENT_DRAIN (R79) -/
  | stopPersistentDrain (q i : Nat)
  /-- STOP_PERSISTENT_DETACH (R79) -/
  | stopPersistentDetach (q i : Nat)
  /-- CANCEL (R105) -/
  | cancel (q i : Nat)
  /-- VOID_OPERATION (R108) -/
  | voidOperation (q i : Nat)
  /-- COPY (R101) -/
  | copy (q i : Nat)
  /-- QUEUE_CREATE (R81) -/
  | queueCreate (i : Nat)
  /-- QUEUE_DESTROY_DRAIN (R82) -/
  | queueDestroyDrain (i : Nat)
  /-- QUEUE_DESTROY_ABORT (R83) -/
  | queueDestroyAbort (i : Nat)
  /-- SLOT_RESET (R85) -/
  | slotReset (i : Nat)
  /-- SLOT_RESET_DRAIN_TIMEOUT (R87) -/
  | slotResetDrainTimeout (slot : Nat)
  /-- PARTITION_CONFIG_WRITE (R413) -/
  | partitionConfigWrite (i : Nat)
  /-- PARTITION_CONFIG_READ (R413) -/
  | partitionConfigRead (i : Nat)
  /-- MODEL_STAGE (R229) -/
  | modelStage (i : Nat)
  /-- EPOCH_COMMIT_LOCAL (R245) -/
  | epochCommitLocal (i : Nat)
  /-- EPOCH_COMMIT_FABRIC (R803) -/
  | epochCommitFabric (i : Nat)
  /-- MODEL_RELEASE_DISCARD (R250) -/
  | modelReleaseDiscard (i : Nat)
  /-- MODEL_RELEASE_RETIRE (R251) -/
  | modelReleaseRetire (i : Nat)
  /-- EPOCH_RELEASE (R237) -/
  | epochRelease
  /-- INVOCATION_START (R215) -/
  | invocationStart (inv : Nat)
  /-- RULESET_LOAD_BUILD (R525) -/
  | rulesetLoadBuild (i : Nat)
  /-- RULESET_LOAD_DISCARD (R528) -/
  | rulesetLoadDiscard (i : Nat)
  /-- RULESET_COMMIT (R531) -/
  | rulesetCommit (i : Nat)
  /-- GENERATION_RELEASE (R534) -/
  | generationRelease
  /-- RELEASE_SWEEP (R535) -/
  | releaseSweep
  /-- TABLE_QUERY_SEARCH (R603) -/
  | tableQuerySearch (q i : Nat)
  /-- TABLE_QUERY_NEXT (R604) -/
  | tableQueryNext (q i : Nat)
  /-- TABLE_WRITE_INSERT (R607) -/
  | tableWriteInsert (q i : Nat)
  /-- TABLE_WRITE_UPDATE (R609) -/
  | tableWriteUpdate (q i : Nat)
  /-- TABLE_WRITE_DELETE (R609) -/
  | tableWriteDelete (q i : Nat)
  /-- TABLE_FLUSH (R612) -/
  | tableFlush (i : Nat)
  /-- STATION_WRITE_WRITE (R610) -/
  | stationWriteWrite (i : Nat)
  /-- STATION_WRITE_DELETE (R610) -/
  | stationWriteDelete (i : Nat)
  /-- ATTEST_REPORT (R437) -/
  | attestReport (i : Nat)
  /-- ATTEST_DEVICEID_CERT (R439) -/
  | attestDeviceidCert (i : Nat)
  /-- ATTEST_ALIAS_ENDORSEMENT (R439) -/
  | attestAliasEndorsement (i : Nat)
  /-- CRUISE (R976) -/
  | cruise (i : Nat)
  /-- INDEX_LOAD_DEFINE (R714) -/
  | indexLoadDefine (i : Nat)
  /-- INDEX_LOAD_LOAD (R716) -/
  | indexLoadLoad (i : Nat)
  /-- INDEX_LOAD_UNLOAD (R720) -/
  | indexLoadUnload (i : Nat)
  /-- INDEX_LOAD_DELETE (R720) -/
  | indexLoadDelete (i : Nat)
  /-- INDEX_LOAD_SET_MODE (R715) -/
  | indexLoadSetMode (i : Nat)
  /-- FIRMWARE_UPDATE (R430) -/
  | firmwareUpdate (i : Nat) (flashOk : Bool)
  /-- MATMUL (R158) -/
  | matmul (w : WRef)
  /-- CONV1D (R1026) -/
  | conv1d (w : WRef)
  /-- ELEMWISE (R161) -/
  | elemwise (w : WRef)
  /-- SOFTMAX (R162) -/
  | softmax (w : WRef)
  /-- NORM (R163) -/
  | norm (w : WRef)
  /-- REDUCE (R151) -/
  | reduce (w : WRef)
  /-- TOPK (R150) -/
  | topk (w : WRef)
  /-- POOL1D (R1026) -/
  | pool1d (w : WRef)
  /-- GATHER (R148) -/
  | gather (w : WRef)
  /-- SCATTER (R149) -/
  | scatter (w : WRef)
  /-- EMBED_SUM (R1027) -/
  | embedSum (w : WRef)
  /-- TRANSPOSE (R144) -/
  | transpose (w : WRef)
  /-- CONCAT (R144) -/
  | concat (w : WRef)
  /-- CONVERT (R179) -/
  | convert (w : WRef)
  /-- FILL (R144) -/
  | fill (w : WRef)
  /-- MOVE (R129) -/
  | move (w : WRef)
  /-- QSTATS (R190) -/
  | qstats (w : WRef)
  /-- REQUANT (R194) -/
  | requant (w : WRef)
  /-- DEQUANT (R203) -/
  | dequant (w : WRef)
  /-- FEATURE_PREP (R677) -/
  | featurePrep (w : WRef)
  /-- FOREST_EVAL (R685) -/
  | forestEval (w : WRef)
  /-- VSEARCH (R738) -/
  | vsearch (w : WRef)
  /-- FLOW_READ (R580) -/
  | flowRead (w : WRef)
  /-- FLOW_WRITE (R575) -/
  | flowWrite (w : WRef)
  /-- VERDICT_EMIT (R648) -/
  | verdictEmit (w : WRef)
  /-- WAIT_QUEUE (R1029) -/
  | waitQueue (w : WRef)
  /-- PUSH_QUEUE (R1029) -/
  | pushQueue (w : WRef)
  /-- SKIP_IF (R145) -/
  | skipIf (w : WRef)
  /-- BARRIER (R146) -/
  | barrier (w : WRef)
  /-- MARK (R897) -/
  | mark (w : WRef)
  /-- DUMP_TAP (R924) -/
  | dumpTap (w : WRef)
  /-- STEP_START (R128) -/
  | stepStart (inv step : Nat)
  /-- CORE_FAULT (R127) -/
  | coreFault (w : WRef) (core pc : Nat)
  /-- TAP_CAPTURE (R923) -/
  | tapCapture (inv step entry : Nat)
  /-- REGISTER_WRITE (R269) -/
  | registerWrite (addr size data : Nat)
  /-- ILLEGAL_ACCESS (R261) -/
  | illegalAccess (fn addr size : Nat) (write : Bool)
  /-- VF_WRITE_DROP (R295) -/
  | vfWriteDrop (fn addr size : Nat)
  /-- READ_CLEAR (R268) -/
  | readClear (fn addr size : Nat)
  /-- LO_READ_SHADOW (R289) -/
  | loReadShadow (fn addr : Nat)
  /-- PG_CTRL_ENABLE_CLEAR (R271) -/
  | pgCtrlEnableClear (page : Nat)
  /-- PG_CTRL_ENABLE_SET (R272) -/
  | pgCtrlEnableSet (page : Nat)
  /-- SOFT_RESET (R273) -/
  | softReset (page : Nat)
  /-- PG_IRQ_STATUS_W1C (R299) -/
  | pgIrqStatusW1c (page mask : Nat)
  /-- PG_IRQ_SET (R276) -/
  | pgIrqSet (page mask : Nat)
  /-- IRQ_ROUTE_ENABLE (R298) -/
  | irqRouteEnable (group vector : Nat)
  /-- GROUP_MSIX (R298) -/
  | groupMsix (group : Nat)
  /-- FE_KQ_ENABLE (R117) -/
  | feKqEnable
  /-- RST_CMD_WARM (R355) -/
  | rstCmdWarm (data : Nat)
  /-- RST_PART_CMD (R364) -/
  | rstPartCmd (mask : Nat)
  /-- PARTITION_RESET_DONE (R366) -/
  | partitionResetDone (p : Nat)
  /-- GATE_CLOSE (R324) -/
  | gateClose (gate : Nat)
  /-- GATE_OPEN (R325) -/
  | gateOpen (gate : Nat)
  /-- SWITCH_TO_IOSC (R332) -/
  | switchToIosc
  /-- SWITCH_TO_REF (R334) -/
  | switchToRef
  /-- IOSC_TRIM_WRITE (R341) -/
  | ioscTrimWrite (trim : Nat)
  /-- FMC_START (R346) -/
  | fmcStart
  /-- FMC_DONE (R346) -/
  | fmcDone (count : Nat)
  /-- FMC_NO_EDGE (R348) -/
  | fmcNoEdge
  /-- PTP_CAPTURE (R462) -/
  | ptpCapture (die : Nat)
  /-- PTP_STEP (R460) -/
  | ptpStep (die ns : Nat)
  /-- PTP_RATE_WRITE (R460) -/
  | ptpRateWrite (die rate : Nat)
  /-- GATE_COMMIT (R473) -/
  | gateCommit (port : Nat)
  /-- GATE_LIST_CHANGE (R474) -/
  | gateListChange (port : Nat)
  /-- GATE_EVENT (R471) -/
  | gateEvent (port : Nat)
  /-- TS_POP (R466) -/
  | tsPop (port : Nat)
  /-- PWR_OFF_WRITE (R829) -/
  | pwrOffWrite (mask : Nat)
  /-- TRK_INIT (R673) -/
  | trkInit (die theta : Nat)
  /-- RATE_DATA_WRITE (R668) -/
  | rateDataWrite (die off data : Nat)
  /-- FE_FLUSH (R707) -/
  | feFlush (cluster : Nat)
  /-- TALLY_NOW (R886) -/
  | tallyNow
  /-- TALLY_PERIOD_WRITE (R885) -/
  | tallyPeriodWrite (ms : Nat)
  /-- FABRIC_FREEZE (R907) -/
  | fabricFreeze
  /-- FABRIC_THAW (R907) -/
  | fabricThaw
  /-- OBS_SW_MARK (R898) -/
  | obsSwMark (marker : Nat) (isEnd : Bool)
  /-- HIST_CFG_WRITE (R896) -/
  | histCfgWrite (h kind index : Nat)
  /-- MARKER_CFG_WRITE (R900) -/
  | markerCfgWrite (k marker part : Nat) (en : Bool)
  /-- RING_ENABLE (R935) -/
  | ringEnable (ring : Nat)
  /-- FREEZE_SW (R903) -/
  | freezeSw
  /-- MIRROR_COPY (R975) -/
  | mirrorCopy
  /-- CRZ_GO (R979) -/
  | crzGo
  /-- LANDING_PENDING_CLEAR (R971) -/
  | landingPendingClear
  /-- FAULT_N_CLEAR (R955) -/
  | faultNClear (mask : Nat)
  /-- THM_ALARM_CLEAR (R854) -/
  | thmAlarmClear
  /-- PUMP_LOST_CLEAR (R877) -/
  | pumpLostClear
  /-- RPORT_BIND (R798) -/
  | rportBind (port device rport : Nat)
  /-- POWER_GOOD_RISE (R995) -/
  | powerGoodRise (straps : Nat)
  /-- POWER_GOOD_FALL (R996) -/
  | powerGoodFall
  /-- PERST_ASSERT (R353) -/
  | perstAssert
  /-- PERST_DEASSERT (R354) -/
  | perstDeassert
  /-- WARM_RESET (R356) -/
  | warmReset
  /-- FLOW_WRITEBACK_TIMEOUT (R358) -/
  | flowWritebackTimeout
  /-- FUNCTION_RESET (R361) -/
  | functionReset (fn : Nat)
  /-- HOT_RESET (R362) -/
  | hotReset
  /-- BUS_MASTER_ENABLE_CLEAR (R405) -/
  | busMasterEnableClear (fn : Nat)
  /-- BUS_MASTER_ENABLE_SET (R1022) -/
  | busMasterEnableSet (fn : Nat)
  /-- HOST_READ_ERROR (R406) -/
  | hostReadError (q i : Nat)
  /-- BAR4_WINDOW_ACCESS (R399) -/
  | bar4WindowAccess (fn addr size data : Nat) (write : Bool)
  /-- BOOT_ROM (R424) -/
  | bootRom
  /-- BUNDLE_VERIFY (R425) -/
  | bundleVerify
  /-- PLL_LOCK (R308) -/
  | pllLock
  /-- BLOCK_READY (R376) -/
  | blockReady (page : Nat)
  /-- BLOCK_NOT_READY (R377) -/
  | blockNotReady (page : Nat)
  /-- CACHE_ONLY_END (R379) -/
  | cacheOnlyEnd (die : Nat)
  /-- JOURNAL_RESTORE (R253) -/
  | journalRestore
  /-- BANK_REVERIFY (R255) -/
  | bankReverify (slot : Nat)
  /-- SHARD_RESTORE (R748) -/
  | shardRestore (channel shard : Nat)
  /-- REFCLK_LOSS (R328) -/
  | refclkLoss
  /-- REF_RETURN (R333) -/
  | refReturn
  /-- COAST_DELAY_EXPIRY (R332) -/
  | coastDelayExpiry
  /-- REF_OK_HELD (R332) -/
  | refOkHeld
  /-- RELOCK_DONE (R332) -/
  | relockDone
  /-- DESKEW_TICK (R313) -/
  | deskewTick (errs : List Int)
  /-- TRIM_INTERVAL (R337) -/
  | trimInterval (edges : Nat)
  /-- TRIM_HOLD (R338) -/
  | trimHold
  /-- DROOP_FLAG (R838) -/
  | droopFlag (cpm : Nat)
  /-- DROOP_LEVEL_RISE (R839) -/
  | droopLevelRise
  /-- DROOP_HOLD_EXPIRY (R840) -/
  | droopHoldExpiry
  /-- AVS_INTERVAL (R833) -/
  | avsInterval (lows : List Int)
  /-- CPM_FATAL (R837) -/
  | cpmFatal (cpm : Nat) (margin : Int)
  /-- AVSBUS_POLL (R823) -/
  | avsbusPoll (reads : List (Option (Nat × Nat)))
  /-- EQ_TICK (R841) -/
  | eqTick (dirs : List (Nat × List Int))
  /-- THERMAL_SAMPLE (R851) -/
  | thermalSample (temps : List (Option Int))
  /-- THERMTRIP (R855) -/
  | thermtrip
  /-- HBM_TEMP_READ (R852) -/
  | hbmTempRead (temps : List Int)
  /-- GOV_TICK (R859) -/
  | govTick
  /-- FLOOR_TICK (R874) -/
  | floorTick
  /-- PUMP_LOSS (R872) -/
  | pumpLoss (input : Nat)
  /-- TACH_EDGE (R867) -/
  | tachEdge (input : Nat)
  /-- PWM_PERIOD (R865) -/
  | pwmPeriod
  /-- PLANT_SENSOR_READ (R869) -/
  | plantSensorRead (raws : List (Option Nat))
  /-- REEL_STEP_MOVE (R845) -/
  | reelStepMove (inv step cluster : Nat)
  /-- REEL_HOME_MOVE (R849) -/
  | reelHomeMove (flow : Nat)
  /-- HOME_MOVE_CANCEL (R850) -/
  | homeMoveCancel (flow : Nat)
  /-- HOUSEKEEPING_WATCHDOG (R943) -/
  | housekeepingWatchdog
  /-- FRAME_RECEIVE (R501) -/
  | frameReceive (port : Nat) (frame : Bytes)
  /-- PAUSE_FRAME (R449) -/
  | pauseFrame (port quanta : Nat)
  /-- PFC_FRAME (R450) -/
  | pfcFrame (port enables : Nat) (quanta : List Nat)
  /-- PAUSE_EXPIRY (R484) -/
  | pauseExpiry (port : Nat)
  /-- FLOW_LOOKUP (R564) -/
  | flowLookup (pkt : Nat)
  /-- TRIGGER_STAGE (R624) -/
  | triggerStage (pkt : Nat)
  /-- HEAD_POINT (R628) -/
  | headPoint (pkt : Nat)
  /-- ITEM_QUEUE (R627) -/
  | itemQueue (pkt : Nat)
  /-- TAIL_GOOD (R572) -/
  | tailGood (pkt : Nat)
  /-- TAIL_BAD (R457) -/
  | tailBad (pkt : Nat)
  /-- VERDICT_ARRIVE (R653) -/
  | verdictArrive (die : Nat)
  /-- HOLD_DEADLINE (R643) -/
  | holdDeadline (pkt : Nat)
  /-- ITEM_NO_VERDICT (R646) -/
  | itemNoVerdict (inv : Nat)
  /-- VERDICT_STAGE (R662) -/
  | verdictStage (pkt : Nat)
  /-- TRACKER_UPDATE (R669) -/
  | trackerUpdate (die cls : Nat)
  /-- TRACKER_ANCHOR (R670) -/
  | trackerAnchor (die : Nat)
  /-- EGRESS_START (R448) -/
  | egressStart (port : Nat)
  /-- PREEMPT_FRAGMENT (R489) -/
  | preemptFragment (port : Nat)
  /-- PREEMPT_VERIFY (R485) -/
  | preemptVerify (port : Nat) (ok : Bool)
  /-- PORT_LINK_UP (R445) -/
  | portLinkUp (port : Nat)
  /-- PORT_LINK_DOWN (R445) -/
  | portLinkDown (port : Nat)
  /-- EGRESS_TIMESTAMP (R465) -/
  | egressTimestamp (port : Nat)
  /-- PPS_IN_EDGE (R469) -/
  | ppsInEdge
  /-- PPS_OUT_EDGE (R469) -/
  | ppsOutEdge
  /-- SLOW_PATH_DELIVER (R545) -/
  | slowPathDeliver (pkt : Nat)
  /-- SLOW_PATH_IRQ (R550) -/
  | slowPathIrq (die part : Nat)
  /-- REINJECT_DESCRIPTOR (R552) -/
  | reinjectDescriptor (die part : Nat)
  /-- STATION_LEARN_APPLY (R593) -/
  | stationLearnApply (die : Nat)
  /-- SKIDDER_PASS (R600) -/
  | skidderPass
  /-- FLOW_AGER (R585) -/
  | flowAger
  /-- FLOW_WRITEBACK (R582) -/
  | flowWriteback (die index : Nat)
  /-- FLOW_ECC_ERROR (R615) -/
  | flowEccError (index : Nat)
  /-- STATION_PARITY (R616) -/
  | stationParity (die index : Nat)
  /-- PARSE_PARITY (R543) -/
  | parseParity (pipe index : Nat)
  /-- FP_TRAINING (R757) -/
  | fpTraining (port : Nat)
  /-- FP_DOWN (R758) -/
  | fpDown (port : Nat) (fecLost : Bool)
  /-- FP_TRAINING_TIMEOUT (R757) -/
  | fpTrainingTimeout (port : Nat)
  /-- HELLO (R771) -/
  | hello (port : Nat) (frame : MFrame)
  /-- HELLO_SEND (R771) -/
  | helloSend
  /-- CREDIT_FRAME (R764) -/
  | creditFrame (port : Nat) (frame : MFrame)
  /-- CREDIT_RETURN_TIMER (R766) -/
  | creditReturnTimer (port : Nat)
  /-- MARK_SEND (R768) -/
  | markSend
  /-- MARK_RECEIVE (R767) -/
  | markReceive (port : Nat) (frame : MFrame)
  /-- MELAZ_FRAME_FORWARD (R761) -/
  | melazFrameForward (port : Nat) (frame : MFrame)
  /-- DATA_RECEIVE (R801) -/
  | dataReceive (port : Nat) (frame : MFrame)
  /-- DATA_SEND (R800) -/
  | dataSend (pkt : Nat)
  /-- ELECT (R776) -/
  | elect (port : Nat) (frame : MFrame)
  /-- ELECTION_START (R774) -/
  | electionStart
  /-- ELECT_QUIET_EXPIRY (R778) -/
  | electQuietExpiry
  /-- CLAIM (R778) -/
  | claim (port : Nat) (frame : MFrame)
  /-- ASSIGN_JOIN (R782) -/
  | assignJoin (port : Nat) (frame : MFrame)
  /-- ASSIGN_TABLE (R782) -/
  | assignTable (port : Nat) (frame : MFrame)
  /-- ROUTE_TABLE (R785) -/
  | routeTable (port : Nat) (frame : MFrame)
  /-- ROUTE_COMPUTE (R783) -/
  | routeCompute
  /-- STATUS_REPORT (R772) -/
  | statusReport (port : Nat) (frame : MFrame)
  /-- BEACON_SEND (R787) -/
  | beaconSend
  /-- BEACON (R796) -/
  | beacon (port : Nat) (frame : MFrame)
  /-- MANAGER_LOST (R788) -/
  | managerLost
  /-- FABRIC_ALONE (R789) -/
  | fabricAlone
  /-- TIME_REQ (R790) -/
  | timeReq
  /-- TIME_REQ_RECEIVE (R790) -/
  | timeReqReceive (port : Nat) (frame : MFrame)
  /-- TIME_RESP (R791) -/
  | timeResp (port : Nat) (frame : MFrame)
  /-- TIME_DEGRADED_ENTER (R792) -/
  | timeDegradedEnter
  /-- QUAD_PROPOSE (R805) -/
  | quadPropose (port : Nat) (frame : MFrame)
  /-- QUAD_STAGE (R806) -/
  | quadStage (port : Nat) (frame : MFrame)
  /-- QUAD_ARM (R807) -/
  | quadArm (port : Nat) (frame : MFrame)
  /-- QUAD_ARMED (R808) -/
  | quadArmed (port : Nat) (frame : MFrame)
  /-- QUAD_FLIP (R809) -/
  | quadFlip (port : Nat) (frame : MFrame)
  /-- FLIP_TIME_REACHED (R809) -/
  | flipTimeReached
  /-- QUAD_FLIP_NOW (R810) -/
  | quadFlipNow (port : Nat) (frame : MFrame)
  /-- FLIP_NOW_REPEAT (R810) -/
  | flipNowRepeat
  /-- QUAD_FLIPPED (R811) -/
  | quadFlipped (port : Nat) (frame : MFrame)
  /-- QUAD_ABORT (R812) -/
  | quadAbort (port : Nat) (frame : MFrame)
  /-- STAGE_TIMEOUT (R812) -/
  | stageTimeout
  /-- ARM_LATE (R808) -/
  | armLate
  /-- FLIPPED_TIMEOUT (R814) -/
  | flippedTimeout
  /-- QUAD_REJOIN (R816) -/
  | quadRejoin (port : Nat) (frame : MFrame)
  /-- MAP_ANNOUNCE (R734) -/
  | mapAnnounce (port : Nat) (frame : MFrame)
  /-- MAP_WITHDRAW (R720) -/
  | mapWithdraw (port : Nat) (frame : MFrame)
  /-- MAP_PUBLISH (R817) -/
  | mapPublish (port : Nat) (frame : MFrame)
  /-- MAP_FETCH (R817) -/
  | mapFetch (port : Nat) (frame : MFrame)
  /-- POST_CLAIM_PUBLISH (R818) -/
  | postClaimPublish
  /-- SEARCH_REQ (R739) -/
  | searchReq (port : Nat) (frame : MFrame)
  /-- SHARD_PART_DONE (R725) -/
  | shardPartDone (part : Nat)
  /-- SEARCH_ANSWER (R723) -/
  | searchAnswer (port : Nat) (frame : MFrame)
  /-- SEARCH_BOUNCE (R741) -/
  | searchBounce (port : Nat) (frame : MFrame)
  /-- HOLDER_UNREACHABLE (R742) -/
  | holderUnreachable (device : Nat)
  /-- FREEZE_FRAME (R908) -/
  | freezeFrame (port : Nat) (frame : MFrame)
  /-- FREEZE_IN (R905) -/
  | freezeIn
  /-- TALLY_LATCH (R882) -/
  | tallyLatch
  /-- TALLY_RECORD_WRITE (R884) -/
  | tallyRecordWrite
  /-- TRACE_SYNC (R916) -/
  | traceSync
  /-- CORE_SYNC (R915) -/
  | coreSync (source pc : Nat)
  /-- TRACE_LOSS (R918) -/
  | traceLoss (die : Nat)
  /-- ERROR_DETECT (R940) -/
  | errorDetect (e : ErrEvent)
  /-- LOG_FAILURE (R950) -/
  | logFailure (kind cls code : Nat)
  /-- FATAL_PATH (R956) -/
  | fatalPath
  /-- DUMP_BUDGET_EXPIRY (R957) -/
  | dumpBudgetExpiry
  /-- HBM_SCRUB (R989) -/
  | hbmScrub (stack line kind : Nat)
  /-- MGMT_READ (R1008) -/
  | mgmtRead (off count : Nat)
  /-- JTAG_INSTRUCTION (R1010) -/
  | jtagInstruction (code : Nat)
  /-- FMC_OVERFLOW (R348) -/
  | fmcOverflow
  /-- FREEZE_IN_DEASSERT (R903) -/
  | freezeInDeassert
  /-- VF_ENABLE_CHANGE (R397) -/
  | vfEnableChange (numVfs : Nat) (enable : Bool)
  /-- HISTOGRAM_SAMPLE (R895) -/
  | histogramSample
  /-- TRACE_RECORD_ADMIT (R931) -/
  | traceRecordAdmit (die : Nat)
  /-- TACH_NO_EDGE (R867) -/
  | tachNoEdge (input : Nat)
  deriving DecidableEq, Repr

end Sys2Proof
end

