-- ==== Sys2Proof/Machine/Hash.lean ====
section
/-! DEFINITION. Machine/Hash.lean: the checks the manual names by their public standards: CRC-32C, SHA-256 and
SHA-384 (FIPS 180-4). The round constants are the first bits of the fractional parts of cube roots and square
roots of the first primes, and are computed from that definition. -/

namespace Sys2Proof.Machine

/-! ## CRC-32C -/

/-- One bit of the reflected CRC-32C division. -/
def crcBit (c : Nat) : Nat := if c % 2 = 1 then (c >>> 1) ^^^ 0x82F63B78 else c >>> 1

/-- One byte. -/
def crcByte (c : Nat) (b : Byte) : Nat :=
  crcBit (crcBit (crcBit (crcBit (crcBit (crcBit (crcBit (crcBit (c ^^^ b.toNat))))))))

/-- CRC-32C of a byte string. -/
def crc32c (bs : Bytes) : Nat := bs.foldl crcByte 0xFFFFFFFF ^^^ 0xFFFFFFFF

/-! ## CRC-32 of IEEE 802.3 -/

/-- One bit of the reflected CRC-32 division. -/
def fcsBit (c : Nat) : Nat := if c % 2 = 1 then (c >>> 1) ^^^ 0xEDB88320 else c >>> 1

/-- One byte. -/
def fcsByte (c : Nat) (b : Byte) : Nat :=
  fcsBit (fcsBit (fcsBit (fcsBit (fcsBit (fcsBit (fcsBit (fcsBit (c ^^^ b.toNat))))))))

/-- The frame check sequence of a MAC frame. -/
def fcs32 (bs : Bytes) : Nat := bs.foldl fcsByte 0xFFFFFFFF ^^^ 0xFFFFFFFF

/-! ## SHA-2 -/

/-- n is a prime. -/
def isPrime (n : Nat) : Bool := decide (2 ≤ n) && (List.range n).all (fun d => d < 2 || n % d ≠ 0)

/-- The first n primes, searched below a bound that holds 80 of them. -/
def primes (n : Nat) : List Nat := ((List.range 420).filter isPrime).take n

/-- Integer root by bisection: the greatest r below 2^fuel-steps with p r. -/
def rootBy (p : Nat → Bool) : Nat → Nat → Nat
  | 0, r => if p (r + 1) then r + 1 else r
  | k + 1, r => rootBy p k (if p (r + 2 ^ (k + 1)) then r + 2 ^ (k + 1) else r)

/-- The first w bits of the fractional part of the square root of n. -/
def sqrtFrac (w n : Nat) : Nat := rootBy (fun r => decide (r * r ≤ n * 2 ^ (2 * w))) (w + 5) 0 % 2 ^ w

/-- The first w bits of the fractional part of the cube root of n. -/
def cbrtFrac (w n : Nat) : Nat := rootBy (fun r => decide (r * r * r ≤ n * 2 ^ (3 * w))) (w + 4) 0 % 2 ^ w

/-- Rotation right of a w-bit word. -/
def rotr (w x n : Nat) : Nat := ((x >>> n) ||| (x <<< (w - n))) % 2 ^ w

/-- What the two SHA-2 members differ in: word bits, rounds, rotations. -/
structure ShaKind where
  w : Nat
  rounds : Nat
  s0 : Nat × Nat × Nat
  s1 : Nat × Nat × Nat
  e0 : Nat × Nat × Nat
  e1 : Nat × Nat × Nat
  deriving DecidableEq, Repr

/-- SHA-256. -/
def sha256Kind : ShaKind := ⟨32, 64, (7, 18, 3), (17, 19, 10), (2, 13, 22), (6, 11, 25)⟩
/-- SHA-384, which runs as SHA-512. -/
def sha384Kind : ShaKind := ⟨64, 80, (1, 8, 7), (19, 61, 6), (28, 34, 39), (14, 18, 41)⟩

/-- Two rotations and a shift. -/
def shaSmall (k : ShaKind) (t : Nat × Nat × Nat) (x : Nat) : Nat :=
  rotr k.w x t.1 ^^^ rotr k.w x t.2.1 ^^^ (x >>> t.2.2)

/-- Three rotations. -/
def shaBig (k : ShaKind) (t : Nat × Nat × Nat) (x : Nat) : Nat :=
  rotr k.w x t.1 ^^^ rotr k.w x t.2.1 ^^^ rotr k.w x t.2.2

/-- The message schedule, newest word first. -/
def shaSchedule (k : ShaKind) : Nat → List Nat → List Nat
  | 0, ws => ws
  | n + 1, ws =>
    let v := (shaSmall k k.s1 (ws.getD 1 0) + ws.getD 6 0 + shaSmall k k.s0 (ws.getD 14 0) + ws.getD 15 0) % 2 ^ k.w
    shaSchedule k n (v :: ws)

/-- One round over the eight working words. -/
def shaRound (k : ShaKind) (h : List Nat) (kw : Nat × Nat) : List Nat :=
  match h with
  | [a, b, c, d, e, f, g, hh] =>
    let m := 2 ^ k.w
    let ch := (e &&& f) ^^^ ((m - 1 - e) &&& g)
    let mj := (a &&& b) ^^^ (a &&& c) ^^^ (b &&& c)
    let t1 := (hh + shaBig k k.e1 e + ch + kw.1 + kw.2) % m
    [(t1 + shaBig k k.e0 a + mj) % m, a, b, c, (d + t1) % m, e, f, g]
  | _ => h

/-- One block, its words oldest first. -/
def shaBlock (k : ShaKind) (ks h ws : List Nat) : List Nat :=
  let sched := (shaSchedule k (k.rounds - 16) ws.reverse).reverse
  let r := (ks.zip sched).foldl (shaRound k) h
  (h.zip r).map (fun p => (p.1 + p.2) % 2 ^ k.w)

/-- Big-endian words of n bytes each. -/
def beWords (n : Nat) : Nat → Bytes → List Nat
  | 0, _ => []
  | c + 1, bs => beNat (bs.take n) :: beWords n c (bs.drop n)

/-- All blocks of a padded message. -/
def shaBlocks (k : ShaKind) (ks : List Nat) : Nat → List Nat → Bytes → List Nat
  | 0, h, _ => h
  | c + 1, h, bs =>
    let n := k.w / 8
    shaBlocks k ks c (shaBlock k ks h (beWords n 16 bs)) (bs.drop (16 * n))

/-- A SHA-2 digest from initial words. -/
def shaRun (k : ShaKind) (h0 : List Nat) (bs : Bytes) : Bytes :=
  let blk := 2 * k.w
  let lenB := k.w / 4
  let z := (blk - (bs.length + 1 + lenB) % blk) % blk
  let msg := bs ++ [0x80] ++ zeros z ++ beBytes lenB (8 * bs.length)
  let ks := (primes k.rounds).map (cbrtFrac k.w)
  ((shaBlocks k ks (msg.length / blk) h0 msg).map (beBytes (k.w / 8))).flatten

/-- SHA-256 digest, 32 bytes. -/
def sha256 (bs : Bytes) : Bytes := shaRun sha256Kind ((primes 8).map (sqrtFrac 32)) bs

/-- SHA-384 digest, 48 bytes. -/
def sha384 (bs : Bytes) : Bytes := (shaRun sha384Kind (((primes 16).drop 8).map (sqrtFrac 64)) bs).take 48

end Sys2Proof.Machine
end

