-- ==== Sys2Proof/Config.lean ====
section
/-! DEFINITION. Config.lean: what the part fixes (ordering codes, fuses, keys, images) and the free values. -/

namespace Sys2Proof

/-- The four ordering codes (spec/00_scope.md). -/
inductive Code where
  | dx41 | dx42 | dx82 | dx84
  deriving DecidableEq, Repr

/-- HBM stacks (DEV_CODE.STACKS). -/
def Code.stacks : Code → Nat
  | .dx41 => 4 | .dx42 => 4 | .dx82 => 8 | .dx84 => 8

/-- I/O dies (DEV_CODE.IODIES). -/
def Code.ioDies : Code → Nat
  | .dx41 => 1 | .dx42 => 2 | .dx82 => 2 | .dx84 => 4

/-- DEV_CODE.CODE. -/
def Code.num : Code → Nat
  | .dx41 => 0x41 | .dx42 => 0x42 | .dx82 => 0x82 | .dx84 => 0x84

/-- Thermal design power in W, and the PL1 default (17, Power figures and limits). -/
def Code.pl1 : Code → Nat
  | .dx41 => 650 | .dx42 => 720 | .dx82 => 820 | .dx84 => 950

/-- PL2 default in W. -/
def Code.pl2 : Code → Nat
  | .dx41 => 780 | .dx42 => 864 | .dx82 => 984 | .dx84 => 1140

/-- FLOOR default in W. -/
def Code.floorW : Code → Nat
  | .dx41 => 260 | .dx42 => 288 | .dx82 => 328 | .dx84 => 380

/-- Bytes of device memory: 36 GiB a stack. -/
def Code.memBytes (c : Code) : Nat := c.stacks * 36 * 2 ^ 30

/-- Peak HBM bandwidth in bytes per second (18, Bandwidth budgets). -/
def Code.peakHbm (c : Code) : Nat := c.stacks * 1228800000000

/-- log2 of the flow-table entries (12). -/
def Code.flowLog2 (c : Code) : Nat := if c.stacks = 8 then 28 else 27

/-- First byte of the flow-table area, which runs to the end of device memory (12 R557). -/
def Code.flowBase (c : Code) : Nat := c.memBytes - 128 * 2 ^ c.flowLog2

/-- The DEV_CODE word (06, DEV page registers). -/
def Code.devCode (c : Code) : Nat :=
  c.stacks + c.ioDies * 16 + c.num * 256 + (2 ^ c.stacks - 1) * 2 ^ 16 + (2 ^ c.ioDies - 1) * 2 ^ 24

namespace Config

/-! Values of the part, of its fuses and of the images it boots: the manual fixes their encodings only
(06 R1021, 09). No body: nothing depends on a particular value. -/

/-- DEV_SERIAL (06 R304). -/
opaque serial : Nat
/-- DEV_STEPPING (06 R1021). -/
opaque stepping : Nat
/-- DEV_FW_VERSION of the shipped bundle (06 R1021). -/
opaque fwVersion : Nat
/-- DEV_FW_CLASS of the shipped bundle (06 R1021). -/
opaque fwClass : Nat
/-- The IOSC trim fuse (07). -/
opaque ioscTrimFuse : Nat

/-! Arithmetic the manual names and does not give. -/

/-- ECDSA P-384 verification: key, SHA-384 digest, signature. -/
opaque ecdsaVerify : Bytes → Bytes → Bytes → Bool
/-- ECDSA P-384 signature by the Alias key (1) or the DeviceID key (0) over a digest. -/
opaque ecdsaSign : Nat → Bytes → Bytes
/-- Public key: Alias (1) or DeviceID (0), 96 bytes. -/
opaque publicKey : Nat → Bytes

/-- The DeviceID certificate of the manufacturing sector (09 R439). -/
opaque deviceCert : Bytes
/-- Root key hash of fuse slot k (09, Secure boot). -/
opaque rootHash : Nat → Bytes
/-- SHA-384 of the ROM version, the root key hashes, the revocation bits and FUSE_SVN (09, M0). -/
opaque romMeasure : List Bytes → Nat → Nat → Bytes
/-- SHA-384 of the shipped bundle's header and stage 1 (0) and of the whole shipped bundle (1) (09, M1 and M2). -/
opaque factoryDigest : Nat → Bytes
/-- Header fields of the shipped bundle: 0 SVN, 1 KEY_INDEX. -/
opaque factoryHeader : Nat → Nat

/-- Ends of the range of DFE tap k (17, SerDes equalisation: "within its range"). -/
opaque dfeLo : Nat → Int
opaque dfeHi : Nat → Int

/-- Sensor i lies on cluster n (17 gives the sensors of each die, not of each cluster). -/
opaque clusterSensor : Nat → Nat → Bool

/-- Credits of a die's learn queue to I0 (12 R592 gives no number). -/
opaque learnCredits : Nat

/-- Result of an F32 operation for which the manual states none (03 R164): function, the F32 codes of its operands.
1 infinities of opposite sign added, 2 zero times infinity, 3 division by zero or of infinities; others by FUNC. -/
opaque openF32 : Nat → Nat → Nat → Nat
/-- How many ulp the result of a function of 03 R164 lies from the rounded exact one, for a function and an F32 code:
taken modulo 5, less 2. -/
opaque ulpOffset : Nat → Nat → Nat

/-- PG_CAP.BLOCK_CAP of a page, by its number (06: "block-specific capabilities", no values given). -/
opaque blockCap : Nat → Nat

/-- MAX of a credited path class whose depth no chapter gives (19, Credited path numbering). -/
opaque pathMax : Nat → Nat

/-- Payload bytes of a Melaz frame whose payload 16 does not lay out: kind (16 * TYPE + SUB), number of entries. -/
opaque openLen : Nat → Nat → Nat

/-- Cells of the boundary register (20 R1010 names the pins, not the cells). -/
opaque boundaryBits : Nat

/-! Free values: a draw for each value of State's counter `free`. -/

/-- The n-th free number. -/
opaque free : Nat → Nat

/-! Constants of tables. -/

/-- Nominal rail voltage in mV (17, Rails and AVSBus). -/
def railNominal : Nat → Nat
  | 0 => 750 | 1 => 750 | 2 => 750 | 3 => 800 | 4 => 750 | 5 => 1100 | 6 => 400 | 7 => 1800 | _ => 0

/-- Lower end of a rail's adjustable range in mV; a fixed rail has only its nominal value. -/
def railLo : Nat → Nat
  | 0 => 600 | 1 => 600 | 2 => 600 | 3 => 700 | r => railNominal r

/-- Upper end of a rail's adjustable range in mV. -/
def railHi : Nat → Nat
  | 0 => 900 | 1 => 900 | 2 => 900 | 3 => 950 | r => railNominal r

/-- Reset word of RAIL_LIMITS_r: VMIN and VMAX at the ends of the adjustable range. -/
def railRange (r : Nat) : Nat := railLo r + railHi r * 2 ^ 16

/-- TDP-derived fuse: THM_TRIP (17 R855). -/
def thmTrip : Nat := 1840

end Config

end Sys2Proof
end

