-- ==== Sys2Proof/Machine/Builtin.lean ====
section
/-! DEFINITION. Machine/Builtin.lean: the tables of the built-in ruleset generation 0 (11 R536 to R538), and values at reset. -/

namespace Sys2Proof.Machine

/-- The built-in class record 0 and others: VALID class 0 of partition 0, PASS, trigger NONE, learning, FORWARD (R538). -/
def builtinClasses : Bytes := padTo 16384 [3]

/-- Built-in actions: SLOW to partition 0 for 0x01 to 0x06, DROP for 0x20 to 0x27 (R537). -/
def builtinReasons : Bytes :=
  ((List.range 64).map (fun r => leBytes 4 (if 0x20 ≤ r ∧ r ≤ 0x27 then 1 else 0))).flatten

/-- Partition 0's record after a cold reset or PERST, nonzero bytes by offset (09 R418, 05 R227): ENABLED 1, MAX_QUEUES 1023,
MAX_TASKS 24, PRIO_MAX 7, DMA_WEIGHT 1, MAX_SLOTS 256, IQ_COUNT 256, every grant, the bank quota, MAX_FLOWS 2^28, no region. -/
def recordZero (c : Code) : List Host.Cell :=
  let bs := leBytes 2 1 ++ leBytes 2 1023 ++ leBytes 1 24 ++ leBytes 1 7 ++ leBytes 2 1 ++ leBytes 2 256 ++ leBytes 2 0 ++ leBytes 2 256 ++
    leBytes 2 0xFFFF ++ leBytes 8 (c.memBytes - 2 ^ 30 - 128 * 2 ^ c.flowLog2) ++ leBytes 8 0 ++ leBytes 4 (2 ^ 28) ++ leBytes 2 0xFFFF ++
    leBytes 1 0xFF
  ((List.range bs.length).zip bs).filter (fun x => x.2 ≠ 0)

end Sys2Proof.Machine
end

