-- ==== Sys2Proof/Machine/Pages.lean ====
section
/-! DEFINITION. Machine/Pages.lean: the register fields of every page, one constant per row of the register
tables of spec/06_register_pages.md and of the chapters that own the pages. A position is a bit position in
the page: 8 x offset + low bit; a _LO/_HI pair is one field of 64 bits (R288). -/

namespace Sys2Proof.Machine

/-- Access codes (06, Access types); cnt is RO with the field name COUNT, a counter register (R878). -/
inductive Acc where
  | ro | cnt | rw | w1c | w1s | rc | wo
  deriving DecidableEq, Repr

/-- One register field: bit position in its page, width, access, reset value. -/
structure Fld where
  pos : Nat
  w : Nat
  acc : Acc
  rst : Nat
  deriving DecidableEq, Repr

/-- Page kinds, with the block type codes of 06 (Block types and instances). -/
inductive PT where
  | dev | clk | rst | pwr | thm | plant | feGlobal | feSlot | cl | seq | core | qsu | forest | nse | iod | port
  | gate | fport | serdes | ptp | parse | classp | flow | station | trig | hold | verdict | rate | slowpath
  | pcie | dma | part | trust | hk | fab | fabRoute | fabTime | fabEpoch | hbm | obs | obsTrace | obsTap
  | flt | cruise | fltAon | wfg
  deriving DecidableEq, Repr

namespace R
/-! common header -/
/-- PG_CTRL.ENABLE -/ def pgCtrlEnable : Fld := ⟨64, 1, .rw, 1⟩
/-- PG_CTRL.SOFT_RESET -/ def pgCtrlSoftReset : Fld := ⟨65, 1, .w1s, 0⟩
/-- PG_STATUS.READY -/ def pgStatusReady : Fld := ⟨96, 1, .ro, 0⟩
/-- PG_STATUS.BUSY -/ def pgStatusBusy : Fld := ⟨97, 1, .ro, 0⟩
/-- PG_STATUS.FAULT -/ def pgStatusFault : Fld := ⟨98, 1, .ro, 0⟩
/-- PG_STATUS.DEGRADED -/ def pgStatusDegraded : Fld := ⟨99, 1, .ro, 0⟩
/-- PG_STATUS.STATE -/ def pgStatusState : Fld := ⟨104, 8, .ro, 0⟩
/-- PG_IRQ_STATUS.STATUS -/ def pgIrqStatus : Fld := ⟨128, 32, .w1c, 0⟩
/-- PG_IRQ_ENABLE.ENABLE -/ def pgIrqEnable : Fld := ⟨160, 32, .rw, 0⟩
/-- PG_IRQ_SET.SET -/ def pgIrqSet : Fld := ⟨192, 32, .w1s, 0⟩
/-- PG_ERR_CODE.CODE -/ def pgErrCodeCode : Fld := ⟨224, 16, .rc, 0⟩
/-- PG_ERR_CODE.COUNT -/ def pgErrCodeCount : Fld := ⟨240, 16, .rc, 0⟩
/-- PG_PROGRESS.COUNT -/ def pgProgress : Fld := ⟨256, 32, .cnt, 0⟩
/-- PG_TALLY_CTRL.LATCH_EN -/ def pgTallyCtrlLatchEn : Fld := ⟨288, 1, .rw, 1⟩
/-- PG_TALLY_CTRL.FREEZE_EN -/ def pgTallyCtrlFreezeEn : Fld := ⟨289, 1, .rw, 1⟩
/-- PG_TALLY_CTRL.LATCH_SEQ -/ def pgTallyCtrlLatchSeq : Fld := ⟨296, 8, .ro, 0⟩
/-- PG_SENTINEL.COUNT -/ def pgSentinel (i : Nat) : Fld := ⟨320 + 32 * i, 32, .cnt, 0⟩
/-! feGlobal page -/
/-- FE_KQ_SQ_BASE.ADDR -/ def feKqSqBase : Fld := ⟨512, 64, .rw, 0⟩
/-- FE_KQ_CQ_BASE.ADDR -/ def feKqCqBase : Fld := ⟨576, 64, .rw, 0⟩
/-- FE_KQ_CFG.SQ_LOG2 -/ def feKqCfgSqLog2 : Fld := ⟨640, 5, .rw, 0⟩
/-- FE_KQ_CFG.CQ_LOG2 -/ def feKqCfgCqLog2 : Fld := ⟨648, 5, .rw, 0⟩
/-- FE_KQ_CFG.MSIX_VECTOR -/ def feKqCfgMsixVector : Fld := ⟨656, 11, .rw, 0⟩
/-- FE_KQ_CTRL.ENABLE -/ def feKqCtrlEnable : Fld := ⟨672, 1, .rw, 0⟩
/-- FE_KQ_CTRL.CFG_ERR -/ def feKqCtrlCfgErr : Fld := ⟨673, 1, .ro, 0⟩
/-- FE_QUEUES_ACTIVE.COUNT -/ def feQueuesActive : Fld := ⟨704, 11, .cnt, 0⟩
/-- FE_SLOTS_PINNED.COUNT -/ def feSlotsPinned : Fld := ⟨736, 5, .cnt, 0⟩
/-- FE_DB_REJECT.COUNT -/ def feDbReject : Fld := ⟨768, 32, .cnt, 0⟩
/-- FE_PRIV_REJECT.COUNT -/ def fePrivReject : Fld := ⟨800, 32, .cnt, 0⟩
/-- FE_QCB_MISS.COUNT -/ def feQcbMiss : Fld := ⟨832, 32, .cnt, 0⟩
/-- FE_CE_DROPPED.COUNT -/ def feCeDropped : Fld := ⟨864, 32, .cnt, 0⟩
/-- FE_GRANTS.COUNT -/ def feGrants : Fld := ⟨896, 32, .cnt, 0⟩
/-- FE_CANCEL_AT_GRANT.COUNT -/ def feCancelAtGrant : Fld := ⟨928, 32, .cnt, 0⟩
/-! feSlot page -/
/-- SLOT_STATE.STATE -/ def slotStateState (s : Nat) : Fld := ⟨512 + 256 * s, 4, .ro, 0⟩
/-- SLOT_STATE.PINNED -/ def slotStatePinned (s : Nat) : Fld := ⟨516 + 256 * s, 1, .ro, 0⟩
/-- SLOT_STATE.QUEUE -/ def slotStateQueue (s : Nat) : Fld := ⟨528 + 256 * s, 10, .ro, 0⟩
/-- SLOT_STATE.INFLIGHT -/ def slotStateInflight (s : Nat) : Fld := ⟨540 + 256 * s, 3, .ro, 0⟩
/-- SLOT_PROGRESS.COUNT -/ def slotProgress (s : Nat) : Fld := ⟨544 + 256 * s, 32, .cnt, 0⟩
/-- SLOT_SQ_INDEX.INDEX -/ def slotSqIndex (s : Nat) : Fld := ⟨576 + 256 * s, 16, .ro, 0⟩
/-- SLOT_STEP.STEP -/ def slotStepStep (s : Nat) : Fld := ⟨608 + 256 * s, 16, .ro, 0⟩
/-- SLOT_STEP.OPCODE -/ def slotStepOpcode (s : Nat) : Fld := ⟨624 + 256 * s, 8, .ro, 0⟩
/-- SLOT_IQ.IQ -/ def slotIqIq (s : Nat) : Fld := ⟨640 + 256 * s, 8, .ro, 0⟩
/-- SLOT_IQ.VALID -/ def slotIqValid (s : Nat) : Fld := ⟨648 + 256 * s, 1, .ro, 0⟩
/-! cl page -/
/-- CL_CORE_READY.MASK -/ def clCoreReady : Fld := ⟨512, 8, .ro, 0⟩
/-- CL_CORE_FAULT.MASK -/ def clCoreFault : Fld := ⟨544, 8, .ro, 0⟩
/-- CL_CM_CE.COUNT -/ def clCmCe : Fld := ⟨576, 32, .cnt, 0⟩
/-- CL_CM_UE.COUNT -/ def clCmUe : Fld := ⟨608, 32, .cnt, 0⟩
/-- CL_MAC.COUNT -/ def clMac : Fld := ⟨640, 64, .cnt, 0⟩
/-- CL_ARRAY_BUSY.COUNT -/ def clArrayBusy : Fld := ⟨704, 64, .cnt, 0⟩
/-- CL_STEPS.COUNT -/ def clSteps : Fld := ⟨768, 32, .cnt, 0⟩
/-- CL_SAT.COUNT -/ def clSat : Fld := ⟨800, 32, .cnt, 0⟩
/-- CL_NAN.COUNT -/ def clNan : Fld := ⟨832, 32, .cnt, 0⟩
/-- CL_OOB.COUNT -/ def clOob : Fld := ⟨864, 32, .cnt, 0⟩
/-- CL_CM_USED.KIB -/ def clCmUsed : Fld := ⟨896, 15, .ro, 0⟩
/-! seq page -/
/-- SEQ_STREAM.SLOT -/ def seqStreamSlot (i : Nat) : Fld := ⟨512 + 128 * i, 5, .ro, 0⟩
/-- SEQ_STREAM.VALID -/ def seqStreamValid (i : Nat) : Fld := ⟨520 + 128 * i, 1, .ro, 0⟩
/-- SEQ_STREAM.STEP -/ def seqStreamStep (i : Nat) : Fld := ⟨528 + 128 * i, 16, .ro, 0⟩
/-- SEQ_WAIT.OPCODE -/ def seqWaitOpcode (i : Nat) : Fld := ⟨544 + 128 * i, 8, .ro, 0⟩
/-- SEQ_WAIT.REASON -/ def seqWaitReason (i : Nat) : Fld := ⟨552 + 128 * i, 3, .ro, 0⟩
/-- SEQ_DONE.COUNT -/ def seqDone (i : Nat) : Fld := ⟨576 + 128 * i, 32, .cnt, 0⟩
/-! core page -/
/-- CORE_STATE.STATE -/ def coreState : Fld := ⟨512, 2, .ro, 0⟩
/-- CORE_BUSY.COUNT -/ def coreBusy : Fld := ⟨544, 32, .cnt, 0⟩
/-- CORE_TILES.COUNT -/ def coreTiles : Fld := ⟨576, 32, .cnt, 0⟩
/-- CORE_MEM_CE.COUNT -/ def coreMemCe : Fld := ⟨608, 32, .cnt, 0⟩
/-- CORE_MEM_UE.COUNT -/ def coreMemUe : Fld := ⟨640, 32, .cnt, 0⟩
/-! qsu page -/
/-- QSU_ELEMS.COUNT -/ def qsuElems : Fld := ⟨512, 32, .cnt, 0⟩
/-- QSU_SAT.COUNT -/ def qsuSat : Fld := ⟨544, 32, .cnt, 0⟩
/-! dev page -/
/-- EPOCH_CURRENT.EPOCH -/ def epochCurrent : Fld := ⟨4096, 16, .ro, 0⟩
/-- EPOCH_RESIDENT.COUNT -/ def epochResident : Fld := ⟨4128, 3, .cnt, 1⟩
/-- EPOCH_ID.EPOCH -/ def epochIdEpoch (i : Nat) : Fld := ⟨4224 + 64 * i, 16, .ro, 0⟩
/-- EPOCH_ID.VALID -/ def epochIdValid (i : Nat) : Fld := ⟨4255 + 64 * i, 1, .ro, 0⟩
/-- EPOCH_DRAIN.COUNT -/ def epochDrain (i : Nat) : Fld := ⟨4256 + 64 * i, 32, .cnt, 0⟩
/-- COMMIT_STATE.STATE -/ def commitState : Fld := ⟨4480, 2, .ro, 0⟩
/-- JOURNAL_SEQ.SEQ -/ def journalSeq : Fld := ⟨4512, 32, .ro, 0⟩
/-- MI_REVERIFY_FAIL.COUNT -/ def miReverifyFail : Fld := ⟨4544, 32, .cnt, 0⟩
/-- MI_STAGE_REJECT.COUNT -/ def miStageReject : Fld := ⟨4576, 32, .cnt, 0⟩
/-- MS_SELECT.SLOT -/ def msSelect : Fld := ⟨4608, 8, .rw, 0⟩
/-- DEV_STEPPING.STEPPING -/ def devStepping : Fld := ⟨544, 8, .ro, 0⟩
/-- DEV_SERIAL.SERIAL -/ def devSerial : Fld := ⟨576, 64, .ro, 0⟩
/-- DEV_FW_VERSION.VERSION -/ def devFwVersion : Fld := ⟨640, 32, .ro, 0⟩
/-- DEV_FW_CLASS.CLASS -/ def devFwClass : Fld := ⟨672, 8, .ro, 0⟩
/-- DEV_ACCESS_ERR.COUNT -/ def devAccessErr : Fld := ⟨704, 32, .cnt, 0⟩
/-- DEV_ACCESS_ADDR.OFFSET -/ def devAccessAddrOffset : Fld := ⟨736, 26, .ro, 0⟩
/-- DEV_ACCESS_ADDR.FUNCTION -/ def devAccessAddrFunction : Fld := ⟨762, 5, .ro, 0⟩
/-- DEV_VF_WRITE_DROP.COUNT -/ def devVfWriteDrop : Fld := ⟨768, 32, .cnt, 0⟩
/-- DEV_IRQ_PENDING.GROUPS -/ def devIrqPending : Fld := ⟨1024, 32, .ro, 0⟩
/-- DEV_IRQ_SEL.GROUP -/ def devIrqSel : Fld := ⟨1056, 5, .rw, 0⟩
/-- DEV_IRQ_PAGES.PAGES -/ def devIrqPages : Fld := ⟨1088, 64, .ro, 0⟩
/-- DEV_IRQ_ROUTE.VECTOR -/ def devIrqRouteVector (g : Nat) : Fld := ⟨2048 + 32 * g, 11, .rw, 0⟩
/-- DEV_IRQ_ROUTE.ROUTE_EN -/ def devIrqRouteRouteEn (g : Nat) : Fld := ⟨2079 + 32 * g, 1, .rw, 0⟩
/-! clk page -/
/-- CLK_STATE.STATE -/ def clkStateState : Fld := ⟨512, 3, .ro, 0⟩
/-- CLK_STATE.REF_SRC -/ def clkStateRefSrc : Fld := ⟨516, 1, .ro, 0⟩
/-- CLK_STATE.REF_OK -/ def clkStateRefOk : Fld := ⟨517, 1, .ro, 0⟩
/-- CLK_STATE.SWALLOW_LEVEL -/ def clkStateSwallowLevel : Fld := ⟨520, 3, .ro, 0⟩
/-- CLK_FLAGS.REF_LOST -/ def clkFlagsRefLost : Fld := ⟨544, 1, .w1c, 0⟩
/-- CLK_FLAGS.DESKEW_ALARM -/ def clkFlagsDeskewAlarm : Fld := ⟨545, 1, .w1c, 0⟩
/-- CLK_FLAGS.TRIM_HOLD -/ def clkFlagsTrimHold : Fld := ⟨546, 1, .w1c, 0⟩
/-- CLK_SRC_CTRL.POLICY -/ def clkSrcCtrl : Fld := ⟨576, 2, .rw, 2⟩
/-- CLK_SRC_CMD.SWITCH_TO_IOSC -/ def clkSrcCmdSwitchToIosc : Fld := ⟨608, 1, .wo, 0⟩
/-- CLK_SRC_CMD.SWITCH_TO_REF -/ def clkSrcCmdSwitchToRef : Fld := ⟨609, 1, .wo, 0⟩
/-- CLK_COAST_DELAY.US -/ def clkCoastDelay : Fld := ⟨640, 16, .rw, 1000⟩
/-- CLK_CK4_COUNT.COUNT -/ def clkCk4Count : Fld := ⟨704, 64, .cnt, 0⟩
/-- IOSC_TRIM.TRIM -/ def ioscTrim : Fld := ⟨768, 24, .rw, Config.ioscTrimFuse % 2 ^ 24⟩
/-- IOSC_TRIM_CTRL.MODE -/ def ioscTrimCtrlMode : Fld := ⟨800, 2, .rw, 0⟩
/-- IOSC_TRIM_CTRL.FREEZE -/ def ioscTrimCtrlFreeze : Fld := ⟨802, 1, .rw, 0⟩
/-- IOSC_TRIM_CTRL.FRAME_PORT -/ def ioscTrimCtrlFramePort : Fld := ⟨804, 3, .rw, 0⟩
/-- IOSC_TRIM_CTRL.STEP_MAX -/ def ioscTrimCtrlStepMax : Fld := ⟨816, 16, .rw, 1000⟩
/-- IOSC_TRIM_ERR.ERR -/ def ioscTrimErr : Fld := ⟨832, 32, .ro, 0⟩
/-- DESKEW_CTRL.FREEZE -/ def deskewCtrl : Fld := ⟨992, 1, .rw, 0⟩
/-- DESKEW_STAT.TAP -/ def deskewStatTap (i : Nat) : Fld := ⟨1024 + 32 * i, 9, .ro, 256⟩
/-- DESKEW_STAT.LOCK -/ def deskewStatLock (i : Nat) : Fld := ⟨1033 + 32 * i, 1, .ro, 0⟩
/-- DESKEW_STAT.ERR -/ def deskewStatErr (i : Nat) : Fld := ⟨1040 + 32 * i, 8, .ro, 0⟩
/-- SWALLOW_EDGES.COUNT -/ def swallowEdges : Fld := ⟨1280, 64, .cnt, 0⟩
/-- FMC_CTRL.MEAS -/ def fmcCtrlMeas : Fld := ⟨1536, 4, .rw, 0⟩
/-- FMC_CTRL.REF -/ def fmcCtrlRef : Fld := ⟨1544, 4, .rw, 0⟩
/-- FMC_CTRL.LANE -/ def fmcCtrlLane : Fld := ⟨1552, 7, .rw, 0⟩
/-- FMC_CTRL.DIE -/ def fmcCtrlDie : Fld := ⟨1560, 3, .rw, 0⟩
/-- FMC_CTRL.START -/ def fmcCtrlStart : Fld := ⟨1567, 1, .w1s, 0⟩
/-- FMC_WINDOW.EDGES -/ def fmcWindow : Fld := ⟨1568, 32, .rw, 1⟩
/-- FMC_STATUS.BUSY -/ def fmcStatusBusy : Fld := ⟨1600, 1, .ro, 0⟩
/-- FMC_STATUS.DONE -/ def fmcStatusDone : Fld := ⟨1601, 1, .ro, 0⟩
/-- FMC_STATUS.NO_EDGE -/ def fmcStatusNoEdge : Fld := ⟨1602, 1, .ro, 0⟩
/-- FMC_STATUS.OVERFLOW -/ def fmcStatusOverflow : Fld := ⟨1603, 1, .ro, 0⟩
/-- FMC_COUNT.COUNT -/ def fmcCount : Fld := ⟨1664, 48, .cnt, 0⟩
/-- CLK_EN.EN -/ def clkEn (j : Nat) : Fld := ⟨2048 + 32 * j, 32, .rw, 0⟩
/-! rst page -/
/-- RST_CMD.KEY -/ def rstCmdKey : Fld := ⟨512, 8, .wo, 0⟩
/-- RST_CMD.WARM -/ def rstCmdWarm : Fld := ⟨520, 1, .wo, 0⟩
/-- RST_PART_CMD.PARTS -/ def rstPartCmd : Fld := ⟨544, 16, .w1s, 0⟩
/-- RST_CAUSE.CAUSE -/ def rstCause : Fld := ⟨576, 3, .ro, 0⟩
/-- RST_COUNTS.WARM -/ def rstCountsWarm : Fld := ⟨608, 16, .ro, 0⟩
/-- RST_COUNTS.PERST -/ def rstCountsPerst : Fld := ⟨624, 16, .ro, 0⟩
/-- RST_ORDER.PORTS_FIRST -/ def rstOrder : Fld := ⟨640, 1, .rw, 0⟩
/-- RST_PHASE.PHASE -/ def rstPhase : Fld := ⟨672, 3, .ro, 0⟩
/-- RST_WB_LOST.COUNT -/ def rstWbLost : Fld := ⟨704, 32, .cnt, 0⟩
/-- RST_READY_MAP0.CL -/ def rstReadyMap0Cl : Fld := ⟨768, 16, .ro, 0⟩
/-- RST_READY_MAP0.NSE -/ def rstReadyMap0Nse : Fld := ⟨784, 8, .ro, 0⟩
/-- RST_READY_MAP0.HBM -/ def rstReadyMap0Hbm : Fld := ⟨792, 8, .ro, 0⟩
/-- RST_READY_MAP1.PORT -/ def rstReadyMap1Port : Fld := ⟨800, 16, .ro, 0⟩
/-- RST_READY_MAP1.PIPE -/ def rstReadyMap1Pipe : Fld := ⟨816, 8, .ro, 0⟩
/-- RST_READY_MAP1.FLOW -/ def rstReadyMap1Flow : Fld := ⟨824, 4, .ro, 0⟩
/-- RST_READY_MAP1.STATION -/ def rstReadyMap1Station : Fld := ⟨828, 4, .ro, 0⟩
/-- RST_READY_MAP2.DEVICE -/ def rstReadyMap2Device : Fld := ⟨832, 13, .ro, 0⟩
/-- RST_READY_MAP2.IOD -/ def rstReadyMap2Iod : Fld := ⟨848, 4, .ro, 0⟩
/-- RST_READY_MAP2.FPORT -/ def rstReadyMap2Fport : Fld := ⟨852, 8, .ro, 0⟩
/-! iod page -/
/-- IOD_READY.PORT -/ def iodReadyPort : Fld := ⟨512, 4, .ro, 0⟩
/-- IOD_READY.FPORT -/ def iodReadyFport : Fld := ⟨516, 2, .ro, 0⟩
/-- IOD_READY.PARSE -/ def iodReadyParse : Fld := ⟨518, 2, .ro, 0⟩
/-- IOD_READY.CLASS -/ def iodReadyClass : Fld := ⟨520, 2, .ro, 0⟩
/-- IOD_READY.BLOCKS -/ def iodReadyBlocks : Fld := ⟨522, 9, .ro, 0⟩
/-- IOD_MODE.CACHE_ONLY -/ def iodMode : Fld := ⟨544, 1, .ro, 0⟩
/-- IOD_NOTREADY_DROP.COUNT -/ def iodNotreadyDrop : Fld := ⟨576, 32, .cnt, 0⟩
/-- IOD_HOLD_BYPASS.COUNT -/ def iodHoldBypass : Fld := ⟨608, 32, .cnt, 0⟩
/-! pcie page -/
/-- PCIE_LINK.SPEED -/ def pcieLinkSpeed : Fld := ⟨512, 3, .ro, 0⟩
/-- PCIE_LINK.WIDTH -/ def pcieLinkWidth : Fld := ⟨516, 5, .ro, 0⟩
/-- PCIE_LINK.LTSSM -/ def pcieLinkLtssm : Fld := ⟨528, 6, .ro, 0⟩
/-- PCIE_CTRL.CLK_MODE -/ def pcieCtrlClkMode : Fld := ⟨544, 1, .rw, 0⟩
/-- PCIE_CTRL.RO_DATA -/ def pcieCtrlRoData : Fld := ⟨545, 1, .rw, 1⟩
/-- PCIE_RETRAIN.COUNT -/ def pcieRetrain : Fld := ⟨576, 32, .cnt, 0⟩
/-- PCIE_CORR_ERR.COUNT -/ def pcieCorrErr : Fld := ⟨608, 32, .cnt, 0⟩
/-- PCIE_UNCORR_ERR.COUNT -/ def pcieUncorrErr : Fld := ⟨640, 32, .cnt, 0⟩
/-! dma page -/
/-- DMA_ENG_BUSY.MASK -/ def dmaEngBusy : Fld := ⟨512, 8, .ro, 0⟩
/-- DMA_RD_BYTES.COUNT -/ def dmaRdBytes : Fld := ⟨576, 64, .cnt, 0⟩
/-- DMA_WR_BYTES.COUNT -/ def dmaWrBytes : Fld := ⟨640, 64, .cnt, 0⟩
/-- DMA_BME_WAIT.COUNT -/ def dmaBmeWait : Fld := ⟨704, 32, .cnt, 0⟩
/-- DMA_HOST_ERR.COUNT -/ def dmaHostErr : Fld := ⟨736, 32, .cnt, 0⟩
/-! part page -/
/-- PART_ENABLED.MASK -/ def partEnabled : Fld := ⟨512, 16, .ro, 1⟩
/-- PART_PF_WIN_LO.BASE -/ def partPfWinLo : Fld := ⟨597, 11, .rw, 0⟩
/-- PART_PF_WIN_HI.BASE -/ def partPfWinHi : Fld := ⟨608, 8, .rw, 0⟩
/-- PART_FW_ADDR.ADDR -/ def partFwAddr : Fld := ⟨640, 40, .ro, 0⟩
/-- PART_FW_ADDR_HI.PARTITION -/ def partFwAddrHiPartition : Fld := ⟨688, 4, .ro, 0⟩
/-- PART_FW_ADDR_HI.WRITE -/ def partFwAddrHiWrite : Fld := ⟨696, 1, .ro, 0⟩
/-- PART_FW_VIOL.COUNT -/ def partFwViol (p : Nat) : Fld := ⟨1024 + 32 * p, 32, .cnt, 0⟩
/-! trust page -/
/-- TRUST_BOOT.BANK -/ def trustBootBank : Fld := ⟨512, 1, .ro, 0⟩
/-- TRUST_BOOT.KEY_INDEX -/ def trustBootKeyIndex : Fld := ⟨520, 2, .ro, 0⟩
/-- TRUST_BOOT.FW_SVN -/ def trustBootFwSvn : Fld := ⟨528, 6, .ro, 0⟩
/-- TRUST_BOOT.FUSE_SVN -/ def trustBootFuseSvn : Fld := ⟨536, 6, .ro, 0⟩
/-- TRUST_REVOKED.MASK -/ def trustRevoked : Fld := ⟨544, 4, .ro, 0⟩
/-- TRUST_BOOT_FAIL.COUNT -/ def trustBootFail : Fld := ⟨576, 32, .cnt, 0⟩
/-- TRUST_MEAS_SEL.REG -/ def trustMeasSel : Fld := ⟨608, 3, .rw, 0⟩
/-! port page -/
/-- PORT_CFG.SPEED -/ def portCfgSpeed : Fld := ⟨512, 3, .rw, 0⟩
/-- PORT_CFG.MEDIA -/ def portCfgMedia : Fld := ⟨515, 2, .rw, 0⟩
/-- PORT_CFG.AN_EN -/ def portCfgAnEn : Fld := ⟨517, 1, .rw, 1⟩
/-- PORT_CFG.LT_EN -/ def portCfgLtEn : Fld := ⟨518, 1, .rw, 1⟩
/-- PORT_CFG.PREEMPT_EN -/ def portCfgPreemptEn : Fld := ⟨519, 1, .rw, 0⟩
/-- PORT_CFG.VERIFY_DIS -/ def portCfgVerifyDis : Fld := ⟨520, 1, .rw, 0⟩
/-- PORT_CFG.ADD_FRAG -/ def portCfgAddFrag : Fld := ⟨521, 2, .rw, 0⟩
/-- PORT_CFG.LANE_REV -/ def portCfgLaneRev : Fld := ⟨523, 1, .rw, 0⟩
/-- PORT_MAX_FRAME.BYTES -/ def portMaxFrame : Fld := ⟨544, 14, .rw, 9216⟩
/-- PORT_TAG.TAG_TX -/ def portTagTagTx : Fld := ⟨576, 2, .rw, 0⟩
/-- PORT_TAG.TAG_RX -/ def portTagTagRx : Fld := ⟨578, 2, .rw, 0⟩
/-- PORT_TAG.ETHERTYPE -/ def portTagEthertype : Fld := ⟨592, 16, .rw, 34997⟩
/-- PORT_PAUSE.PAUSE_EN -/ def portPausePauseEn : Fld := ⟨608, 1, .rw, 0⟩
/-- PORT_PAUSE.PFC_EN -/ def portPausePfcEn : Fld := ⟨609, 1, .rw, 0⟩
/-- PORT_PCP_TC.MAP -/ def portPcpTc : Fld := ⟨640, 24, .rw, 16434824⟩
/-- PORT_STATUS.LINK -/ def portStatusLink : Fld := ⟨672, 1, .ro, 0⟩
/-- PORT_STATUS.PCS_LOCK -/ def portStatusPcsLock : Fld := ⟨673, 1, .ro, 0⟩
/-- PORT_STATUS.PAUSED -/ def portStatusPaused : Fld := ⟨674, 1, .ro, 0⟩
/-- PORT_STATUS.PFC_PAUSED -/ def portStatusPfcPaused : Fld := ⟨680, 8, .ro, 0⟩
/-- PORT_STATUS.PREEMPT_ACTIVE -/ def portStatusPreemptActive : Fld := ⟨688, 1, .ro, 0⟩
/-- PORT_TS_LAT_RX.PS -/ def portTsLatRx : Fld := ⟨704, 16, .rw, 0⟩
/-- PORT_TS_LAT_TX.PS -/ def portTsLatTx : Fld := ⟨736, 16, .rw, 0⟩
/-- PORT_PTP.TS_EVENTS -/ def portPtp : Fld := ⟨768, 1, .rw, 0⟩
/-- RX_FRAMES.COUNT -/ def rxFrames : Fld := ⟨1024, 64, .cnt, 0⟩
/-- RX_BYTES.COUNT -/ def rxBytes : Fld := ⟨1088, 64, .cnt, 0⟩
/-- TX_FRAMES.COUNT -/ def txFrames : Fld := ⟨1152, 64, .cnt, 0⟩
/-- TX_BYTES.COUNT -/ def txBytes : Fld := ⟨1216, 64, .cnt, 0⟩
/-- RX_FCS_ERR.COUNT -/ def rxFcsErr : Fld := ⟨1280, 32, .cnt, 0⟩
/-- RX_RUNT.COUNT -/ def rxRunt : Fld := ⟨1312, 32, .cnt, 0⟩
/-- RX_OVERSIZE.COUNT -/ def rxOversize : Fld := ⟨1344, 32, .cnt, 0⟩
/-- RX_PAUSE.COUNT -/ def rxPause : Fld := ⟨1376, 32, .cnt, 0⟩
/-- RX_PFC.COUNT -/ def rxPfc : Fld := ⟨1408, 32, .cnt, 0⟩
/-- RX_FEC_CORR.COUNT -/ def rxFecCorr : Fld := ⟨1440, 32, .cnt, 0⟩
/-- RX_FEC_UNCORR.COUNT -/ def rxFecUncorr : Fld := ⟨1472, 32, .cnt, 0⟩
/-- RX_ASSEMBLY_ERR.COUNT -/ def rxAssemblyErr : Fld := ⟨1504, 32, .cnt, 0⟩
/-- TX_FCS_FORCED.COUNT -/ def txFcsForced : Fld := ⟨1536, 32, .cnt, 0⟩
/-- TX_QUEUE_DROP.COUNT -/ def txQueueDrop : Fld := ⟨1568, 32, .cnt, 0⟩
/-- TX_LINK_DROP.COUNT -/ def txLinkDrop : Fld := ⟨1600, 32, .cnt, 0⟩
/-- TAG_INSERTED.COUNT -/ def tagInserted : Fld := ⟨1632, 32, .cnt, 0⟩
/-- TAG_STRIPPED.COUNT -/ def tagStripped : Fld := ⟨1664, 32, .cnt, 0⟩
/-- TAG_RX_DROP.COUNT -/ def tagRxDrop : Fld := ⟨1696, 32, .cnt, 0⟩
/-- TAG_SUPPRESSED_FIT.COUNT -/ def tagSuppressedFit : Fld := ⟨1728, 32, .cnt, 0⟩
/-- TAG_SUPPRESSED_MTU.COUNT -/ def tagSuppressedMtu : Fld := ⟨1760, 32, .cnt, 0⟩
/-- HELD_FOR_WINDOW.COUNT -/ def heldForWindow : Fld := ⟨1792, 32, .cnt, 0⟩
/-- OVERSIZE_FOR_SCHEDULE.COUNT -/ def oversizeForSchedule : Fld := ⟨1824, 32, .cnt, 0⟩
/-- PREEMPT_FRAGMENTS.COUNT -/ def preemptFragments : Fld := ⟨1856, 32, .cnt, 0⟩
/-- TS_FIFO_OVERRUN.COUNT -/ def tsFifoOverrun : Fld := ⟨1888, 32, .cnt, 0⟩
/-- TS_STATUS.COUNT -/ def tsStatus : Fld := ⟨2048, 7, .cnt, 0⟩
/-- TS_POP.POP -/ def tsPop : Fld := ⟨2080, 1, .wo, 0⟩
/-! gate page -/
/-- GATE_CTRL.ENABLE -/ def gateCtrlEnable : Fld := ⟨512, 1, .rw, 0⟩
/-- GATE_CTRL.COMMIT -/ def gateCtrlCommit : Fld := ⟨513, 1, .w1s, 0⟩
/-- GATE_CTRL.VIEW -/ def gateCtrlView : Fld := ⟨514, 1, .rw, 0⟩
/-- GATE_ADMIN_LEN.ENTRIES -/ def gateAdminLen : Fld := ⟨544, 9, .rw, 1⟩
/-- GATE_ADMIN_BASE.NS -/ def gateAdminBase : Fld := ⟨576, 64, .rw, 0⟩
/-- GATE_ADMIN_CYCLE.NS -/ def gateAdminCycle : Fld := ⟨640, 30, .rw, 1000000⟩
/-- GATE_ADMIN_CYCLE_EXT.NS -/ def gateAdminCycleExt : Fld := ⟨672, 30, .rw, 0⟩
/-- GATE_INIT_STATES.GATES -/ def gateInitStates : Fld := ⟨704, 8, .rw, 255⟩
/-- GATE_TC_PREEMPT.MASK -/ def gateTcPreempt : Fld := ⟨736, 8, .rw, 0⟩
/-- GATE_GUARD_NS.NS -/ def gateGuardNs : Fld := ⟨768, 8, .rw, 4⟩
/-- GATE_POLICY.TAG_FIT -/ def gatePolicy : Fld := ⟨800, 1, .rw, 0⟩
/-- GATE_OPER_BASE.NS -/ def gateOperBase : Fld := ⟨832, 64, .ro, 0⟩
/-- GATE_OPER_CYCLE.NS -/ def gateOperCycle : Fld := ⟨896, 30, .ro, 0⟩
/-- GATE_OPER_STATES.GATES -/ def gateOperStates : Fld := ⟨928, 8, .ro, 255⟩
/-- GATE_CHANGE.NS -/ def gateChange : Fld := ⟨960, 64, .ro, 0⟩
/-- GATE_MAX_WINDOW.NS -/ def gateMaxWindow (t : Nat) : Fld := ⟨1024 + 32 * t, 32, .ro, 0⟩
/-! ptp page -/
/-- PTP_CAPTURE.GO -/ def ptpCapture : Fld := ⟨512, 1, .w1s, 0⟩
/-- PTP_TIME_NS.NS -/ def ptpTimeNs : Fld := ⟨544, 30, .ro, 0⟩
/-- PTP_TIME_SEC.SEC -/ def ptpTimeSec : Fld := ⟨576, 48, .ro, 0⟩
/-- PTP_TIME_FRAC.FRAC -/ def ptpTimeFrac : Fld := ⟨640, 16, .ro, 0⟩
/-- PTP_STEP.NS -/ def ptpStep : Fld := ⟨704, 64, .wo, 0⟩
/-- PTP_RATE.RATE -/ def ptpRate : Fld := ⟨768, 32, .rw, 0⟩
/-- PTP_CTRL.PTP_SRC -/ def ptpCtrlPtpSrc : Fld := ⟨800, 1, .rw, 0⟩
/-- PTP_CTRL.PTP_TC_EN -/ def ptpCtrlPtpTcEn : Fld := ⟨801, 1, .rw, 0⟩
/-- PTP_PPS_CTRL.PPS_OUT_EN -/ def ptpPpsCtrlPpsOutEn : Fld := ⟨832, 1, .rw, 0⟩
/-- PTP_PPS_CTRL.PPS_IN_EN -/ def ptpPpsCtrlPpsInEn : Fld := ⟨833, 1, .rw, 0⟩
/-- PTP_PPS_CTRL.PPS_IN_FALL -/ def ptpPpsCtrlPpsInFall : Fld := ⟨834, 1, .rw, 0⟩
/-- PTP_PPS_CTRL.PPS_OUT_WIDTH -/ def ptpPpsCtrlPpsOutWidth : Fld := ⟨840, 24, .rw, 100000⟩
/-! parse page -/
/-- PARSE_STATES_USED.COUNT -/ def parseStatesUsed : Fld := ⟨512, 7, .cnt, 0⟩
/-- PARSE_PKTS.COUNT -/ def parsePkts : Fld := ⟨544, 32, .cnt, 0⟩
/-- PARSE_PARITY_INDEX.INDEX -/ def parseParityIndex : Fld := ⟨576, 6, .ro, 0⟩
/-! classp page -/
/-- CLASS_GEN.CURRENT -/ def classGenCurrent : Fld := ⟨512, 3, .ro, 0⟩
/-- CLASS_GEN.LIVE -/ def classGenLive : Fld := ⟨520, 8, .ro, 1⟩
/-- CLASS_GEN.BUILDING -/ def classGenBuilding : Fld := ⟨528, 3, .ro, 0⟩
/-- CLASS_GEN.BUILD_VALID -/ def classGenBuildValid : Fld := ⟨531, 1, .ro, 0⟩
/-- CLASS_GEN.SWEEP -/ def classGenSweep : Fld := ⟨532, 1, .ro, 0⟩
/-- CLASS_DRAIN.COUNT -/ def classDrain (g : Nat) : Fld := ⟨544 + 32 * g, 32, .cnt, 0⟩
/-- CLASS_USED.EXACT -/ def classUsed : Fld := ⟨800, 17, .ro, 0⟩
/-- CLASS_USED2.TERNARY -/ def classUsed2Ternary : Fld := ⟨832, 13, .ro, 0⟩
/-- CLASS_USED2.RANGE -/ def classUsed2Range : Fld := ⟨848, 7, .ro, 0⟩
/-- CLASS_USED2.PROFILES -/ def classUsed2Profiles : Fld := ⟨856, 4, .ro, 0⟩
/-- CLASS_EXACT_WIN.COUNT -/ def classExactWin : Fld := ⟨896, 32, .cnt, 0⟩
/-- CLASS_TERNARY_WIN.COUNT -/ def classTernaryWin : Fld := ⟨928, 32, .cnt, 0⟩
/-- CLASS_DEFAULT.COUNT -/ def classDefault : Fld := ⟨960, 32, .cnt, 0⟩
/-- CLASS_PARITY_INDEX.INDEX -/ def classParityIndex : Fld := ⟨992, 17, .ro, 0⟩
/-! slowpath page -/
/-- SP_REASON_COUNT.COUNT -/ def spReasonCount (r : Nat) : Fld := ⟨512 + 32 * r, 32, .cnt, 0⟩
/-- SP_DELIVERED.COUNT -/ def spDelivered : Fld := ⟨2560, 32, .cnt, 0⟩
/-- SP_RING_FULL.COUNT -/ def spRingFull : Fld := ⟨2592, 32, .cnt, 0⟩
/-- SP_NO_FUNCTION.COUNT -/ def spNoFunction : Fld := ⟨2624, 32, .cnt, 0⟩
/-- SP_DMA_DROP.COUNT -/ def spDmaDrop : Fld := ⟨2656, 32, .cnt, 0⟩
/-- SP_TRUNC.COUNT -/ def spTrunc : Fld := ⟨2688, 32, .cnt, 0⟩
/-- SP_TX_FRAMES.COUNT -/ def spTxFrames : Fld := ⟨2720, 32, .cnt, 0⟩
/-- SP_TX_BAD.COUNT -/ def spTxBad : Fld := ⟨2752, 32, .cnt, 0⟩
/-- SP_RX_BASE.ADDR -/ def spRxBase (p : Nat) : Fld := ⟨4096 + 512 * p, 64, .rw, 0⟩
/-- SP_RX_CFG.LOG2 -/ def spRxCfgLog2 (p : Nat) : Fld := ⟨4160 + 512 * p, 5, .rw, 0⟩
/-- SP_RX_CFG.ENTRY_LOG2 -/ def spRxCfgEntryLog2 (p : Nat) : Fld := ⟨4168 + 512 * p, 4, .rw, 0⟩
/-- SP_RX_CFG.VECTOR -/ def spRxCfgVector (p : Nat) : Fld := ⟨4176 + 512 * p, 7, .rw, 0⟩
/-- SP_RX_CFG.ENABLE -/ def spRxCfgEnable (p : Nat) : Fld := ⟨4191 + 512 * p, 1, .rw, 0⟩
/-- SP_RX_HEAD.INDEX -/ def spRxHead (p : Nat) : Fld := ⟨4192 + 512 * p, 16, .rw, 0⟩
/-- SP_RX_TAIL.INDEX -/ def spRxTail (p : Nat) : Fld := ⟨4224 + 512 * p, 16, .ro, 0⟩
/-- SP_RX_HOLDOFF.US -/ def spRxHoldoff (p : Nat) : Fld := ⟨4256 + 512 * p, 16, .rw, 0⟩
/-- SP_TX_BASE.ADDR -/ def spTxBase (p : Nat) : Fld := ⟨4288 + 512 * p, 64, .rw, 0⟩
/-- SP_TX_CFG.LOG2 -/ def spTxCfgLog2 (p : Nat) : Fld := ⟨4352 + 512 * p, 5, .rw, 0⟩
/-- SP_TX_CFG.ENABLE -/ def spTxCfgEnable (p : Nat) : Fld := ⟨4383 + 512 * p, 1, .rw, 0⟩
/-- SP_TX_TAIL.INDEX -/ def spTxTail (p : Nat) : Fld := ⟨4384 + 512 * p, 16, .rw, 0⟩
/-- SP_TX_HEAD.INDEX -/ def spTxHead (p : Nat) : Fld := ⟨4416 + 512 * p, 16, .ro, 0⟩
/-- SP_TX_WB.ADDR -/ def spTxWb (p : Nat) : Fld := ⟨4480 + 512 * p, 64, .rw, 0⟩
/-! flow page -/
/-- FLOW_GEOM.LOG2 -/ def flowGeomLog2 : Fld := ⟨512, 5, .ro, 0⟩
/-- FLOW_GEOM.EVICT -/ def flowGeomEvict : Fld := ⟨520, 1, .rw, 1⟩
/-- FLOW_AGE_RATE.BUCKETS -/ def flowAgeRate : Fld := ⟨544, 11, .rw, 64⟩
/-- FLOW_WB_INTERVAL.US -/ def flowWbInterval : Fld := ⟨576, 16, .rw, 10000⟩
/-- FLOW_AGE_PASSES.COUNT -/ def flowAgePasses : Fld := ⟨608, 32, .cnt, 0⟩
/-- FLOW_AGE_T.UNITS -/ def flowAgeT (a : Nat) : Fld := ⟨640 + 32 * a, 32, .rw, 0⟩
/-- FLOW_HITS.COUNT -/ def flowHits : Fld := ⟨1024, 32, .cnt, 0⟩
/-- FLOW_MISSES.COUNT -/ def flowMisses : Fld := ⟨1056, 32, .cnt, 0⟩
/-- FLOW_REMOTE.COUNT -/ def flowRemote : Fld := ⟨1088, 32, .cnt, 0⟩
/-- FLOW_CREATED.COUNT -/ def flowCreated : Fld := ⟨1120, 32, .cnt, 0⟩
/-- FLOW_AGED.COUNT -/ def flowAged : Fld := ⟨1152, 32, .cnt, 0⟩
/-- FLOW_EVICTED.COUNT -/ def flowEvicted : Fld := ⟨1184, 32, .cnt, 0⟩
/-- FLOW_INSERT_FAIL.COUNT -/ def flowInsertFail : Fld := ⟨1216, 32, .cnt, 0⟩
/-- FLOW_LIMIT_MISS.COUNT -/ def flowLimitMiss : Fld := ⟨1248, 32, .cnt, 0⟩
/-- FLOW_COMMIT_STALE.COUNT -/ def flowCommitStale : Fld := ⟨1280, 32, .cnt, 0⟩
/-- FLOW_WRITE_WITHDRAWN.COUNT -/ def flowWriteWithdrawn : Fld := ⟨1312, 32, .cnt, 0⟩
/-- FLOW_TP_FULL.COUNT -/ def flowTpFull : Fld := ⟨1344, 32, .cnt, 0⟩
/-- FLOW_ECC.COUNT -/ def flowEcc : Fld := ⟨1376, 32, .cnt, 0⟩
/-- FLOW_ECC_INDEX.INDEX -/ def flowEccIndex : Fld := ⟨1408, 28, .ro, 0⟩
/-- FLOW_DIRTY.LINES -/ def flowDirty : Fld := ⟨1440, 20, .ro, 0⟩
/-- FLOW_MERGE.COUNT -/ def flowMerge : Fld := ⟨1472, 32, .cnt, 0⟩
/-- FLOW_TP_INUSE.SLOTS -/ def flowTpInuse : Fld := ⟨1504, 15, .ro, 0⟩
/-- FLOW_FLUSH_CURSOR.INDEX -/ def flowFlushCursor : Fld := ⟨1536, 29, .ro, 0⟩
/-- FLOW_PART_COUNT.COUNT -/ def flowPartCount (p : Nat) : Fld := ⟨2048 + 32 * p, 29, .cnt, 0⟩
/-! station page -/
/-- STATION_CFG.EVICT -/ def stationCfgEvict : Fld := ⟨512, 1, .rw, 1⟩
/-- STATION_CFG.MOVE_ACTION -/ def stationCfgMoveAction : Fld := ⟨513, 2, .rw, 0⟩
/-- STATION_CFG.LEARN_EN -/ def stationCfgLearnEn : Fld := ⟨515, 1, .rw, 1⟩
/-- STATION_SKID_PERIOD.MS -/ def stationSkidPeriod : Fld := ⟨544, 32, .rw, 100000⟩
/-- STATION_COUNT.ENTRIES -/ def stationCount : Fld := ⟨576, 19, .ro, 0⟩
/-- STATION_LEARNED.COUNT -/ def stationLearned : Fld := ⟨608, 32, .cnt, 0⟩
/-- STATION_MOVES.COUNT -/ def stationMoves : Fld := ⟨640, 32, .cnt, 0⟩
/-- STATION_MOVE_BLOCKED.COUNT -/ def stationMoveBlocked : Fld := ⟨672, 32, .cnt, 0⟩
/-- STATION_MOVE_DROP.COUNT -/ def stationMoveDrop : Fld := ⟨704, 32, .cnt, 0⟩
/-- STATION_LEARN_DROP.COUNT -/ def stationLearnDrop : Fld := ⟨736, 32, .cnt, 0⟩
/-- STATION_PARITY.COUNT -/ def stationParity : Fld := ⟨768, 32, .cnt, 0⟩
/-- STATION_PARITY_INDEX.INDEX -/ def stationParityIndex : Fld := ⟨800, 18, .ro, 0⟩
/-- STATION_AGED.COUNT -/ def stationAged : Fld := ⟨864, 32, .cnt, 0⟩
/-- STATION_LAST_BLOCKED.MAC -/ def stationLastBlocked : Fld := ⟨896, 48, .ro, 0⟩
/-- STATION_LAST_BLOCKED_HI.VID -/ def stationLastBlockedHi : Fld := ⟨944, 12, .ro, 0⟩
/-- STATION_FLUSH_CURSOR.INDEX -/ def stationFlushCursor : Fld := ⟨960, 19, .ro, 0⟩
/-- STATION_LAST_PORT.PORT -/ def stationLastPort : Fld := ⟨992, 6, .ro, 0⟩
/-- STATION_SKID_PASSES.COUNT -/ def stationSkidPasses : Fld := ⟨1024, 32, .cnt, 0⟩
/-! trig page -/
/-- TRIG_ITEMS.COUNT -/ def trigItems : Fld := ⟨512, 32, .cnt, 0⟩
/-- TRIG_NO_TASK.COUNT -/ def trigNoTask : Fld := ⟨544, 32, .cnt, 0⟩
/-- TRIG_IQ_FULL.COUNT -/ def trigIqFull : Fld := ⟨576, 32, .cnt, 0⟩
/-- TRIG_NO_FLOW.COUNT -/ def trigNoFlow : Fld := ⟨608, 32, .cnt, 0⟩
/-- TRIG_FLOW_VERDICT.COUNT -/ def trigFlowVerdict : Fld := ⟨640, 32, .cnt, 0⟩
/-- TRIG_UNVERDICTED.COUNT -/ def trigUnverdicted : Fld := ⟨672, 32, .cnt, 0⟩
/-- TRIG_INVALID_CLASS.COUNT -/ def trigInvalidClass : Fld := ⟨704, 32, .cnt, 0⟩
/-! hold page -/
/-- HOLD_OCC.CELLS -/ def holdOcc : Fld := ⟨512, 19, .ro, 0⟩
/-- HOLD_OCC_PEAK.CELLS -/ def holdOccPeak : Fld := ⟨544, 19, .rc, 0⟩
/-- HOLD_PKTS.COUNT -/ def holdPkts : Fld := ⟨576, 20, .cnt, 0⟩
/-- HOLD_EXPIRED.COUNT -/ def holdExpired : Fld := ⟨608, 32, .cnt, 0⟩
/-- HOLD_FULL_BYPASS.COUNT -/ def holdFullBypass : Fld := ⟨640, 32, .cnt, 0⟩
/-- HOLD_FOLLOWERS.COUNT -/ def holdFollowers : Fld := ⟨672, 32, .cnt, 0⟩
/-- HOLD_LIMIT.CELLS -/ def holdLimit (p : Nat) : Fld := ⟨1024 + 32 * p, 19, .rw, 262144⟩
/-- HOLD_PART_OCC.CELLS -/ def holdPartOcc (p : Nat) : Fld := ⟨1536 + 32 * p, 19, .ro, 0⟩
/-! verdict page -/
/-- VERDICT_APPLIED.COUNT -/ def verdictApplied : Fld := ⟨512, 32, .cnt, 0⟩
/-- VERDICT_LATE.COUNT -/ def verdictLate : Fld := ⟨544, 32, .cnt, 0⟩
/-- VERDICT_NONE.COUNT -/ def verdictNone : Fld := ⟨576, 32, .cnt, 0⟩
/-- VERDICT_STALE.COUNT -/ def verdictStale : Fld := ⟨608, 32, .cnt, 0⟩
/-- VERDICT_WITHDRAWN.COUNT -/ def verdictWithdrawn : Fld := ⟨640, 32, .cnt, 0⟩
/-- VERDICT_PROVISIONAL.COUNT -/ def verdictProvisional : Fld := ⟨672, 32, .cnt, 0⟩
/-- EPOCH_MISMATCH.COUNT -/ def epochMismatch : Fld := ⟨704, 32, .cnt, 0⟩
/-- VERDICT_LAT.COUNT -/ def verdictLat (b : Nat) : Fld := ⟨768 + 32 * b, 32, .cnt, 0⟩
/-- TRK_SEL.CLASS -/ def trkSel : Fld := ⟨1024, 8, .rw, 0⟩
/-- TRK_CTRL.ENABLE -/ def trkCtrlEnable : Fld := ⟨1056, 1, .rw, 0⟩
/-- TRK_CTRL.FREEZE -/ def trkCtrlFreeze : Fld := ⟨1057, 1, .rw, 0⟩
/-- TRK_TARGET.Q -/ def trkTarget : Fld := ⟨1088, 16, .rw, 0⟩
/-- TRK_GAIN.G -/ def trkGain : Fld := ⟨1120, 16, .rw, 0⟩
/-- TRK_SLEW.SLEW -/ def trkSlew : Fld := ⟨1152, 32, .rw, 0⟩
/-- TRK_MIN.MIN -/ def trkMin : Fld := ⟨1184, 32, .rw, 2147483648⟩
/-- TRK_MAX.MAX -/ def trkMax : Fld := ⟨1216, 32, .rw, 2147483647⟩
/-- TRK_THETA.THETA -/ def trkTheta : Fld := ⟨1248, 32, .ro, 0⟩
/-- TRK_INIT.VALUE -/ def trkInit : Fld := ⟨1280, 32, .wo, 0⟩
/-- TRK_ABOVE.COUNT -/ def trkAbove : Fld := ⟨1312, 32, .cnt, 0⟩
/-- TRK_BELOW.COUNT -/ def trkBelow : Fld := ⟨1344, 32, .cnt, 0⟩
/-- TRK_CLAMPED.COUNT -/ def trkClamped : Fld := ⟨1376, 32, .cnt, 0⟩
/-! rate page -/
/-- RATE_SEL.BUCKET -/ def rateSel : Fld := ⟨512, 16, .rw, 0⟩
/-- RATE_CONFORM.COUNT -/ def rateConform : Fld := ⟨544, 32, .cnt, 0⟩
/-- RATE_EXCEED.COUNT -/ def rateExceed : Fld := ⟨576, 32, .cnt, 0⟩
/-! forest page -/
/-- FE_STATE.STATE -/ def feStateState : Fld := ⟨512, 2, .ro, 0⟩
/-- FE_STATE.STREAM -/ def feStateStream : Fld := ⟨516, 1, .ro, 0⟩
/-- FE_STATE.STEP -/ def feStateStep : Fld := ⟨528, 16, .ro, 0⟩
/-- FE_RESIDENT.FORESTS -/ def feResidentForests : Fld := ⟨544, 4, .ro, 0⟩
/-- FE_RESIDENT.TABLES -/ def feResidentTables : Fld := ⟨552, 4, .ro, 0⟩
/-- FE_MEM_USED.KIB -/ def feMemUsed : Fld := ⟨576, 13, .ro, 0⟩
/-- FE_ROWS.COUNT -/ def feRows : Fld := ⟨608, 32, .cnt, 0⟩
/-- FE_TREE_EVALS.COUNT -/ def feTreeEvals : Fld := ⟨640, 64, .cnt, 0⟩
/-- FE_LOAD_BYTES.COUNT -/ def feLoadBytes : Fld := ⟨704, 64, .cnt, 0⟩
/-- FE_STREAM_BYTES.COUNT -/ def feStreamBytes : Fld := ⟨768, 64, .cnt, 0⟩
/-- FE_RES_HIT.COUNT -/ def feResHit : Fld := ⟨832, 32, .cnt, 0⟩
/-- FE_RES_MISS.COUNT -/ def feResMiss : Fld := ⟨864, 32, .cnt, 0⟩
/-- FE_EVICT.COUNT -/ def feEvict : Fld := ⟨896, 32, .cnt, 0⟩
/-- FE_PREP_NAN.COUNT -/ def fePrepNan : Fld := ⟨928, 32, .cnt, 0⟩
/-- FE_PREP_CLAMP.COUNT -/ def fePrepClamp : Fld := ⟨960, 32, .cnt, 0⟩
/-- FE_SAT.COUNT -/ def feSat : Fld := ⟨992, 32, .cnt, 0⟩
/-- FE_MEM_CE.COUNT -/ def feMemCe : Fld := ⟨1024, 32, .cnt, 0⟩
/-- FE_MEM_UE.COUNT -/ def feMemUe : Fld := ⟨1056, 32, .cnt, 0⟩
/-- FE_FLUSH.FLUSH -/ def feFlush : Fld := ⟨1088, 1, .w1s, 0⟩
/-! nse page -/
/-- NSE_STATE.MODE -/ def nseStateMode : Fld := ⟨512, 2, .ro, 0⟩
/-- NSE_STATE.CTX_USED -/ def nseStateCtxUsed : Fld := ⟨528, 9, .ro, 0⟩
/-- NSE_PARTS.COUNT -/ def nseParts : Fld := ⟨544, 32, .cnt, 0⟩
/-- NSE_REMOTE.COUNT -/ def nseRemote : Fld := ⟨576, 32, .cnt, 0⟩
/-- NSE_EXPANSIONS.COUNT -/ def nseExpansions : Fld := ⟨608, 32, .cnt, 0⟩
/-- NSE_VALUES.COUNT -/ def nseValues : Fld := ⟨640, 64, .cnt, 0⟩
/-- NSE_READ_BYTES.COUNT -/ def nseReadBytes : Fld := ⟨704, 64, .cnt, 0⟩
/-- NSE_PREFETCH.COUNT -/ def nsePrefetch : Fld := ⟨768, 64, .cnt, 0⟩
/-- NSE_PREFETCH_WASTE.COUNT -/ def nsePrefetchWaste : Fld := ⟨832, 64, .cnt, 0⟩
/-- NSE_MEM_WAIT.COUNT -/ def nseMemWait : Fld := ⟨896, 64, .cnt, 0⟩
/-- NSE_BOUNCED.COUNT -/ def nseBounced : Fld := ⟨960, 32, .cnt, 0⟩
/-- NSE_TRUNCATED.COUNT -/ def nseTruncated : Fld := ⟨992, 32, .cnt, 0⟩
/-- NSE_UE.COUNT -/ def nseUe : Fld := ⟨1024, 32, .cnt, 0⟩
/-- NSE_CH_SEL.CHANNEL -/ def nseChSel : Fld := ⟨2048, 8, .rw, 0⟩
/-- NSE_SHARD_SEL.SHARD -/ def nseShardSel : Fld := ⟨2080, 12, .rw, 0⟩
/-- NSE_MAP_GEN.GEN -/ def nseMapGenGen : Fld := ⟨2112, 16, .ro, 0⟩
/-- NSE_MAP_GEN.VALID -/ def nseMapGenValid : Fld := ⟨2128, 1, .ro, 0⟩
/-- NSE_MAP_ENTRY.DEVICE -/ def nseMapEntryDevice : Fld := ⟨2144, 6, .ro, 0⟩
/-- NSE_MAP_ENTRY.STATE -/ def nseMapEntryState : Fld := ⟨2152, 2, .ro, 0⟩
/-- NSE_MAP_VECTORS.COUNT -/ def nseMapVectors : Fld := ⟨2176, 32, .cnt, 0⟩
/-- NSE_MISSING.COUNT -/ def nseMissing : Fld := ⟨2208, 32, .cnt, 0⟩
/-- NSE_STALE_RX.COUNT -/ def nseStaleRx : Fld := ⟨2240, 32, .cnt, 0⟩
/-- NSE_LATE_DROP.COUNT -/ def nseLateDrop : Fld := ⟨2272, 32, .cnt, 0⟩
/-- NSE_MAP_FETCH.COUNT -/ def nseMapFetch : Fld := ⟨2304, 32, .cnt, 0⟩
/-- NSE_RESTORE_FAIL.COUNT -/ def nseRestoreFail : Fld := ⟨2336, 32, .cnt, 0⟩
/-! fab page -/
/-- FAB_STATUS.ROLE -/ def fabStatusRole : Fld := ⟨512, 3, .ro, 0⟩
/-- FAB_STATUS.DEVICE_ID -/ def fabStatusDeviceId : Fld := ⟨520, 6, .ro, 0⟩
/-- FAB_STATUS.MANAGER_ID -/ def fabStatusManagerId : Fld := ⟨528, 6, .ro, 0⟩
/-- FAB_STATUS.Q_REASON -/ def fabStatusQReason : Fld := ⟨536, 2, .ro, 0⟩
/-- FAB_TERM.TERM -/ def fabTerm : Fld := ⟨544, 32, .ro, 0⟩
/-- FAB_CFG0.PRIORITY -/ def fabCfg0Priority : Fld := ⟨576, 8, .rw, 128⟩
/-- FAB_CFG0.TTL_INIT -/ def fabCfg0TtlInit : Fld := ⟨584, 8, .rw, 16⟩
/-- FAB_CFG0.COMMIT_POLICY -/ def fabCfg0CommitPolicy : Fld := ⟨592, 1, .rw, 0⟩
/-- FAB_CFG0.EXCLUDE_MAX -/ def fabCfg0ExcludeMax : Fld := ⟨600, 6, .rw, 0⟩
/-- FAB_CFG1.TIME_TOL_NS -/ def fabCfg1TimeTolNs : Fld := ⟨608, 16, .rw, 200⟩
/-- FAB_CFG1.ARM_LEAD_US -/ def fabCfg1ArmLeadUs : Fld := ⟨624, 16, .rw, 100⟩
/-- FAB_CFG2.ELECT_QUIET_US -/ def fabCfg2 : Fld := ⟨640, 16, .rw, 100⟩
/-- FAB_CFG3.STAGE_TIMEOUT_US -/ def fabCfg3 : Fld := ⟨672, 32, .rw, 10000⟩
/-- FAB_FABRIC_ID.ID -/ def fabFabricId : Fld := ⟨704, 32, .rw, 0⟩
/-- FAB_PREF_ID.ID -/ def fabPrefIdId : Fld := ⟨736, 6, .rw, 0⟩
/-- FAB_PREF_ID.EN -/ def fabPrefIdEn : Fld := ⟨744, 1, .rw, 0⟩
/-- FAB_DIGEST.DIGEST -/ def fabDigest : Fld := ⟨768, 256, .ro, 0⟩
/-- FAB_MGR_DIGEST.DIGEST -/ def fabMgrDigest : Fld := ⟨1024, 256, .ro, 0⟩
/-- FAB_REACH.MASK -/ def fabReach : Fld := ⟨1280, 64, .ro, 0⟩
/-- FAB_RPORT.EN -/ def fabRportEn (p : Nat) : Fld := ⟨1536 + 32 * p, 1, .rw, 0⟩
/-- FAB_RPORT.DEVICE -/ def fabRportDevice (p : Nat) : Fld := ⟨1544 + 32 * p, 6, .rw, 0⟩
/-- FAB_RPORT.RPORT -/ def fabRportRport (p : Nat) : Fld := ⟨1552 + 32 * p, 4, .rw, 0⟩
/-- FAB_ELECTIONS.COUNT -/ def fabElections : Fld := ⟨2048, 32, .cnt, 0⟩
/-- FAB_TTL_DROP.COUNT -/ def fabTtlDrop : Fld := ⟨2080, 32, .cnt, 0⟩
/-- FAB_NOROUTE_DROP.COUNT -/ def fabNorouteDrop : Fld := ⟨2112, 32, .cnt, 0⟩
/-- FAB_RX_NOPORT.COUNT -/ def fabRxNoport : Fld := ⟨2144, 32, .cnt, 0⟩
/-- FAB_DIGEST_MISMATCH.COUNT -/ def fabDigestMismatch : Fld := ⟨2176, 32, .cnt, 0⟩
/-- FAB_SHARD_REJECT.COUNT -/ def fabShardReject : Fld := ⟨2208, 32, .cnt, 0⟩
/-- FAB_MAP_PUB.COUNT -/ def fabMapPub : Fld := ⟨2240, 32, .cnt, 0⟩
/-! fabTime page -/
/-- FT_CAPTURE.GO -/ def ftCapture : Fld := ⟨512, 1, .w1s, 0⟩
/-- FT_FRAC.FRAC -/ def ftFrac : Fld := ⟨544, 16, .ro, 0⟩
/-- FT_NS.NS -/ def ftNs : Fld := ⟨576, 64, .ro, 0⟩
/-- FT_OFFSET.NS -/ def ftOffset : Fld := ⟨640, 32, .ro, 0⟩
/-- FT_DELAY.NS -/ def ftDelay : Fld := ⟨672, 32, .ro, 0⟩
/-- FT_STATUS.TIME_DEGRADED -/ def ftStatusTimeDegraded : Fld := ⟨704, 1, .ro, 0⟩
/-- FT_STATUS.SYNCED -/ def ftStatusSynced : Fld := ⟨705, 1, .ro, 0⟩
/-- FT_STATUS.PARENT_PORT -/ def ftStatusParentPort : Fld := ⟨706, 3, .ro, 0⟩
/-- FT_CTRL.FREEZE -/ def ftCtrl : Fld := ⟨736, 1, .rw, 0⟩
/-- FT_STEPS.COUNT -/ def ftSteps : Fld := ⟨768, 32, .cnt, 0⟩
/-- FT_EXCHANGES.COUNT -/ def ftExchanges : Fld := ⟨800, 32, .cnt, 0⟩
/-! fabEpoch page -/
/-- Q_STATE.STATE -/ def qState : Fld := ⟨512, 3, .ro, 0⟩
/-- Q_COMMIT_ID.ID -/ def qCommitId : Fld := ⟨544, 32, .ro, 0⟩
/-- Q_EPOCHS.NEW -/ def qEpochsNew : Fld := ⟨576, 16, .ro, 0⟩
/-- Q_EPOCHS.FABRIC -/ def qEpochsFabric : Fld := ⟨592, 16, .ro, 0⟩
/-- Q_FLIP_TIME.NS -/ def qFlipTime : Fld := ⟨640, 64, .ro, 0⟩
/-- Q_PART.MASK -/ def qPart : Fld := ⟨704, 64, .ro, 0⟩
/-- Q_ARMED.MASK -/ def qArmed : Fld := ⟨768, 64, .ro, 0⟩
/-- Q_FLIPPED.MASK -/ def qFlipped : Fld := ⟨832, 64, .ro, 0⟩
/-- Q_LAST_ABORT.DETAIL -/ def qLastAbort : Fld := ⟨896, 14, .ro, 0⟩
/-- Q_COMMITS.COUNT -/ def qCommits : Fld := ⟨928, 32, .cnt, 0⟩
/-- Q_ABORTS.COUNT -/ def qAborts : Fld := ⟨960, 32, .cnt, 0⟩
/-- Q_EXCLUDED.COUNT -/ def qExcluded : Fld := ⟨992, 32, .cnt, 0⟩
/-- Q_DISARMED.COUNT -/ def qDisarmed : Fld := ⟨1024, 32, .cnt, 0⟩
/-- Q_REJOINS.COUNT -/ def qRejoins : Fld := ⟨1056, 32, .cnt, 0⟩
/-! fport page -/
/-- FP_STATE.STATE -/ def fpStateState : Fld := ⟨512, 3, .ro, 0⟩
/-- FP_STATE.PEER_ID -/ def fpStatePeerId : Fld := ⟨520, 6, .ro, 0⟩
/-- FP_STATE.PEER_PORT -/ def fpStatePeerPort : Fld := ⟨528, 3, .ro, 0⟩
/-- FP_CTRL.DISABLE -/ def fpCtrl : Fld := ⟨544, 1, .rw, 0⟩
/-- FP_PEER_SERIAL.SERIAL -/ def fpPeerSerial : Fld := ⟨576, 64, .ro, 0⟩
/-- FP_CREDIT.CREDITS -/ def fpCredit (v : Nat) : Fld := ⟨640 + 32 * v, 16, .ro, 0⟩
/-- FP_ASYM_PS.PS -/ def fpAsymPs : Fld := ⟨736, 16, .rw, 0⟩
/-- FP_TX_FRAMES.COUNT -/ def fpTxFrames : Fld := ⟨1024, 32, .cnt, 0⟩
/-- FP_RX_FRAMES.COUNT -/ def fpRxFrames : Fld := ⟨1056, 32, .cnt, 0⟩
/-- FP_FCS_ERR.COUNT -/ def fpFcsErr : Fld := ⟨1088, 32, .cnt, 0⟩
/-- FP_MARK_MISS.COUNT -/ def fpMarkMiss : Fld := ⟨1120, 32, .cnt, 0⟩
/-- FP_CREDIT_RESYNC.COUNT -/ def fpCreditResync : Fld := ⟨1152, 32, .cnt, 0⟩
/-- FP_DOWN_EVENTS.COUNT -/ def fpDownEvents : Fld := ⟨1184, 32, .cnt, 0⟩
/-- FP_BAD_FRAME.COUNT -/ def fpBadFrame : Fld := ⟨1216, 32, .cnt, 0⟩
/-! pwr page -/
/-- PWR_LOOP_FREEZE.MASK -/ def pwrLoopFreeze : Fld := ⟨512, 6, .rw, 0⟩
/-- AVS_TARGET.PS -/ def avsTarget : Fld := ⟨544, 8, .rw, 40⟩
/-- DROOP_CFG.DROOP_PS -/ def droopCfgDroopPs : Fld := ⟨576, 8, .rw, 10⟩
/-- DROOP_CFG.LEVEL_INIT -/ def droopCfgLevelInit : Fld := ⟨584, 3, .rw, 2⟩
/-- DROOP_CFG.MAX_LEVEL -/ def droopCfgMaxLevel : Fld := ⟨588, 3, .rw, 4⟩
/-- DROOP_CFG.HOLD_NS -/ def droopCfgHoldNs : Fld := ⟨592, 16, .rw, 500⟩
/-- PWR_OFF.MASK -/ def pwrOff : Fld := ⟨608, 24, .rw, 0⟩
/-- PWR_TOTAL.MW -/ def pwrTotal : Fld := ⟨640, 32, .ro, 0⟩
/-- PWR_LIMITS.W -/ def pwrLimits (c : Code) : Fld := ⟨672, 32, .rw, c.pl1 + c.pl2 * 65536⟩
/-- PWR_FLOOR.W -/ def pwrFloor (c : Code) : Fld := ⟨704, 16, .rw, c.floorW⟩
/-- PWR_MEAN.W -/ def pwrMean : Fld := ⟨736, 32, .ro, 0⟩
/-- AVS_STEPS.COUNT -/ def avsSteps : Fld := ⟨768, 32, .cnt, 0⟩
/-- AVS_AT_LIMIT.COUNT -/ def avsAtLimit : Fld := ⟨800, 32, .cnt, 0⟩
/-- DROOP_FLAGS.COUNT -/ def droopFlags : Fld := ⟨832, 32, .cnt, 0⟩
/-- EQ_LIMIT.COUNT -/ def eqLimit : Fld := ⟨864, 32, .cnt, 0⟩
/-- AVSBUS_ERR.COUNT -/ def avsbusErr : Fld := ⟨896, 32, .cnt, 0⟩
/-- REEL_CFG.CFG -/ def reelCfg : Fld := ⟨1024, 18, .rw, 198660⟩
/-- REEL_CM_MAX.KIB -/ def reelCmMax : Fld := ⟨1056, 16, .rw, 256⟩
/-- REEL_STEP_MOVES.COUNT -/ def reelStepMoves : Fld := ⟨1088, 32, .cnt, 0⟩
/-- REEL_HOME_MOVES.COUNT -/ def reelHomeMoves : Fld := ⟨1120, 32, .cnt, 0⟩
/-- REEL_HOME_CANCEL.COUNT -/ def reelHomeCancel : Fld := ⟨1152, 32, .cnt, 0⟩
/-- REEL_HOT_SKIP.COUNT -/ def reelHotSkip : Fld := ⟨1184, 32, .cnt, 0⟩
/-- RAIL_CFG.CFG -/ def railCfg (r : Nat) : Fld := ⟨2048 + 128 * r, 2, .ro, if r < 4 then 3 else 1⟩
/-- RAIL_V.MV -/ def railV (r : Nat) : Fld := ⟨2080 + 128 * r, 32, .ro, 0⟩
/-- RAIL_I.MA -/ def railI (r : Nat) : Fld := ⟨2112 + 128 * r, 32, .ro, 0⟩
/-- RAIL_LIMITS.MV -/ def railLimits (r : Nat) : Fld := ⟨2144 + 128 * r, 32, .rw, Config.railRange r⟩
/-- CPM.MARGIN -/ def cpmMargin (m : Nat) : Fld := ⟨4096 + 32 * m, 8, .ro, 0⟩
/-- CPM.MIN -/ def cpmMin (m : Nat) : Fld := ⟨4104 + 32 * m, 8, .rc, 127⟩
/-! thm page -/
/-- THM_MAX.TEMP -/ def thmMaxTemp : Fld := ⟨512, 16, .ro, 32768⟩
/-- THM_MAX.SENSOR -/ def thmMaxSensor : Fld := ⟨528, 7, .ro, 0⟩
/-- THM_TARGET.TEMP -/ def thmTarget : Fld := ⟨544, 16, .rw, 1520⟩
/-- THM_ALARM.TEMP -/ def thmAlarm : Fld := ⟨576, 16, .rw, 1680⟩
/-- THM_TRIP.TEMP -/ def thmTrip : Fld := ⟨608, 16, .ro, 1840⟩
/-- THM_STATUS.ALARM -/ def thmStatusAlarm : Fld := ⟨640, 1, .w1c, 0⟩
/-- THM_STATUS.FLOOR -/ def thmStatusFloor : Fld := ⟨641, 1, .ro, 0⟩
/-- GOV_GAIN.GAIN -/ def govGain : Fld := ⟨672, 32, .rw, 65556⟩
/-- GOV_FF_DUTY.CFG -/ def govFfDuty : Fld := ⟨704, 32, .rw, 13107500⟩
/-- GOV_TIME.MS -/ def govTime : Fld := ⟨736, 32, .rw, 32770000⟩
/-- GOV_R.MKW -/ def govR : Fld := ⟨768, 32, .rw, 5898280⟩
/-- GOV_IMAX.IMAX -/ def govImax : Fld := ⟨800, 16, .rw, 16000⟩
/-- GOV_FF_SRC.SRC -/ def govFfSrc : Fld := ⟨832, 2, .rw, 3⟩
/-- GOV_OUT.DUTY -/ def govOutDuty : Fld := ⟨864, 10, .ro, 1000⟩
/-- GOV_OUT.CDUTY -/ def govOutCduty : Fld := ⟨880, 7, .ro, 64⟩
/-- GOV_OUT.D_F -/ def govOutDF : Fld := ⟨888, 7, .ro, 64⟩
/-- GOV_TPRED.TEMP -/ def govTpred : Fld := ⟨896, 16, .ro, 0⟩
/-- GOV_FF.U -/ def govFf : Fld := ⟨928, 11, .ro, 0⟩
/-- GOV_CDUTY_MIN.D -/ def govCdutyMin : Fld := ⟨960, 7, .rw, 8⟩
/-- THM_SENSOR.TEMP -/ def thmSensor (i : Nat) : Fld := ⟨2048 + 32 * i, 16, .ro, 32768⟩
/-- THM_HBM.TEMP -/ def thmHbm (s : Nat) : Fld := ⟨4096 + 32 * s, 16, .ro, 32768⟩
/-! plant page -/
/-- PLANT_CTRL.MODE -/ def plantCtrl : Fld := ⟨512, 1, .rw, 0⟩
/-- PLANT_STATUS.PUMP_LOST -/ def plantStatusPumpLost : Fld := ⟨544, 1, .w1c, 0⟩
/-- PLANT_STATUS.TACH_LOST -/ def plantStatusTachLost : Fld := ⟨552, 6, .ro, 0⟩
/-- PLANT_STATUS.SENSOR_LOST -/ def plantStatusSensorLost : Fld := ⟨558, 1, .ro, 0⟩
/-- PWM.DUTY_SET -/ def pwmDutySet (o : Nat) : Fld := ⟨576 + 32 * o, 10, .rw, 1000⟩
/-- PWM.DUTY_OUT -/ def pwmDutyOut (o : Nat) : Fld := ⟨592 + 32 * o, 10, .ro, 1000⟩
/-- PWM.ROLE -/ def pwmRole (o : Nat) : Fld := ⟨604 + 32 * o, 2, .rw, 0⟩
/-- TACH_CFG.CFG -/ def tachCfg (t : Nat) : Fld := ⟨768 + 32 * t, 32, .rw, 26214912⟩
/-- TACH_RATE.RATE -/ def tachRate (t : Nat) : Fld := ⟨1024 + 32 * t, 32, .ro, 0⟩
/-- FLOW_MIN.ML_MIN -/ def flowMin (t : Nat) : Fld := ⟨1280 + 32 * t, 16, .rw, 0⟩
/-- SENS_CFG.CFG -/ def sensCfg (i : Nat) : Fld := ⟨2048 + 64 * i, 22, .rw, 0⟩
/-- SENS_VALUE.TEMP -/ def sensValueTemp (i : Nat) : Fld := ⟨2080 + 64 * i, 16, .ro, 0⟩
/-- SENS_VALUE.VALID -/ def sensValueValid (i : Nat) : Fld := ⟨2111 + 64 * i, 1, .ro, 0⟩
/-- T_COOL_DEFAULT.TEMP -/ def tCoolDefault : Fld := ⟨3072, 16, .rw, 720⟩
/-- PLANT_PUMP_LOSS.COUNT -/ def plantPumpLoss : Fld := ⟨3104, 32, .cnt, 0⟩
/-- PLANT_FLOOR_ENTRIES.COUNT -/ def plantFloorEntries : Fld := ⟨3136, 32, .cnt, 0⟩
/-- I3C_NACK.COUNT -/ def i3cNack : Fld := ⟨3168, 32, .cnt, 0⟩
/-! obs page -/
/-- OBS_TALLY_PERIOD.MS -/ def obsTallyPeriod : Fld := ⟨512, 17, .rw, 1000⟩
/-- OBS_TALLY_CMD.NOW -/ def obsTallyCmd : Fld := ⟨544, 1, .w1s, 0⟩
/-- OBS_TALLY_SEQ.SEQ -/ def obsTallySeq : Fld := ⟨576, 64, .ro, 0⟩
/-- TALLY_BASE.ADDR -/ def tallyBase : Fld := ⟨640, 64, .rw, 0⟩
/-- TALLY_CFG.LOG2 -/ def tallyCfgLog2 : Fld := ⟨704, 4, .rw, 0⟩
/-- TALLY_CFG.WRAP -/ def tallyCfgWrap : Fld := ⟨712, 1, .rw, 0⟩
/-- TALLY_CFG.ENABLE -/ def tallyCfgEnable : Fld := ⟨735, 1, .rw, 0⟩
/-- TALLY_WR.SLOT -/ def tallyWr : Fld := ⟨736, 13, .ro, 0⟩
/-- TALLY_RD.SLOT -/ def tallyRd : Fld := ⟨768, 13, .rw, 0⟩
/-- TALLY_LOST.COUNT -/ def tallyLost : Fld := ⟨800, 32, .cnt, 0⟩
/-- TALLY_BYTES.BYTES -/ def tallyBytes : Fld := ⟨832, 18, .ro, 0⟩
/-- OBS_FREEZE.SW -/ def obsFreezeSw : Fld := ⟨896, 1, .rw, 0⟩
/-- OBS_FREEZE.PIN_EN -/ def obsFreezePinEn : Fld := ⟨898, 1, .rw, 0⟩
/-- OBS_FREEZE.FABRIC_EN -/ def obsFreezeFabricEn : Fld := ⟨899, 1, .rw, 0⟩
/-- OBS_FREEZE.ON_FATAL -/ def obsFreezeOnFatal : Fld := ⟨900, 1, .rw, 1⟩
/-- OBS_FREEZE.ON_RECORD -/ def obsFreezeOnRecord : Fld := ⟨901, 1, .rw, 0⟩
/-- OBS_FREEZE.STOP_TRACE -/ def obsFreezeStopTrace : Fld := ⟨902, 1, .rw, 1⟩
/-- OBS_FREEZE.STOP_TAPS -/ def obsFreezeStopTaps : Fld := ⟨903, 1, .rw, 0⟩
/-- OBS_FREEZE.FAULT_TO_FABRIC -/ def obsFreezeFaultToFabric : Fld := ⟨904, 1, .rw, 0⟩
/-- OBS_FREEZE_SRC.SW -/ def obsFreezeSrcSw : Fld := ⟨928, 1, .ro, 0⟩
/-- OBS_FREEZE_SRC.PIN -/ def obsFreezeSrcPin : Fld := ⟨929, 1, .ro, 0⟩
/-- OBS_FREEZE_SRC.FABRIC -/ def obsFreezeSrcFabric : Fld := ⟨930, 1, .ro, 0⟩
/-- OBS_FREEZE_SRC.FROZEN -/ def obsFreezeSrcFrozen : Fld := ⟨936, 1, .ro, 0⟩
/-- OBS_FREEZE_SRC.FAULT -/ def obsFreezeSrcFault : Fld := ⟨931, 1, .w1c, 0⟩
/-- OBS_FABRIC_FREEZE.FREEZE -/ def obsFabricFreezeFreeze : Fld := ⟨960, 1, .wo, 0⟩
/-- OBS_FABRIC_FREEZE.THAW -/ def obsFabricFreezeThaw : Fld := ⟨961, 1, .wo, 0⟩
/-- OBS_FROZEN_AT.NS -/ def obsFrozenAt : Fld := ⟨1024, 64, .ro, 0⟩
/-- OBS_FREEZES.COUNT -/ def obsFreezes : Fld := ⟨1088, 32, .cnt, 0⟩
/-- OBS_FREEZE_LATE.COUNT -/ def obsFreezeLate : Fld := ⟨1120, 32, .cnt, 0⟩
/-- OBS_BUDGET.TRACE -/ def obsBudgetTrace : Fld := ⟨1152, 8, .rw, 10⟩
/-- OBS_BUDGET.TAP -/ def obsBudgetTap : Fld := ⟨1160, 8, .rw, 20⟩
/-- HIST_CFG.KIND -/ def histCfgKind (h : Nat) : Fld := ⟨2048 + 32 * h, 4, .rw, 0⟩
/-- HIST_CFG.INDEX -/ def histCfgIndex (h : Nat) : Fld := ⟨2064 + 32 * h, 16, .rw, 0⟩
/-- HIST_SEL.H -/ def histSel : Fld := ⟨3072, 4, .rw, 0⟩
/-- HIST_BIN.CYCLES -/ def histBin (b : Nat) : Fld := ⟨4096 + 64 * b, 64, .ro, 0⟩
/-- MARKER_CFG.MARKER -/ def markerCfgMarker (k : Nat) : Fld := ⟨6144 + 32 * k, 16, .rw, 0⟩
/-- MARKER_CFG.PARTITION -/ def markerCfgPartition (k : Nat) : Fld := ⟨6160 + 32 * k, 4, .rw, 0⟩
/-- MARKER_CFG.EN -/ def markerCfgEn (k : Nat) : Fld := ⟨6175 + 32 * k, 1, .rw, 0⟩
/-- MARKER_SEL.K -/ def markerSel : Fld := ⟨7168, 4, .rw, 0⟩
/-- MK_PAIRS.PAIRS -/ def mkPairs : Fld := ⟨7200, 32, .ro, 0⟩
/-- MK_SUM_NS.NS -/ def mkSumNs : Fld := ⟨7232, 64, .ro, 0⟩
/-- MK_MIN_NS.NS -/ def mkMinNs : Fld := ⟨7296, 32, .ro, 4294967295⟩
/-- MK_MAX_NS.NS -/ def mkMaxNs : Fld := ⟨7328, 32, .ro, 0⟩
/-- MK_ORPHANS.ORPHANS -/ def mkOrphans : Fld := ⟨7360, 32, .ro, 0⟩
/-- OBS_SW_MARK.MARKER -/ def obsSwMarkMarker : Fld := ⟨7424, 16, .wo, 0⟩
/-- OBS_SW_MARK.END -/ def obsSwMarkEnd : Fld := ⟨7440, 1, .wo, 0⟩
/-! obsTrace page -/
/-- TR_CTRL.ENABLE -/ def trCtrlEnable : Fld := ⟨512, 1, .rw, 0⟩
/-- TR_CTRL.WRAP -/ def trCtrlWrap : Fld := ⟨513, 1, .rw, 0⟩
/-- TR_BASE.ADDR -/ def trBase : Fld := ⟨576, 64, .rw, 0⟩
/-- TR_LOG2.LOG2 -/ def trLog2 : Fld := ⟨640, 5, .rw, 11⟩
/-- TR_WR.INDEX -/ def trWr : Fld := ⟨704, 64, .ro, 0⟩
/-- TR_RD.INDEX -/ def trRd : Fld := ⟨768, 64, .rw, 0⟩
/-- TR_CORE_EN.MASK -/ def trCoreEn : Fld := ⟨832, 21, .rw, 0⟩
/-- TR_EVENT_EN.QUEUE -/ def trEventEnQueue : Fld := ⟨864, 1, .rw, 0⟩
/-- TR_EVENT_EN.STEP -/ def trEventEnStep : Fld := ⟨865, 1, .rw, 0⟩
/-- TR_EVENT_EN.ITEM -/ def trEventEnItem : Fld := ⟨866, 1, .rw, 0⟩
/-- TR_EVENT_EN.VERDICT -/ def trEventEnVerdict : Fld := ⟨867, 1, .rw, 0⟩
/-- TR_EVENT_EN.MARKER -/ def trEventEnMarker : Fld := ⟨868, 1, .rw, 0⟩
/-- TR_EVENT_EN.FAB -/ def trEventEnFab : Fld := ⟨869, 1, .rw, 0⟩
/-- TR_EVENT_EN.FAB_MARK -/ def trEventEnFabMark : Fld := ⟨870, 1, .rw, 0⟩
/-- TR_EVENT_EN.TAP -/ def trEventEnTap : Fld := ⟨871, 1, .rw, 0⟩
/-- TR_PART_EN.MASK -/ def trPartEn : Fld := ⟨896, 16, .rw, 65535⟩
/-- TR_FAB_TYPES.MASK -/ def trFabTypes : Fld := ⟨928, 16, .rw, 65535⟩
/-- TR_FAB_PORTS.MASK -/ def trFabPorts : Fld := ⟨960, 8, .rw, 255⟩
/-- TR_SYNC_US.US -/ def trSyncUs : Fld := ⟨992, 16, .rw, 100⟩
/-- TR_LOST.COUNT -/ def trLost : Fld := ⟨1024, 32, .cnt, 0⟩
/-- TR_PENDING.BYTES -/ def trPending : Fld := ⟨1056, 19, .ro, 0⟩
/-! obsTap page -/
/-- TAP_CTRL.ENABLE -/ def tapCtrlEnable : Fld := ⟨512, 1, .rw, 0⟩
/-- TAP_CTRL.WRAP -/ def tapCtrlWrap : Fld := ⟨513, 1, .rw, 0⟩
/-- TAP_BASE.ADDR -/ def tapBase : Fld := ⟨576, 64, .rw, 0⟩
/-- TAP_LOG2.LOG2 -/ def tapLog2 : Fld := ⟨640, 6, .rw, 16⟩
/-- TAP_WR.BYTES -/ def tapWr : Fld := ⟨704, 64, .ro, 0⟩
/-- TAP_RD.BYTES -/ def tapRd : Fld := ⟨768, 64, .rw, 0⟩
/-- TAP_CAPTURES.COUNT -/ def tapCaptures : Fld := ⟨832, 32, .cnt, 0⟩
/-- TAP_LOST.COUNT -/ def tapLost : Fld := ⟨864, 32, .cnt, 0⟩
/-- TAP_BYTES.COUNT -/ def tapBytes : Fld := ⟨896, 64, .cnt, 0⟩
/-- TAP_ENTRY_SEL.ENTRY -/ def tapEntrySel : Fld := ⟨1024, 6, .rw, 0⟩
/-! hbm page -/
/-- HBM_STATUS.TRAINED -/ def hbmStatusTrained : Fld := ⟨512, 1, .ro, 0⟩
/-- HBM_STATUS.SELF_REFRESH -/ def hbmStatusSelfRefresh : Fld := ⟨513, 1, .ro, 0⟩
/-- HBM_CE.COUNT -/ def hbmCe : Fld := ⟨544, 32, .cnt, 0⟩
/-- HBM_UE_ADDR.ADDR -/ def hbmUeAddr : Fld := ⟨576, 64, .ro, 0⟩
/-- HBM_UE.COUNT -/ def hbmUe : Fld := ⟨640, 32, .cnt, 0⟩
/-- HBM_POISONED.COUNT -/ def hbmPoisoned : Fld := ⟨672, 32, .cnt, 0⟩
/-- HBM_SCRUB_CFG.PERIOD -/ def hbmScrubCfgPeriod : Fld := ⟨704, 8, .rw, 24⟩
/-- HBM_SCRUB_CFG.EN -/ def hbmScrubCfgEn : Fld := ⟨735, 1, .rw, 1⟩
/-- HBM_SCRUB_PASSES.COUNT -/ def hbmScrubPasses : Fld := ⟨736, 32, .cnt, 0⟩
/-- HBM_SCRUB_POS.MIB -/ def hbmScrubPos : Fld := ⟨768, 16, .ro, 0⟩
/-- HBM_PHY_ERR.COUNT -/ def hbmPhyErr : Fld := ⟨800, 32, .cnt, 0⟩
/-- HBM_RETRY.COUNT -/ def hbmRetry : Fld := ⟨832, 32, .cnt, 0⟩
/-! flt page -/
/-- FLT_LOG_WR.SEQ -/ def fltLogWr : Fld := ⟨512, 32, .ro, 0⟩
/-- FLT_LOG_RD.SEQ -/ def fltLogRd : Fld := ⟨544, 32, .rw, 0⟩
/-- FLT_LOG_OVERWRITTEN.COUNT -/ def fltLogOverwritten : Fld := ⟨576, 32, .cnt, 0⟩
/-- FLT_REC_SEL.ENTRY -/ def fltRecSel : Fld := ⟨608, 7, .rw, 0⟩
/-- FLT_DUMP_CFG.CM -/ def fltDumpCfgCm : Fld := ⟨672, 16, .rw, 0⟩
/-- FLT_DUMP_CFG.TRACE_EN -/ def fltDumpCfgTraceEn : Fld := ⟨688, 1, .rw, 1⟩
/-- FLT_DUMP_BUDGET.MS -/ def fltDumpBudget : Fld := ⟨704, 10, .rw, 50⟩
/-- FLT_MIRROR_BASE.ADDR -/ def fltMirrorBase : Fld := ⟨768, 64, .rw, 0⟩
/-- FLT_MIRROR_CFG.MIB -/ def fltMirrorCfgMib : Fld := ⟨832, 9, .rw, 0⟩
/-- FLT_MIRROR_CFG.ON_FATAL -/ def fltMirrorCfgOnFatal : Fld := ⟨848, 1, .rw, 0⟩
/-- FLT_MIRROR_CMD.COPY -/ def fltMirrorCmd : Fld := ⟨864, 1, .w1s, 0⟩
/-- FLT_MIRROR_STATUS.DONE -/ def fltMirrorStatusDone : Fld := ⟨896, 1, .ro, 0⟩
/-- FLT_MIRROR_STATUS.ERR -/ def fltMirrorStatusErr : Fld := ⟨897, 1, .ro, 0⟩
/-! cruise page -/
/-- CRZ_CMD.GO -/ def crzCmdGo : Fld := ⟨512, 1, .w1s, 0⟩
/-- CRZ_CMD.WFG -/ def crzCmdWfg : Fld := ⟨513, 1, .rw, 0⟩
/-- CRZ_INTERVAL.US -/ def crzInterval : Fld := ⟨544, 16, .rw, 1000⟩
/-- CRZ_DST.ADDR -/ def crzDst : Fld := ⟨576, 64, .rw, 0⟩
/-- CRZ_MAX.BYTES -/ def crzMax : Fld := ⟨640, 32, .rw, 262144⟩
/-- CRZ_STATUS.BUSY -/ def crzStatusBusy : Fld := ⟨672, 1, .ro, 0⟩
/-- CRZ_STATUS.DONE -/ def crzStatusDone : Fld := ⟨673, 1, .ro, 0⟩
/-- CRZ_STATUS.ERR -/ def crzStatusErr : Fld := ⟨674, 1, .ro, 0⟩
/-- CRZ_BYTES.BYTES -/ def crzBytes : Fld := ⟨704, 32, .ro, 0⟩
/-- CRZ_CK4.COUNT -/ def crzCk4 : Fld := ⟨768, 64, .cnt, 0⟩
/-- CRZ_COUNT.COUNT -/ def crzCount : Fld := ⟨832, 32, .cnt, 0⟩
/-! fltAon page -/
/-- LOGFAIL_STATUS.LOG_UE -/ def logfailStatusLogUe : Fld := ⟨512, 1, .ro, 0⟩
/-- LOGFAIL_STATUS.WRITE_STUCK -/ def logfailStatusWriteStuck : Fld := ⟨513, 1, .ro, 0⟩
/-- LOGFAIL_STATUS.CTRL_FAIL -/ def logfailStatusCtrlFail : Fld := ⟨514, 1, .ro, 0⟩
/-- LOGFAIL_FIRST.CLASS -/ def logfailFirstClass : Fld := ⟨544, 3, .ro, 0⟩
/-- LOGFAIL_FIRST.CODE -/ def logfailFirstCode : Fld := ⟨560, 16, .ro, 0⟩
/-- LOGFAIL_COUNT.COUNT -/ def logfailCount : Fld := ⟨576, 32, .cnt, 0⟩
/-- LOGFAIL_TIME.NS -/ def logfailTime : Fld := ⟨640, 64, .ro, 0⟩
/-- AON_FATALS.COUNT -/ def aonFatals : Fld := ⟨704, 16, .cnt, 0⟩
/-- AON_LAST_FATAL.CODE -/ def aonLastFatal : Fld := ⟨736, 16, .ro, 0⟩
/-- AON_LANDING.STATE -/ def aonLandingState : Fld := ⟨768, 3, .ro, 0⟩
/-- AON_LANDING.PENDING -/ def aonLandingPending : Fld := ⟨776, 1, .w1c, 0⟩
/-- AON_LANDING.MIRRORED -/ def aonLandingMirrored : Fld := ⟨784, 1, .ro, 0⟩
/-- AON_LANDING.KEEP_FIRST -/ def aonLandingKeepFirst : Fld := ⟨792, 1, .rw, 1⟩
/-- AON_FAULT_N.CAUSE -/ def aonFaultNCause : Fld := ⟨800, 4, .w1c, 0⟩
/-- AON_FAULT_N.BLOCK_EN -/ def aonFaultNBlockEn : Fld := ⟨808, 1, .rw, 0⟩
/-- AON_FAULT_N.ASSERTED -/ def aonFaultNAsserted : Fld := ⟨816, 1, .ro, 0⟩
/-- AON_DUMP_SEQ.COUNT -/ def aonDumpSeq : Fld := ⟨832, 32, .cnt, 0⟩
/-! wfg page -/
/-- WFG_SEQ.COUNT -/ def wfgSeq : Fld := ⟨512, 32, .cnt, 0⟩
/-- WFG_COUNTS.NODES -/ def wfgCountsNodes : Fld := ⟨544, 16, .ro, 0⟩
/-- WFG_COUNTS.EDGES -/ def wfgCountsEdges : Fld := ⟨560, 16, .ro, 0⟩
/-- WFG_FOUND.CYCLES -/ def wfgFoundCycles : Fld := ⟨576, 16, .ro, 0⟩
/-- WFG_FOUND.ROOTS -/ def wfgFoundRoots : Fld := ⟨592, 16, .ro, 0⟩
/-- WFG_FIRST.ROOT -/ def wfgFirstRoot : Fld := ⟨608, 16, .ro, 0⟩
/-- WFG_FIRST.CYCLE -/ def wfgFirstCycle : Fld := ⟨624, 16, .ro, 0⟩
/-- WFG_EDGE_SEL.EDGE -/ def wfgEdgeSel : Fld := ⟨640, 12, .rw, 0⟩
/-- WFG_FLAGS.TRUNC -/ def wfgFlags : Fld := ⟨672, 1, .ro, 0⟩
/-- WFG_EDGE.EDGE -/ def wfgEdge : Fld := ⟨704, 64, .ro, 0⟩
/-! hk page -/
/-- HK_TICKS.TICKS -/ def hkTicks : Fld := ⟨512, 32, .ro, 0⟩
/-- HK_WDT_EXPIRED.COUNT -/ def hkWdtExpired : Fld := ⟨544, 32, .ro, 0⟩
/-- HK_LOAD.PERCENT -/ def hkLoad : Fld := ⟨576, 7, .ro, 0⟩
/-! serdes page -/
/-- SERDES lane.RX_LOCK -/ def laneRxLock (l : Nat) : Fld := ⟨512 + 64 * l, 1, .ro, 0⟩
/-- SERDES lane.TX_READY -/ def laneTxReady (l : Nat) : Fld := ⟨513 + 64 * l, 1, .ro, 0⟩
/-- SERDES lane.RX_INVERT -/ def laneRxInvert (l : Nat) : Fld := ⟨514 + 64 * l, 1, .rw, 0⟩
/-- SERDES lane.TX_INVERT -/ def laneTxInvert (l : Nat) : Fld := ⟨515 + 64 * l, 1, .rw, 0⟩
/-- EQ_STATE.CTLE -/ def laneEqCtle (l : Nat) : Fld := ⟨520 + 64 * l, 5, .ro, 0⟩
/-- EQ_STATE.ADAPTING -/ def laneEqAdapting (l : Nat) : Fld := ⟨525 + 64 * l, 1, .ro, 0⟩
/-- EQ_STATE.AT_LIMIT -/ def laneEqAtLimit (l : Nat) : Fld := ⟨526 + 64 * l, 1, .ro, 0⟩
/-- EQ_STATE.FROZEN -/ def laneEqFrozen (l : Nat) : Fld := ⟨527 + 64 * l, 1, .ro, 0⟩
/-- RX_SYMBOL_ERR.count -/ def laneSymbolErr (l : Nat) : Fld := ⟨544 + 64 * l, 32, .ro, 0⟩
/-! fabRoute page -/
/-- ROUTE_VER.ROUTE_VER -/ def routeVer : Fld := ⟨512, 16, .ro, 0⟩
/-- route entry.entry -/ def routeEntry (i : Nat) : Fld := ⟨2048 + 32 * i, 32, .ro, 0⟩

end R

open R in
/-- The fields of the common page header (06, The common page header), PG_ID and PG_CAP apart. -/
def headerFlds : List Fld :=
  [pgCtrlEnable, pgCtrlSoftReset, pgStatusReady, pgStatusBusy, pgStatusFault, pgStatusDegraded, pgStatusState, pgIrqStatus, pgIrqEnable, pgIrqSet, pgErrCodeCode, pgErrCodeCount] ++
  [pgProgress, pgTallyCtrlLatchEn, pgTallyCtrlFreezeEn, pgTallyCtrlLatchSeq] ++
  (List.range 6).map pgSentinel

open R in
/-- The fields of a feGlobal page from offset 0x40 on. -/
def feGlobalFlds : List Fld :=
  [feKqSqBase, feKqCqBase, feKqCfgSqLog2, feKqCfgCqLog2, feKqCfgMsixVector, feKqCtrlEnable, feKqCtrlCfgErr, feQueuesActive, feSlotsPinned, feDbReject, fePrivReject, feQcbMiss] ++
  [feCeDropped, feGrants, feCancelAtGrant]

open R in
/-- The fields of a feSlot page from offset 0x40 on. -/
def feSlotFlds : List Fld :=
  (List.range 32).map slotStateState ++
  (List.range 32).map slotStatePinned ++
  (List.range 32).map slotStateQueue ++
  (List.range 32).map slotStateInflight ++
  (List.range 32).map slotProgress ++
  (List.range 32).map slotSqIndex ++
  (List.range 32).map slotStepStep ++
  (List.range 32).map slotStepOpcode ++
  (List.range 32).map slotIqIq ++
  (List.range 32).map slotIqValid

open R in
/-- The fields of a cl page from offset 0x40 on. -/
def clFlds : List Fld :=
  [clCoreReady, clCoreFault, clCmCe, clCmUe, clMac, clArrayBusy, clSteps, clSat, clNan, clOob, clCmUsed]

open R in
/-- The fields of a seq page from offset 0x40 on. -/
def seqFlds : List Fld :=
  (List.range 4).map seqStreamSlot ++
  (List.range 4).map seqStreamValid ++
  (List.range 4).map seqStreamStep ++
  (List.range 4).map seqWaitOpcode ++
  (List.range 4).map seqWaitReason ++
  (List.range 4).map seqDone

open R in
/-- The fields of a core page from offset 0x40 on. -/
def coreFlds : List Fld :=
  [coreState, coreBusy, coreTiles, coreMemCe, coreMemUe]

open R in
/-- The fields of a qsu page from offset 0x40 on. -/
def qsuFlds : List Fld :=
  [qsuElems, qsuSat]

open R in
/-- The fields of a dev page from offset 0x40 on. -/
def devFlds : List Fld :=
  [epochCurrent, epochResident] ++
  (List.range 4).map epochIdEpoch ++
  (List.range 4).map epochIdValid ++
  (List.range 4).map epochDrain ++
  [commitState, journalSeq, miReverifyFail, miStageReject, msSelect, devStepping, devSerial, devFwVersion, devFwClass, devAccessErr, devAccessAddrOffset, devAccessAddrFunction] ++
  [devVfWriteDrop, devIrqPending, devIrqSel, devIrqPages] ++
  (List.range 32).map devIrqRouteVector ++
  (List.range 32).map devIrqRouteRouteEn

open R in
/-- The fields of a clk page from offset 0x40 on. -/
def clkFlds : List Fld :=
  [clkStateState, clkStateRefSrc, clkStateRefOk, clkStateSwallowLevel, clkFlagsRefLost, clkFlagsDeskewAlarm, clkFlagsTrimHold, clkSrcCtrl, clkSrcCmdSwitchToIosc, clkSrcCmdSwitchToRef, clkCoastDelay, clkCk4Count] ++
  [ioscTrim, ioscTrimCtrlMode, ioscTrimCtrlFreeze, ioscTrimCtrlFramePort, ioscTrimCtrlStepMax, ioscTrimErr, deskewCtrl] ++
  (List.range 5).map deskewStatTap ++
  (List.range 5).map deskewStatLock ++
  (List.range 5).map deskewStatErr ++
  [swallowEdges, fmcCtrlMeas, fmcCtrlRef, fmcCtrlLane, fmcCtrlDie, fmcCtrlStart, fmcWindow, fmcStatusBusy, fmcStatusDone, fmcStatusNoEdge, fmcStatusOverflow, fmcCount] ++
  (List.range 8).map clkEn

open R in
/-- The fields of a rst page from offset 0x40 on. -/
def rstFlds : List Fld :=
  [rstCmdKey, rstCmdWarm, rstPartCmd, rstCause, rstCountsWarm, rstCountsPerst, rstOrder, rstPhase, rstWbLost, rstReadyMap0Cl, rstReadyMap0Nse, rstReadyMap0Hbm] ++
  [rstReadyMap1Port, rstReadyMap1Pipe, rstReadyMap1Flow, rstReadyMap1Station, rstReadyMap2Device, rstReadyMap2Iod, rstReadyMap2Fport]

open R in
/-- The fields of a iod page from offset 0x40 on. -/
def iodFlds : List Fld :=
  [iodReadyPort, iodReadyFport, iodReadyParse, iodReadyClass, iodReadyBlocks, iodMode, iodNotreadyDrop, iodHoldBypass]

open R in
/-- The fields of a pcie page from offset 0x40 on. -/
def pcieFlds : List Fld :=
  [pcieLinkSpeed, pcieLinkWidth, pcieLinkLtssm, pcieCtrlClkMode, pcieCtrlRoData, pcieRetrain, pcieCorrErr, pcieUncorrErr]

open R in
/-- The fields of a dma page from offset 0x40 on. -/
def dmaFlds : List Fld :=
  [dmaEngBusy, dmaRdBytes, dmaWrBytes, dmaBmeWait, dmaHostErr]

open R in
/-- The fields of a part page from offset 0x40 on. -/
def partFlds : List Fld :=
  [partEnabled, partPfWinLo, partPfWinHi, partFwAddr, partFwAddrHiPartition, partFwAddrHiWrite] ++
  (List.range 16).map partFwViol

open R in
/-- The fields of a trust page from offset 0x40 on. -/
def trustFlds : List Fld :=
  [trustBootBank, trustBootKeyIndex, trustBootFwSvn, trustBootFuseSvn, trustRevoked, trustBootFail, trustMeasSel]

open R in
/-- The fields of a port page from offset 0x40 on. -/
def portFlds : List Fld :=
  [portCfgSpeed, portCfgMedia, portCfgAnEn, portCfgLtEn, portCfgPreemptEn, portCfgVerifyDis, portCfgAddFrag, portCfgLaneRev, portMaxFrame, portTagTagTx, portTagTagRx, portTagEthertype] ++
  [portPausePauseEn, portPausePfcEn, portPcpTc, portStatusLink, portStatusPcsLock, portStatusPaused, portStatusPfcPaused, portStatusPreemptActive, portTsLatRx, portTsLatTx, portPtp, rxFrames] ++
  [rxBytes, txFrames, txBytes, rxFcsErr, rxRunt, rxOversize, rxPause, rxPfc, rxFecCorr, rxFecUncorr, rxAssemblyErr, txFcsForced] ++
  [txQueueDrop, txLinkDrop, tagInserted, tagStripped, tagRxDrop, tagSuppressedFit, tagSuppressedMtu, heldForWindow, oversizeForSchedule, preemptFragments, tsFifoOverrun, tsStatus] ++
  [tsPop]

open R in
/-- The fields of a gate page from offset 0x40 on. -/
def gateFlds : List Fld :=
  [gateCtrlEnable, gateCtrlCommit, gateCtrlView, gateAdminLen, gateAdminBase, gateAdminCycle, gateAdminCycleExt, gateInitStates, gateTcPreempt, gateGuardNs, gatePolicy, gateOperBase] ++
  [gateOperCycle, gateOperStates, gateChange] ++
  (List.range 8).map gateMaxWindow

open R in
/-- The fields of a ptp page from offset 0x40 on. -/
def ptpFlds : List Fld :=
  [ptpCapture, ptpTimeNs, ptpTimeSec, ptpTimeFrac, ptpStep, ptpRate, ptpCtrlPtpSrc, ptpCtrlPtpTcEn, ptpPpsCtrlPpsOutEn, ptpPpsCtrlPpsInEn, ptpPpsCtrlPpsInFall, ptpPpsCtrlPpsOutWidth]

open R in
/-- The fields of a parse page from offset 0x40 on. -/
def parseFlds : List Fld :=
  [parseStatesUsed, parsePkts, parseParityIndex]

open R in
/-- The fields of a classp page from offset 0x40 on. -/
def classpFlds : List Fld :=
  [classGenCurrent, classGenLive, classGenBuilding, classGenBuildValid, classGenSweep] ++
  (List.range 8).map classDrain ++
  [classUsed, classUsed2Ternary, classUsed2Range, classUsed2Profiles, classExactWin, classTernaryWin, classDefault, classParityIndex]

open R in
/-- The fields of a slowpath page from offset 0x40 on. -/
def slowpathFlds : List Fld :=
  (List.range 64).map spReasonCount ++
  [spDelivered, spRingFull, spNoFunction, spDmaDrop, spTrunc, spTxFrames, spTxBad] ++
  (List.range 16).map spRxBase ++
  (List.range 16).map spRxCfgLog2 ++
  (List.range 16).map spRxCfgEntryLog2 ++
  (List.range 16).map spRxCfgVector ++
  (List.range 16).map spRxCfgEnable ++
  (List.range 16).map spRxHead ++
  (List.range 16).map spRxTail ++
  (List.range 16).map spRxHoldoff ++
  (List.range 16).map spTxBase ++
  (List.range 16).map spTxCfgLog2 ++
  (List.range 16).map spTxCfgEnable ++
  (List.range 16).map spTxTail ++
  (List.range 16).map spTxHead ++
  (List.range 16).map spTxWb

open R in
/-- The fields of a flow page from offset 0x40 on. -/
def flowFlds : List Fld :=
  [flowGeomLog2, flowGeomEvict, flowAgeRate, flowWbInterval, flowAgePasses] ++
  (List.range 8).map flowAgeT ++
  [flowHits, flowMisses, flowRemote, flowCreated, flowAged, flowEvicted, flowInsertFail, flowLimitMiss, flowCommitStale, flowWriteWithdrawn, flowTpFull, flowEcc] ++
  [flowEccIndex, flowDirty, flowMerge, flowTpInuse, flowFlushCursor] ++
  (List.range 16).map flowPartCount

open R in
/-- The fields of a station page from offset 0x40 on. -/
def stationFlds : List Fld :=
  [stationCfgEvict, stationCfgMoveAction, stationCfgLearnEn, stationSkidPeriod, stationCount, stationLearned, stationMoves, stationMoveBlocked, stationMoveDrop, stationLearnDrop, stationParity, stationParityIndex] ++
  [stationAged, stationLastBlocked, stationLastBlockedHi, stationFlushCursor, stationLastPort, stationSkidPasses]

open R in
/-- The fields of a trig page from offset 0x40 on. -/
def trigFlds : List Fld :=
  [trigItems, trigNoTask, trigIqFull, trigNoFlow, trigFlowVerdict, trigUnverdicted, trigInvalidClass]

open R in
/-- The fields of a hold page from offset 0x40 on. -/
def holdFlds : List Fld :=
  [holdOcc, holdOccPeak, holdPkts, holdExpired, holdFullBypass, holdFollowers] ++
  (List.range 16).map holdLimit ++
  (List.range 16).map holdPartOcc

open R in
/-- The fields of a verdict page from offset 0x40 on. -/
def verdictFlds : List Fld :=
  [verdictApplied, verdictLate, verdictNone, verdictStale, verdictWithdrawn, verdictProvisional, epochMismatch] ++
  (List.range 8).map verdictLat ++
  [trkSel, trkCtrlEnable, trkCtrlFreeze, trkTarget, trkGain, trkSlew, trkMin, trkMax, trkTheta, trkInit, trkAbove, trkBelow] ++
  [trkClamped]

open R in
/-- The fields of a rate page from offset 0x40 on. -/
def rateFlds : List Fld :=
  [rateSel, rateConform, rateExceed]

open R in
/-- The fields of a forest page from offset 0x40 on. -/
def forestFlds : List Fld :=
  [feStateState, feStateStream, feStateStep, feResidentForests, feResidentTables, feMemUsed, feRows, feTreeEvals, feLoadBytes, feStreamBytes, feResHit, feResMiss] ++
  [feEvict, fePrepNan, fePrepClamp, feSat, feMemCe, feMemUe, feFlush]

open R in
/-- The fields of a nse page from offset 0x40 on. -/
def nseFlds : List Fld :=
  [nseStateMode, nseStateCtxUsed, nseParts, nseRemote, nseExpansions, nseValues, nseReadBytes, nsePrefetch, nsePrefetchWaste, nseMemWait, nseBounced, nseTruncated] ++
  [nseUe, nseChSel, nseShardSel, nseMapGenGen, nseMapGenValid, nseMapEntryDevice, nseMapEntryState, nseMapVectors, nseMissing, nseStaleRx, nseLateDrop, nseMapFetch] ++
  [nseRestoreFail]

open R in
/-- The fields of a fab page from offset 0x40 on. -/
def fabFlds : List Fld :=
  [fabStatusRole, fabStatusDeviceId, fabStatusManagerId, fabStatusQReason, fabTerm, fabCfg0Priority, fabCfg0TtlInit, fabCfg0CommitPolicy, fabCfg0ExcludeMax, fabCfg1TimeTolNs, fabCfg1ArmLeadUs, fabCfg2] ++
  [fabCfg3, fabFabricId, fabPrefIdId, fabPrefIdEn, fabDigest, fabMgrDigest, fabReach] ++
  (List.range 16).map fabRportEn ++
  (List.range 16).map fabRportDevice ++
  (List.range 16).map fabRportRport ++
  [fabElections, fabTtlDrop, fabNorouteDrop, fabRxNoport, fabDigestMismatch, fabShardReject, fabMapPub]

open R in
/-- The fields of a fabTime page from offset 0x40 on. -/
def fabTimeFlds : List Fld :=
  [ftCapture, ftFrac, ftNs, ftOffset, ftDelay, ftStatusTimeDegraded, ftStatusSynced, ftStatusParentPort, ftCtrl, ftSteps, ftExchanges]

open R in
/-- The fields of a fabEpoch page from offset 0x40 on. -/
def fabEpochFlds : List Fld :=
  [qState, qCommitId, qEpochsNew, qEpochsFabric, qFlipTime, qPart, qArmed, qFlipped, qLastAbort, qCommits, qAborts, qExcluded] ++
  [qDisarmed, qRejoins]

open R in
/-- The fields of a fport page from offset 0x40 on. -/
def fportFlds : List Fld :=
  [fpStateState, fpStatePeerId, fpStatePeerPort, fpCtrl, fpPeerSerial] ++
  (List.range 3).map fpCredit ++
  [fpAsymPs, fpTxFrames, fpRxFrames, fpFcsErr, fpMarkMiss, fpCreditResync, fpDownEvents, fpBadFrame]

open R in
/-- The fields of a pwr page from offset 0x40 on. -/
def pwrFlds (c : Code) : List Fld :=
  [pwrLoopFreeze, avsTarget, droopCfgDroopPs, droopCfgLevelInit, droopCfgMaxLevel, droopCfgHoldNs, pwrOff, pwrTotal, pwrLimits c, pwrFloor c, pwrMean, avsSteps] ++
  [avsAtLimit, droopFlags, eqLimit, avsbusErr, reelCfg, reelCmMax, reelStepMoves, reelHomeMoves, reelHomeCancel, reelHotSkip] ++
  (List.range 8).map railCfg ++
  (List.range 8).map railV ++
  (List.range 8).map railI ++
  (List.range 8).map railLimits ++
  (List.range 32).map cpmMargin ++
  (List.range 32).map cpmMin

open R in
/-- The fields of a thm page from offset 0x40 on. -/
def thmFlds : List Fld :=
  [thmMaxTemp, thmMaxSensor, thmTarget, thmAlarm, thmTrip, thmStatusAlarm, thmStatusFloor, govGain, govFfDuty, govTime, govR, govImax] ++
  [govFfSrc, govOutDuty, govOutCduty, govOutDF, govTpred, govFf, govCdutyMin] ++
  (List.range 64).map thmSensor ++
  (List.range 8).map thmHbm

open R in
/-- The fields of a plant page from offset 0x40 on. -/
def plantFlds : List Fld :=
  [plantCtrl, plantStatusPumpLost, plantStatusTachLost, plantStatusSensorLost] ++
  (List.range 4).map pwmDutySet ++
  (List.range 4).map pwmDutyOut ++
  (List.range 4).map pwmRole ++
  (List.range 6).map tachCfg ++
  (List.range 6).map tachRate ++
  (List.range 6).map flowMin ++
  (List.range 8).map sensCfg ++
  (List.range 8).map sensValueTemp ++
  (List.range 8).map sensValueValid ++
  [tCoolDefault, plantPumpLoss, plantFloorEntries, i3cNack]

open R in
/-- The fields of a obs page from offset 0x40 on. -/
def obsFlds : List Fld :=
  [obsTallyPeriod, obsTallyCmd, obsTallySeq, tallyBase, tallyCfgLog2, tallyCfgWrap, tallyCfgEnable, tallyWr, tallyRd, tallyLost, tallyBytes, obsFreezeSw] ++
  [obsFreezePinEn, obsFreezeFabricEn, obsFreezeOnFatal, obsFreezeOnRecord, obsFreezeStopTrace, obsFreezeStopTaps, obsFreezeFaultToFabric, obsFreezeSrcSw, obsFreezeSrcPin, obsFreezeSrcFabric, obsFreezeSrcFrozen, obsFreezeSrcFault] ++
  [obsFabricFreezeFreeze, obsFabricFreezeThaw, obsFrozenAt, obsFreezes, obsFreezeLate, obsBudgetTrace, obsBudgetTap] ++
  (List.range 16).map histCfgKind ++
  (List.range 16).map histCfgIndex ++
  [histSel] ++
  (List.range 16).map histBin ++
  (List.range 16).map markerCfgMarker ++
  (List.range 16).map markerCfgPartition ++
  (List.range 16).map markerCfgEn ++
  [markerSel, mkPairs, mkSumNs, mkMinNs, mkMaxNs, mkOrphans, obsSwMarkMarker, obsSwMarkEnd]

open R in
/-- The fields of a obsTrace page from offset 0x40 on. -/
def obsTraceFlds : List Fld :=
  [trCtrlEnable, trCtrlWrap, trBase, trLog2, trWr, trRd, trCoreEn, trEventEnQueue, trEventEnStep, trEventEnItem, trEventEnVerdict, trEventEnMarker] ++
  [trEventEnFab, trEventEnFabMark, trEventEnTap, trPartEn, trFabTypes, trFabPorts, trSyncUs, trLost, trPending]

open R in
/-- The fields of a obsTap page from offset 0x40 on. -/
def obsTapFlds : List Fld :=
  [tapCtrlEnable, tapCtrlWrap, tapBase, tapLog2, tapWr, tapRd, tapCaptures, tapLost, tapBytes, tapEntrySel]

open R in
/-- The fields of a hbm page from offset 0x40 on. -/
def hbmFlds : List Fld :=
  [hbmStatusTrained, hbmStatusSelfRefresh, hbmCe, hbmUeAddr, hbmUe, hbmPoisoned, hbmScrubCfgPeriod, hbmScrubCfgEn, hbmScrubPasses, hbmScrubPos, hbmPhyErr, hbmRetry]

open R in
/-- The fields of a flt page from offset 0x40 on. -/
def fltFlds : List Fld :=
  [fltLogWr, fltLogRd, fltLogOverwritten, fltRecSel, fltDumpCfgCm, fltDumpCfgTraceEn, fltDumpBudget, fltMirrorBase, fltMirrorCfgMib, fltMirrorCfgOnFatal, fltMirrorCmd, fltMirrorStatusDone] ++
  [fltMirrorStatusErr]

open R in
/-- The fields of a cruise page from offset 0x40 on. -/
def cruiseFlds : List Fld :=
  [crzCmdGo, crzCmdWfg, crzInterval, crzDst, crzMax, crzStatusBusy, crzStatusDone, crzStatusErr, crzBytes, crzCk4, crzCount]

open R in
/-- The fields of a fltAon page from offset 0x40 on. -/
def fltAonFlds : List Fld :=
  [logfailStatusLogUe, logfailStatusWriteStuck, logfailStatusCtrlFail, logfailFirstClass, logfailFirstCode, logfailCount, logfailTime, aonFatals, aonLastFatal, aonLandingState, aonLandingPending, aonLandingMirrored] ++
  [aonLandingKeepFirst, aonFaultNCause, aonFaultNBlockEn, aonFaultNAsserted, aonDumpSeq]

open R in
/-- The fields of a wfg page from offset 0x40 on. -/
def wfgFlds : List Fld :=
  [wfgSeq, wfgCountsNodes, wfgCountsEdges, wfgFoundCycles, wfgFoundRoots, wfgFirstRoot, wfgFirstCycle, wfgEdgeSel, wfgFlags, wfgEdge]

open R in
/-- The fields of a hk page from offset 0x40 on. -/
def hkFlds : List Fld :=
  [hkTicks, hkWdtExpired, hkLoad]

open R in
/-- The fields of a serdes page from offset 0x40 on. -/
def serdesFlds : List Fld :=
  (List.range 24).map laneRxLock ++
  (List.range 24).map laneTxReady ++
  (List.range 24).map laneRxInvert ++
  (List.range 24).map laneTxInvert ++
  (List.range 24).map laneEqCtle ++
  (List.range 24).map laneEqAdapting ++
  (List.range 24).map laneEqAtLimit ++
  (List.range 24).map laneEqFrozen ++
  (List.range 24).map laneSymbolErr

open R in
/-- The fields of a fabRoute page from offset 0x40 on. -/
def fabRouteFlds : List Fld :=
  [routeVer] ++
  (List.range 64).map routeEntry

/-- The fields of a page from offset 0x40 on, by kind. -/
def ownFlds (c : Code) : PT → List Fld
  | .dev => devFlds
  | .clk => clkFlds
  | .rst => rstFlds
  | .pwr => pwrFlds c
  | .thm => thmFlds
  | .plant => plantFlds
  | .feGlobal => feGlobalFlds
  | .feSlot => feSlotFlds
  | .cl => clFlds
  | .seq => seqFlds
  | .core => coreFlds
  | .qsu => qsuFlds
  | .forest => forestFlds
  | .nse => nseFlds
  | .iod => iodFlds
  | .port => portFlds
  | .gate => gateFlds
  | .fport => fportFlds
  | .serdes => serdesFlds
  | .ptp => ptpFlds
  | .parse => parseFlds
  | .classp => classpFlds
  | .flow => flowFlds
  | .station => stationFlds
  | .trig => trigFlds
  | .hold => holdFlds
  | .verdict => verdictFlds
  | .rate => rateFlds
  | .slowpath => slowpathFlds
  | .pcie => pcieFlds
  | .dma => dmaFlds
  | .part => partFlds
  | .trust => trustFlds
  | .hk => hkFlds
  | .fab => fabFlds
  | .fabRoute => fabRouteFlds
  | .fabTime => fabTimeFlds
  | .fabEpoch => fabEpochFlds
  | .hbm => hbmFlds
  | .obs => obsFlds
  | .obsTrace => obsTraceFlds
  | .obsTap => obsTapFlds
  | .flt => fltFlds
  | .cruise => cruiseFlds
  | .fltAon => fltAonFlds
  | .wfg => wfgFlds

/-- All fields of a page. -/
def pageFlds (c : Code) (t : PT) : List Fld := headerFlds ++ ownFlds c t

end Sys2Proof.Machine
end

