-- ==== Sys2Proof/Machine/State.lean ====
section
/-! DEFINITION. Machine/State.lean: everything the spec gives the machine, as plain data; State.reset. -/

namespace Sys2Proof.Machine

/-! ## Registers and memory -/

/-- Register cells by bit address (8 x BAR0 offset + low bit), keys rising, no cell equal to its reset value. -/
abbrev RegMap := List (Nat × Nat)

/-- Bytes by address, addresses rising, none equal to 0, which an unlisted address reads as. -/
abbrev Memory := List Host.Cell

/-- A forest (14, Residency) or a prep table held by a Forest Engine: its cluster, the device physical address it was loaded
from, its bytes. -/
structure Resident where
  cluster : Nat
  table : Bool
  addr : Nat
  bytes : Bytes
  deriving DecidableEq, Repr

/-- Every addressed memory of the device, and host memory as DMA reaches it. -/
structure MemSt where
  /-- HBM by device physical address (08 R352: zero after reset) -/
  dev : Memory
  /-- host memory by bus address; an unlisted byte reads 0 (log entry 7) -/
  host : Memory
  /-- cluster memories: cluster * 2^24 + offset -/
  cm : Memory
  /-- core memories: (8 * cluster + core) * 2^20 + offset -/
  core : Memory
  /-- what Forest memories and prep stores hold, most recently used first -/
  forest : List Resident
  /-- poisoned 64-byte lines, by line address (19 R1020) -/
  poison : List Nat
  deriving DecidableEq, Repr

/-! ## Part, time, pins -/

/-- The straps (20, Straps). -/
structure Straps where
  portsFirst : Bool
  plantDrive : Bool
  spiQuad : Bool
  mgmtSmb : Bool
  mgmtAddr : Nat
  testMode : Bool
  deriving DecidableEq, Repr

/-- What manufacture and the fuses fix. -/
structure Part where
  code : Code
  straps : Straps
  /-- root key hashes of fuses, four of 48 bytes -/
  rootHash : List Bytes
  /-- revocation bits -/
  revoked : Nat
  /-- FUSE_SVN -/
  fuseSvn : Nat
  deriving DecidableEq, Repr

/-- Time: CLK_CK4_COUNT, the device time base and fabric time (07 R321, 16 R790). Times are in 2^-16 ns. -/
structure TimeSt where
  ck4 : Nat
  /-- device time base -/
  base : Nat
  /-- fabric time less device time base -/
  corr : Int
  /-- correction still to be spread, and the edges left to spread it over (16 R791) -/
  spread : Int
  spreadEdges : Nat
  deriving DecidableEq, Repr

/-- Pins, as driven from outside, and outputs that latch (20). -/
structure PinSt where
  pwrGood : Bool
  perst : Bool
  refclk : Bool
  freezeIn : Bool
  ppsIn : Bool
  ppsOut : Bool
  /-- THERMTRIP_N asserted (17 R855) -/
  thermtrip : Bool
  /-- FAULT_N asserted (19 R954) -/
  faultN : Bool
  /-- boundary-scan instruction code in effect -/
  jtag : Nat
  /-- every output at its power-good-low state (20 R996) -/
  lowState : Bool
  deriving DecidableEq, Repr

/-! ## Queues, slots, tasks (02) -/

/-- A queue control block (02, QCB table). -/
structure Qcb where
  sqBase : Nat
  cqBase : Nat
  sqLog2 : Nat
  cqLog2 : Nat
  prio : Nat
  part : Nat
  sqHead : Nat
  sqTail : Nat
  cqTail : Nat
  cqHead : Nat
  vector : Nat
  quantum : Nat
  state : Nat
  phase : Nat
  irqEn : Nat
  retired : Nat
  ceDropped : Nat
  dbReject : Nat
  slot : Nat
  persist : Nat
  deriving DecidableEq, Repr

/-- The four states of an entry, finished added for an entry that waits for its turn to retire (R99). -/
inductive EntSt where
  | pending | granted | started | finished
  deriving DecidableEq, Repr

/-- A visible queue entry. Times are device time in ns. -/
structure Entry where
  idx : Nat
  st : EntSt
  queued : Nat
  start : Option Nat
  finish : Nat
  /-- fabric time of the finish -/
  fabFinish : Nat
  epoch : Nat
  gen : Nat
  status : Nat
  detail : Nat
  slot : Nat
  /-- it has been granted; it counts among the entries in flight until it retires -/
  granted : Bool
  /-- covered by a CANCEL while granted: runs as a void operation (R108) -/
  void : Bool
  /-- the descriptor, read at grant -/
  desc : Bytes
  /-- what a multi-step command has to remember between its steps -/
  memo : List Nat
  deriving DecidableEq, Repr

/-- A queue: its QCB and its entries in ring order. -/
structure Queue where
  qcb : Qcb
  ents : List Entry
  /-- positions on the ring that a QUEUE_DESTROY waits for: the queue 0 index of the command -/
  destroyer : Option Nat
  deriving DecidableEq, Repr

/-- A hardware slot. -/
structure Slot where
  queue : Option Nat
  pinned : Option Nat
  resetting : Bool
  /-- device time in ns at which the queue was mapped -/
  mappedAt : Nat
  /-- queue 0 index of the SLOT_RESET in progress -/
  resetBy : Option Nat
  /-- CK4 count at which that began -/
  resetAt : Nat
  deriving DecidableEq, Repr

/-- A persistent task (R73 to R80). -/
structure Task where
  queue : Nat
  index : Nat
  slot : Nat
  part : Nat
  mslot : Nat
  entryPt : Nat
  params : Bytes
  patches : List (Nat × Nat)
  mask : Nat
  maxInflight : Nat
  /-- TAG of the launching descriptor -/
  tag : Nat
  /-- 0 running, 1 draining, 2 detaching -/
  stopping : Nat
  /-- items a draining task still takes: those in its queue when DRAIN came (R79) -/
  left : Nat
  /-- queue and index of the STOP_PERSISTENT that waits -/
  stopBy : Option (Nat × Nat)
  deriving DecidableEq, Repr

/-- An input-queue item (13): the class record is its packet's; pkt is none for an item a graph pushed. -/
structure Item where
  id : Nat
  /-- the 256-byte item -/
  bytes : Bytes
  epoch : Nat
  part : Nat
  die : Nat
  pkt : Option Nat
  held : Bool
  flow : Nat
  clsRec : Bytes
  stampAt : Nat
  queuedAt : Nat
  deriving DecidableEq, Repr

/-- An input queue: its bound task, depth, items in order. -/
structure InQueue where
  bound : Option Nat
  log2 : Nat
  items : List Item
  deriving DecidableEq, Repr

/-- A step of an invocation. -/
inductive StepSt where
  | waiting | started | done | skipped
  deriving DecidableEq, Repr

/-- A step: state, the cluster it runs on, whether Reel moved it. -/
structure Step where
  st : StepSt
  cluster : Nat
  moved : Bool
  deriving DecidableEq, Repr

/-- An invocation: a launched graph or a persistent-task item being run (05 R205 to R217). -/
structure Inv where
  /-- launching queue and ring index -/
  queue : Nat
  index : Nat
  /-- the item, for a persistent task's invocation; none for a launch -/
  item : Option Item
  /-- input queue of the task -/
  iq : Nat
  slot : Nat
  part : Nat
  mslot : Nat
  bank : Nat
  epoch : Nat
  first : Nat
  /-- patched op-table entries (80 bytes) of the entry point's steps -/
  ops : List Bytes
  /-- dependencies of each step -/
  deps : List (List Nat)
  /-- patched tensor-table entries (80 bytes) -/
  tensors : List Bytes
  steps : List Step
  /-- scratch copy held -/
  scratch : Option Nat
  /-- waiting for a scratch copy (R215) -/
  waiting : Bool
  /-- physical cluster of each logical one (R211) -/
  clusters : List Nat
  /-- armed tap entries (18 R921) -/
  taps : List Nat
  /-- further items a WAIT_QUEUE of the run took -/
  extra : List Item
  /-- items of the run that have a verdict (R651) -/
  verdicts : List Nat
  /-- its steps are done and its item has no verdict (R646) -/
  ended : Bool
  /-- first error of the run: status and detail -/
  fail : Option (Nat × Nat)
  /-- least search coverage met, 65536 when whole -/
  coverage : Nat
  deriving DecidableEq, Repr

/-- The front end. -/
structure FeSt where
  queues : List (Nat × Queue)
  /-- cached queues, most recently used first (R41) -/
  cache : List Nat
  slots : List Slot
  tasks : List (Nat × Task)
  iqs : List (Nat × InQueue)
  invs : List (Nat × Inv)
  nextInv : Nat
  /-- undelivered asynchronous completions: queue, index, status, detail, slot, epoch, item flag -/
  asyncs : List (Nat × List Nat)
  /-- SEQ_DONE counts and progress by slot live in the registers -/
  nextItem : Nat
  deriving DecidableEq, Repr

/-! ## Models and epochs (05) -/

/-- A bank of a model slot. -/
structure Bank where
  state : Nat
  fromE : Nat
  untilE : Nat
  base : Nat
  size : Nat
  digest : Bytes
  modelId : Nat
  /-- scratch copies in use -/
  scratchUsed : List Nat
  deriving DecidableEq, Repr

/-- A model slot. -/
structure MSlot where
  owner : Nat
  owned : Bool
  retire : Bool
  b0 : Bank
  b1 : Bank
  stageBytes : Nat
  deriving DecidableEq, Repr

/-- A resident epoch and its drain counter. -/
structure Epoch where
  id : Nat
  drain : Nat
  deriving DecidableEq, Repr

/-- Models, epochs, journal. -/
structure ModSt where
  slots : List (Nat × MSlot)
  /-- resident epochs, oldest first; the last is current -/
  epochs : List Epoch
  /-- commits since cold reset; the journal itself lies in device memory -/
  seq : Nat
  /-- a commit in progress: queue 0 index -/
  commitBy : Option Nat
  /-- restored banks not yet re-verified (R255): slot, bank -/
  unverified : List (Nat × Nat)
  deriving DecidableEq, Repr

/-! ## Fabric (16) -/

/-- A fabric port. -/
structure FPort where
  /-- FP_STATE code -/
  st : Nat
  /-- device time in ns at which the state was entered -/
  since : Nat
  /-- device time in ns of the last frame received -/
  lastRx : Nat
  peer : Option Hello
  peerSerial : Option Nat
  /-- credits held per VC -/
  credits : List Nat
  /-- cumulative credits consumed and received per VC, mod 2^32 -/
  sent : List Nat
  recvd : List Nat
  /-- credits to return per VC, and since when -/
  owed : List Nat
  owedSince : Nat
  /-- initial credits received per VC (CREDIT_INIT) -/
  init : List Nat
  /-- MARK_US last received and sent, and frame indices since -/
  markRx : Option Nat
  rxIdx : Nat
  markTx : Nat
  txIdx : Nat
  /-- frames waiting, in order -/
  queue : List MFrame
  /-- next hello due (device ns) -/
  helloAt : Nat
  /-- the HELLO last sent -/
  sentHello : Option Hello
  deriving DecidableEq, Repr

/-- Quadrille in progress (16, Quadrille). Masks are over device IDs. -/
structure Quad where
  manager : Bool
  commitId : Nat
  expect : Nat
  mask : Nat
  flip : Nat
  /-- flip time asked for by the command -/
  asked : Nat
  parts : Nat
  staged : Nat
  armed : Nat
  flipped : Nat
  msgFlip : Nat
  excluded : Nat
  digests : List (Nat × List (Nat × Bytes))
  /-- FLIP received; own MSG_FLIP sent -/
  go : Bool
  ownMsg : Bool
  /-- queue 0 index of the command on the manager or on a rejoining device -/
  entry : Option Nat
  proposeAt : Nat
  nowAt : Nat
  /-- SEQ of the ARMED record -/
  seq : Nat
  deriving DecidableEq, Repr

/-- The fabric. -/
structure FabSt where
  ports : List FPort
  hasId : Bool
  best : Option Key
  latest : Nat
  bestSince : Nat
  mgr : Option Key
  ids : List (Nat × Nat)
  /-- IDs given: serial, id, device ns of last holding -/
  given : List (Nat × Nat × Nat)
  /-- links known to the manager: device, port, peer device, peer port -/
  links : List (Nat × Nat × Nat × Nat)
  linksDirty : Bool
  routes : List RouteEnt
  lastBeacon : Nat
  beaconSent : Nat
  mgrLostSince : Option Nat
  aloneSince : Option Nat
  quarantined : List Nat
  acc : Int
  lastO : List Int
  badRun : Nat
  goodRun : Nat
  lastExch : Nat
  reqSent : Nat
  /-- it has learned that no manager is known to it, or that two fabrics met (16 R774) -/
  electDue : Bool
  quad : Option Quad
  claimAt : Option Nat
  published : Bool
  deriving DecidableEq, Repr

/-! ## Power, thermal, plant (17) -/

/-- Power loops. -/
structure PwrSt where
  railFail : List Nat
  cpmLow : List Int
  cpmDroop : List Bool
  /-- CPMs whose MIN was read, and so cleared, since their last sample -/
  cpmRead : List Nat
  goodRun : List Nat
  droopActive : Bool
  lastDroop : Nat
  lastStep : Nat
  /-- power samples in mW, newest first (R827) -/
  hist : List Nat
  /-- lane coefficients: lane, CTLE and 12 taps, time held at an end -/
  eq : List (Nat × List Int)
  eqHeld : List (Nat × Nat)
  /-- Reel step moves: cluster, window start us, count -/
  reelMoves : List (Nat × Nat × Nat)
  /-- home streaks: flow index, die, count (R849) -/
  streaks : List (Nat × Nat × Nat)
  deriving DecidableEq, Repr

/-- Thermal, governor, plant. -/
structure ThmSt where
  /-- sensors at or above THM_TRIP in the last sample; 64 + i where sensor i was in the sample before it too -/
  tripRun : List Nat
  integ : Int
  releasing : Bool
  /-- edge times in ns of each pulse input, newest first -/
  tach : List (List Nat)
  /-- ns since which a flow input reads below FLOW_MIN -/
  lowSince : List (Option Nat)
  i3cFail : List Nat
  deriving DecidableEq, Repr

/-! ## Observation (18) -/

/-- A latched page block: BAR0 offset, gated, frozen, entries (offset, value). -/
structure PageBlock where
  page : Nat
  gated : Bool
  frozen : Bool
  ents : List (Nat × Nat)
  deriving DecidableEq, Repr

/-- A latched tally period waiting to be written. -/
structure Latch where
  seq : Nat
  prev : Nat
  ft : Nat
  ck4 : Nat
  period : Nat
  skipped : Nat
  frozen : Bool
  degraded : Bool
  early : Bool
  blocks : List PageBlock
  ops : List (Nat × Nat × Nat)
  bins : List (Nat × Nat)
  deriving DecidableEq, Repr

/-- A marker accumulator (R900). -/
structure MkAcc where
  pairs : Nat
  sum : Nat
  min : Nat
  max : Nat
  orphans : Nat
  deriving DecidableEq, Repr

/-- An open begin marker: marker, source, invocation (0 for the host), fabric ns. -/
structure OpenMark where
  marker : Nat
  source : Nat
  inv : Nat
  at_ : Nat
  deriving DecidableEq, Repr

/-- A die's trace buffer: records oldest first, and the loss not yet reported. -/
structure TraceBuf where
  recs : List Bytes
  lost : Nat
  lostSrc : Nat
  lostFirst : Nat
  deriving DecidableEq, Repr

/-- A tap entry's counts: matches since armed, captures lost. -/
structure TapCnt where
  seen : Nat
  lost : Nat
  deriving DecidableEq, Repr

/-- A capture due (18 R923, R924): the retired step, the tap entry, fabric ns and CK4 count of the retirement. -/
structure TapDue where
  inv : Nat
  step : Nat
  entry : Nat
  ft : Nat
  ck4 : Nat
  deriving DecidableEq, Repr

/-- A fabric freeze or thaw waiting for its time. -/
structure FreezeMsg where
  thaw : Bool
  id : Nat
  at_ : Nat
  deriving DecidableEq, Repr

/-- Observation. -/
structure ObsSt where
  freezeId : Option Nat
  freezeWait : List FreezeMsg
  nextFreezeId : Nat
  latches : List Latch
  ftPrev : Nat
  skipped : Nat
  nextTally : Nat
  /-- (partition * 128 + class * 16 + format) -> STEPS, WORK -/
  ops : List (Nat × Nat × Nat)
  /-- histogram * 16 + bin -> cycles -/
  bins : List (Nat × Nat)
  open_ : List OpenMark
  acc : List (Nat × MkAcc)
  /-- register bit address * 16 + partition -> share of the counter (R909) -/
  shares : List (Nat × Nat)
  bufs : List TraceBuf
  traceTokens : Int
  tapTokens : Int
  tokensAt : Nat
  taps : List (Nat × Bytes)
  tapCnt : List (Nat × TapCnt)
  syncAt : Nat
  tapDue : List TapDue
  deriving DecidableEq, Repr

/-! ## Faults (19) -/

/-- The fatal path in progress: code, detection times, whether only hardware runs it, the cause of the warm reset
that ends it, second fatal errors, whether the dump has ended, the record that triggered it, epoch and generation. -/
structure Fatal where
  code : Nat
  detect : Nat
  ftime : Nat
  ck4 : Nat
  hwOnly : Bool
  warmCause : Nat
  seconds : Nat
  done : Bool
  trigger : Bytes
  epoch : Nat
  gen : Nat
  deriving DecidableEq, Repr

/-- A Cruise in progress: the queue 0 index of its command (none: the register path), where it writes, whether it
takes a second snapshot, the device ns at which that is due, snapshot A and its CK4 count. -/
structure Cruise where
  entry : Option Nat
  dst : Nat
  wfg : Bool
  due : Nat
  a : Bytes
  ck4 : Nat
  deriving DecidableEq, Repr

/-- An edge of the wait-for graph. -/
structure WEdge where
  waiter : Nat
  holder : Nat
  reason : Nat
  flags : Nat
  deriving DecidableEq, Repr

/-- Fault log, dump, Cruise. -/
structure FltSt where
  seq : Nat
  /-- entry -> 64-byte record -/
  log : List (Nat × Bytes)
  fatal : Option Fatal
  wfg : List WEdge
  /-- snapshot of the fatal path -/
  fatalSnap : Bytes
  /-- control cores' last CORE_SYNC times by source -/
  coreSync : List (Nat × Nat)
  wdtServiced : Nat
  hkStopped : Bool
  cruise : Option Cruise
  deriving DecidableEq, Repr

/-! ## Host functions (09) -/

/-- A PCIe function: 0 the physical function, v + 1 virtual function v. -/
structure Func where
  present : Bool
  bme : Bool
  msixEn : Bool
  msixMask : Bool
  /-- vectors whose mask bit is clear, and pending ones -/
  vecOpen : List Nat
  vecPend : List Nat
  /-- MSI-X table: dword number below the control words (4 v + 0 to 2) -> its value, 0 where unlisted (09 R398) -/
  vecTab : List (Nat × Nat)
  deriving DecidableEq, Repr

/-- The host side. -/
structure HostSt where
  funcs : List Func
  numVfs : Nat
  vfEnable : Bool
  /-- interrupt groups whose message is due (06 R298) -/
  dueGroups : List Nat
  /-- high-word shadows: function, page -> offset of the LO read, word (06 R289) -/
  shadows : List (Nat × Nat × Nat × Nat)
  deriving DecidableEq, Repr

/-- What has left the device: messages, frames, bytes returned to readers. -/
structure OutSt where
  /-- MSI-X messages: function, vector -/
  msix : List (Nat × Nat)
  /-- frames put on network ports, newest first: port, start in device ns, bytes from DMAC without FCS, whether the FCS
  is the correct one; a frame split by preemption stands once per fragment -/
  eth : List (Nat × Nat × Bytes × Bool)
  /-- fabric frames sent: port, fabric time of departure (2^-16 ns), frame -/
  fab : List (Nat × Int × MFrame)
  /-- values returned by BAR reads, newest first, and whether the completion was poisoned (09 R402) -/
  reads : List (Nat × Bool)
  /-- bytes returned to the management bus master, newest first -/
  mgmt : List Bytes
  /-- data registers captured for the test access port: width, value; newest first -/
  tdr : List (Nat × Nat)
  deriving DecidableEq, Repr

/-! ## Clocks and resets (07, 08) -/

/-- The clock system beside the CLK page: times of its own events. -/
structure ClkSt where
  /-- device ns at which COAST was entered, at which REF_OK rose -/
  coastSince : Nat
  refOkSince : Nat
  /-- the reference RELOCK or LOCKING goes to: 0 REFCLK, 1 IOSC -/
  relockTo : Nat
  /-- sixteenths of a root edge towards the next swallowed one (R342) -/
  swallowAcc : Nat
  /-- CK4 count at which the frequency counter was started -/
  fmcAt : Nat
  /-- device ns of the last trim source edge -/
  trimEdge : Nat
  deriving DecidableEq, Repr

/-- Resets in progress (08). -/
structure RstSt where
  /-- partitions being reset, with the CK4 count at which each reset began -/
  parts : List (Nat × Nat)
  /-- a warm reset has been requested or is under way, with its cause -/
  warm : Option Nat
  /-- device ns at which the warm reset began -/
  warmAt : Nat
  /-- blocks of the dies held in reset -/
  held : Bool
  /-- ports accept no frames and no work is issued (17 R856, 19 fatal path step 1) -/
  stopped : Bool
  /-- restored after this reset: the RESTORE phase is due -/
  restoring : Bool
  deriving DecidableEq, Repr

/-! ## Partitions and trust (09) -/

/-- A boot descriptor copy of the flash. -/
structure BootDesc where
  seq : Nat
  active : Nat
  pending : Nat
  valid : Bool
  deriving DecidableEq, Repr

/-- A bundle bank of the flash: the bundle of manufacture, or one a FIRMWARE_UPDATE wrote. -/
inductive FwBank where
  | factory
  | written (bytes : Memory) (size : Nat)
  deriving DecidableEq, Repr

/-- Partitions, measurements, flash, the bundle that booted. -/
structure TrustSt where
  /-- partition records, nonzero bytes by offset; a partition with no entry has the zero record (R418) -/
  records : List (Nat × Memory)
  /-- M0 to M7 -/
  meas : List Bytes
  descs : List BootDesc
  banks : List FwBank
  /-- stage 1 accepted in this bank, and the whole bundle accepted -/
  stage1 : Option Nat
  booted : Option Nat
  /-- SPI pins tristated (R426) -/
  spiOff : Bool
  deriving DecidableEq, Repr

/-! ## Packets, rulesets, tables (10 to 13) -/

/-- A shared classifier entry: GEN_MASK, contents, and what else must agree for sharing (R510): the profile's mask
of an exact entry, the TSEL of a ternary one. -/
structure Masked where
  mask : Nat
  bytes : Bytes
  tag : Bytes
  deriving DecidableEq, Repr

/-- A generation: physical indices of its states and profiles, its own tables. -/
structure GenSet where
  builtin : Bool
  start : Nat
  defaultClass : Nat
  states : List Nat
  profiles : List Nat
  tsel : Bytes
  reasons : Bytes
  classes : Bytes
  drain : Nat
  deriving DecidableEq, Repr

/-- Rulesets. -/
structure RuleSt where
  /-- current generation -/
  cur : Nat
  /-- live generations, oldest first, the current one last -/
  live : List Nat
  building : Option Nat
  /-- released generations whose bits are not yet swept -/
  sweep : List Nat
  gens : List (Nat × GenSet)
  states : List (Nat × Masked)
  /-- parse states with a parity error (R543) -/
  badStates : List (Nat × Nat)
  /-- classifier entries found bad: pipe, index as CLASS_PARITY_INDEX numbers them (R543) -/
  badRules : List (Nat × Nat)
  profiles : List (Nat × Masked)
  exact : List (Nat × Masked)
  ternary : List (Nat × Masked)
  ranges : List (Nat × Masked)
  deriving DecidableEq, Repr

/-- A packet in the device. Times are device ns. -/
structure Pkt where
  port : Nat
  die : Nat
  pipe : Nat
  /-- the frame without FCS, a stripped tag removed -/
  frame : Bytes
  /-- ingress timestamp, in the layout of 11 (TS): NS, SEC, FRAC -/
  ts : Bytes
  t : Nat
  gen : Nat
  key : Bytes
  reason : Nat
  cls : Nat
  /-- the class record of its class in its generation -/
  rec_ : Bytes
  /-- offset and kind (4, 6) of the outermost IP header; offset of a PTP message -/
  ip : Option (Nat × Nat)
  ptp : Option Nat
  /-- 0 parsed, 1 looked up, 2 past the trigger stage, 4 left the verdict stage or dropped -/
  stage : Nat
  fkey : Bytes
  flow : Option Nat
  /-- flow index that a reservation holds for it -/
  resv : Option Nat
  ordinal : Nat
  /-- the flow context as its lookup gave it -/
  ctx : Bytes
  tp : Bool
  tpMask : Nat
  tpBytes : Bytes
  epoch : Option Nat
  stampAt : Nat
  fired : Bool
  head : Bool
  item : Option Nat
  /-- its item has been queued -/
  queued : Bool
  /-- verdict-stage reasons that its good tail will count (11 R542) -/
  reasons : List Nat
  held : Bool
  ahead : Option Nat
  cells : Nat
  /-- 0 not arrived, 1 good, 2 bad -/
  tail : Nat
  committed : Bool
  verdict : Option Bytes
  /-- the verdict reached its packet before the tail -/
  early : Bool
  /-- why a held packet was released: 0 not, 1 verdict, 2 expiry, 3 no verdict, 4 follower -/
  release : Nat
  /-- ports the forwarding decision names -/
  fwd : List Nat
  moveDrop : Bool
  /-- copies whose egress, delivery or sending is due -/
  copies : Nat
  withdrawn : Bool
  /-- what REDIRECT, MIRROR or bridging sends over the fabric: remote ports -/
  remote : List Nat
  /-- applied action set and score -/
  actions : Bytes
  score : Nat
  unverdicted : Bool
  /-- timestamp request of the reinjection descriptor it came from -/
  tsReq : Nat
  /-- it entered on a fabric port (13 R665) -/
  fabric : Bool
  deriving DecidableEq, Repr

/-- A slow-path copy that waits: its packet, ring, reason, frame and tag as they stand (11). -/
structure SlowEnt where
  pkt : Nat
  part : Nat
  reason : Nat
  frame : Bytes
  tag : Bytes
  /-- may go before its tail's state is known good: the tail has arrived -/
  ready : Bool
  deriving DecidableEq, Repr

/-- A frame in an egress queue (10). -/
structure EgrEnt where
  pkt : Option Nat
  frame : Bytes
  /-- the verdict tag it may carry, in wire order; empty where none ever goes in (10 R496, 11 NO_TAG) -/
  tag : Bytes
  /-- its class asks for a tag (10 R494) -/
  ask : Bool
  /-- rate of the ingress port in Gb/s, for cut-through; 0 for a frame that is whole -/
  inRate : Nat
  /-- timestamp request: 0 none, 1 two-step, 2 one-step -/
  tsReq : Nat
  /-- offset of a PTP message, and what carries it: 2 Ethernet, 4 IPv4, 6 IPv6 -/
  ptp : Option (Nat × Nat)
  /-- ingress time of a PTP message in PTP time, 2^-16 ns -/
  ingress : Nat
  /-- counted in HELD_FOR_WINDOW -/
  counted : Bool
  /-- a model verdict applied before the tail -/
  early : Bool
  /-- bytes of the edited frame already sent as fragments; 0 not begun -/
  left : Nat
  /-- the partition its counters carry (18, Tenant filtering): of its class, or of its reinjection ring -/
  part : Nat
  deriving DecidableEq, Repr

/-- A frame on the wire: its entry, the bytes sent, start and end in 2^-16 ns of the device time base, TC. -/
structure EgrCur where
  ent : EgrEnt
  start : Nat
  stop : Nat
  bytes : Bytes
  /-- frame bytes of a fragment, mCRC not counted; 0 for a frame, or the last part of one, sent to its end -/
  frag : Nat
  tc : Nat
  /-- sent before its tail was known good -/
  cut : Bool
  deriving DecidableEq, Repr

/-- An operating or pending gate list: entries (gates, interval), base, cycle; PTP ns. -/
structure GateList where
  ents : List (Nat × Nat)
  base : Nat
  cycle : Nat
  deriving DecidableEq, Repr

/-- A network port beside its pages. -/
structure EPort where
  queues : List (List EgrEnt)
  cur : Option EgrCur
  paused : Nat
  /-- end of the PFC pause of each TC -/
  pfc : List Nat
  preempt : Bool
  verifyTries : Nat
  fifo : List Bytes
  /-- the 2048-byte admin list -/
  admin : Memory
  oper : Option GateList
  pendingList : Option (Int × GateList)
  /-- R474: PTP ns from which the last gates hold until the change, the cycle before it being extended -/
  extend : Option Int
  deriving DecidableEq, Repr

/-- PTP: counter value in 2^-56 ns at time base ptpAt (2^-16 ns), last PPS second. -/
structure PtpSt where
  val : Int
  at_ : Nat
  ppsIn : Bytes
  ppsSec : Nat
  ppsHighUntil : Nat
  deriving DecidableEq, Repr

/-- A line of a flow cache. -/
structure FlowLine where
  ctx : Bytes
  dirty : Bool
  dirtyAt : Nat
  used : Nat
  deriving DecidableEq, Repr

/-- A reservation: its key and the packets that hold it. -/
structure Resv where
  key : Bytes
  pkts : List Nat
  deriving DecidableEq, Repr

/-- Reel's streak and a home move in progress. -/
structure HomeMove where
  flow : Nat
  target : Nat
  deriving DecidableEq, Repr

/-- A station learn on its way to I0: die, key (8 bytes), port, partition. -/
structure Learn where
  die : Nat
  key : Bytes
  port : Nat
  part : Nat
  deriving DecidableEq, Repr

/-- The tables (12). -/
structure TabSt where
  /-- flow cache of each die: index -> line -/
  caches : List (List (Nat × FlowLine))
  resv : List (Nat × Resv)
  clock : Nat
  moves : List HomeMove
  agePos : Nat
  ageAt : Nat
  /-- station copies: the primary on die 0, the replica of each other die -/
  station : List (List (Nat × Bytes))
  /-- replica entries, die and index, whose parity error the next lookup meets (R616) -/
  parityMiss : List (Nat × Nat)
  learns : List Learn
  skidAt : Nat
  /-- a flush in progress: table -> queue 0 index, next index, end, removed -/
  flush : List (Nat × List Nat)
  deriving DecidableEq, Repr

/-- A verdict on its way to a die: packet, record, item's epoch, its packet's stamp time, flow handle, class, class
record; the item said HELD, TAIL_GOOD. -/
structure VerdictMsg where
  die : Nat
  item : Nat
  pkt : Nat
  rec_ : Bytes
  epoch : Nat
  stampAt : Nat
  flow : Nat
  part : Nat
  cls : Nat
  clsRec : Bytes
  held : Bool
  tailGood : Bool
  deriving DecidableEq, Repr

/-- A threshold tracker (13). -/
structure Tracker where
  enable : Bool
  freeze : Bool
  target : Nat
  gain : Nat
  slew : Nat
  lo : Int
  hi : Int
  theta : Int
  anchor : Int
  above : Nat
  below : Nat
  clamped : Nat
  deriving DecidableEq, Repr

/-- A rate bucket (13). -/
structure Bucket where
  rate : Nat
  burst : Nat
  tokens : Nat
  last : Nat
  exceed : Nat
  dscp : Nat
  count : Nat
  deriving DecidableEq, Repr

/-- The packet path (10 to 13). -/
structure PathSt where
  pkts : List (Nat × Pkt)
  nextPkt : Nat
  ports : List EPort
  ptp : PtpSt
  slow : List (Nat × SlowEnt)
  nextSlow : Nat
  /-- bytes of free die buffer used, by die; rings: device ns of the last interrupt, and one due, by partition -/
  spIrqAt : List (Nat × Nat)
  spIrqDue : List Nat
  /-- pass of each slow-path ring: PHASE -/
  spPhase : List (Nat × Nat)
  verdicts : List VerdictMsg
  trk : List (Nat × Tracker)
  /-- final scores: die, class, score code -/
  scores : List (Nat × Nat × Nat)
  /-- scores that wait for their packet's tail: packet, die, class, score -/
  scoreWait : List (Nat × Nat × Nat × Nat)
  anchorAt : Nat
  buckets : List (Nat × Bucket)
  deriving DecidableEq, Repr

/-! ## Search (15) -/

/-- A held shard (15 R716): bank-pool range, vectors, whether it awaits its check after a warm reset. -/
structure Shard where
  channel : Nat
  shard : Nat
  base : Nat
  size : Nat
  vectors : Nat
  check : Bool
  /-- queue 0 index of an UNLOAD that waits for its parts (15 R720) -/
  leaving : Option Nat
  deriving DecidableEq, Repr

/-- A shard map (16, MAP PUBLISH): its generation and entries, shards rising. -/
structure ShardMap where
  gen : Nat
  ents : List MapEnt
  deriving DecidableEq, Repr

/-- Fragments received of a generation that is not whole yet. -/
structure MapRx where
  gen : Nat
  frags : Nat
  got : List Nat
  ents : List MapEnt
  deriving DecidableEq, Repr

/-- A shard part as its requester sees it: status 0 outstanding, 1 done, 2 stale, 3 lost. -/
structure Dispatch where
  shard : Nat
  holder : Nat
  vectors : Nat
  status : Nat
  deriving DecidableEq, Repr

/-- A search: one row of a VSEARCH. -/
structure Search where
  ref : WRef
  row : Nat
  channel : Nat
  /-- the map generation it started under; none: no map held (15 R737) -/
  gen : Option Nat
  total : Nat
  totalVec : Nat
  parts : List Dispatch
  /-- holder and entry of everything returned -/
  hits : List (Nat × Hit)
  exp : Nat
  vals : Nat
  truncated : Bool
  degraded : Bool
  localOnly : Bool
  staleFail : Bool
  k : Nat
  deriving DecidableEq, Repr

/-- A shard part on this device: origin is the requesting device and request ID, none for a local search. nse is the
engine and mode it has a context of; none: it waits for one (15 R710). -/
structure ShardPart where
  origin : Option (Nat × Nat)
  search : Nat
  channel : Nat
  shard : Nat
  gen : Nat
  nse : Option (Nat × Nat)
  row : Bytes
  k : Nat
  list : Nat
  hops : Nat
  deriving DecidableEq, Repr

/-- An announcement a new manager has taken and not published yet (16 R818). -/
structure Announce where
  device : Nat
  channel : Nat
  shard : Nat
  vectors : Nat
  shape : Nat
  deriving DecidableEq, Repr

/-- Search (15): channel descriptors of 64 bytes, held shards, maps, and, on the manager, the shape of each channel's
first announced shard and what has been announced since its CLAIM. -/
structure NseSt where
  channels : List (Nat × Bytes)
  shards : List Shard
  maps : List (Nat × ShardMap)
  rx : List (Nat × MapRx)
  shapes : List (Nat × Nat)
  announced : List Announce
  searches : List (Nat × Search)
  nextSearch : Nat
  parts : List (Nat × ShardPart)
  nextPart : Nat
  deriving DecidableEq, Repr


/-! ## State -/

/-- The machine. -/
structure State where
  /-- commands waiting, front first -/
  pending : List Instr
  regs : RegMap
  part : Part
  time : TimeSt
  pins : PinSt
  mem : MemSt
  host : HostSt
  fe : FeSt
  mods : ModSt
  fab : FabSt
  pwr : PwrSt
  thm : ThmSt
  obs : ObsSt
  flt : FltSt
  out : OutSt
  /-- the model's own: number of free values drawn (Config.free) -/
  free : Nat
  clk : ClkSt
  rst : RstSt
  trust : TrustSt
  rules : RuleSt
  nse : NseSt
  path : PathSt
  tab : TabSt
  deriving DecidableEq, Repr

/-! ## The machine right after reset -/

/-- Generation 0 as a reset leaves it (11 R536). -/
def builtinGen : GenSet := ⟨true, 0, 0, [], [], [], builtinReasons, builtinClasses, 0⟩

/-- A fabric port in state DOWN. -/
def FPort.reset : FPort :=
  { st := 0, since := 0, lastRx := 0, peer := none, peerSerial := none, credits := [0, 0, 0], sent := [0, 0, 0], recvd := [0, 0, 0],
    owed := [0, 0, 0], owedSince := 0, init := [0, 0, 0], markRx := none, rxIdx := 0, markTx := 0, txIdx := 0, queue := [], helloAt := 0,
    sentHello := none }

/-- A network port with nothing queued, on the wire, paused or scheduled. -/
def EPort.reset : EPort :=
  { queues := List.replicate 8 [], cur := none, paused := 0, pfc := List.replicate 8 0, preempt := false, verifyTries := 0, fifo := [],
    admin := [], oper := none, pendingList := none, extend := none }

/-- A PCIe function after its reset: no bus mastering, every vector masked, none pending (log entries 10 and 19). -/
def Func.reset (present : Bool) : Func := ⟨present, false, true, false, [], [], []⟩

/-- The front end with no queue, task or item; every slot FREE (02, Queues across resets). -/
def FeSt.reset : FeSt :=
  { queues := [], cache := [], slots := List.replicate 32 ⟨none, none, false, 0, none, 0⟩, tasks := [], iqs := [], invs := [],
    nextInv := 0, asyncs := [], nextItem := 0 }

/-- A device in no fabric. -/
def FabSt.reset : FabSt :=
  { ports := List.replicate 8 FPort.reset, hasId := false, best := none, latest := 0, bestSince := 0, mgr := none, ids := [], given := [],
    links := [], linksDirty := false, routes := [], lastBeacon := 0, beaconSent := 0, mgrLostSince := none, aloneSince := none,
    quarantined := [], acc := 0, lastO := [], badRun := 0, goodRun := 0, lastExch := 0, reqSent := 0, electDue := false, quad := none,
    claimAt := none, published := false }

/-- Power loops at rest. -/
def PwrSt.reset : PwrSt :=
  { railFail := List.replicate 8 0, cpmLow := [], cpmDroop := List.replicate 32 false, cpmRead := [], goodRun := List.replicate 3 0,
    droopActive := false, lastDroop := 0, lastStep := 0, hist := [], eq := [], eqHeld := [], reelMoves := [], streaks := [] }

/-- Thermal and plant loops at rest. -/
def ThmSt.reset : ThmSt :=
  { tripRun := [], integ := 0, releasing := false, tach := List.replicate 6 [], lowSince := List.replicate 6 none,
    i3cFail := List.replicate 8 0 }

/-- Nothing counted, latched, buffered or frozen (08 R368). -/
def ObsSt.reset : ObsSt :=
  { freezeId := none, freezeWait := [], nextFreezeId := 0, latches := [], ftPrev := 0, skipped := 0, nextTally := 1000000000, ops := [],
    bins := [], open_ := [], acc := [], shares := [], bufs := List.replicate 6 ⟨[], 0, 0, 0⟩, traceTokens := 0, tapTokens := 0,
    tokensAt := 0, taps := [], tapCnt := [], syncAt := 0, tapDue := [] }

/-- An empty log, nothing in progress. -/
def FltSt.reset : FltSt :=
  { seq := 0, log := [], fatal := none, wfg := [], fatalSnap := [], coreSync := [], wdtServiced := 0, hkStopped := false, cruise := none }

/-- Nothing measured or booted, partition 0's record as R418 states it; the flash as manufacture left it (log entry 3). -/
def TrustSt.reset (c : Code) : TrustSt :=
  { records := [(0, recordZero c)], meas := List.replicate 8 (zeros 48), descs := [⟨1, 0, 0, true⟩, ⟨0, 0, 0, true⟩], banks := [.factory, .factory],
    stage1 := none, booted := none, spiOff := false }

/-- Rulesets: the built-in generation 0 alone (11 R536). -/
def RuleSt.reset : RuleSt :=
  { cur := 0, live := [0], building := none, sweep := [], gens := [(0, builtinGen)], states := [], badStates := [], badRules := [], profiles := [],
    exact := [], ternary := [], ranges := [] }

/-- No channel, shard or search. -/
def NseSt.reset : NseSt :=
  { channels := [], shards := [], maps := [], rx := [], shapes := [], announced := [], searches := [], nextSearch := 0, parts := [],
    nextPart := 0 }

/-- No packet, tracker or bucket in use. -/
def PathSt.reset : PathSt :=
  { pkts := [], nextPkt := 0, ports := List.replicate 16 EPort.reset, ptp := ⟨0, 0, [], 0, 0⟩, slow := [], nextSlow := 0, spIrqAt := [],
    spIrqDue := [], spPhase := [], verdicts := [], trk := [], scores := [], scoreWait := [], anchorAt := 0, buckets := [] }

/-- Empty tables. -/
def TabSt.reset : TabSt :=
  { caches := List.replicate 4 [], resv := [], clock := 0, moves := [], agePos := 0, ageAt := 0, station := List.replicate 4 [], parityMiss := [],
    learns := [], skidAt := 0, flush := [] }

/-- A part after a cold reset, its pins at rest, nothing booted, every register at its reset value (08 R368). Two registers take
straps: RST_ORDER (R384) and PLANT_CTRL.MODE (17 R864). -/
def State.init (c : Part) : State :=
  { pending := []
    regs := (if c.straps.portsFirst then [(8 * 0x2000 + R.rstOrder.pos, 1)] else []) ++
      (if c.straps.plantDrive then [(8 * 0x5000 + R.plantCtrl.pos, 1)] else [])
    part := c
    time := ⟨0, 0, 0, 0, 0⟩
    pins := { pwrGood := true, perst := false, refclk := false, freezeIn := false, ppsIn := false, ppsOut := false, thermtrip := false,
              faultN := false, jtag := 1, lowState := false }
    mem := ⟨[], [], [], [], [], []⟩
    host := ⟨Func.reset true :: List.replicate 16 (Func.reset false), 0, false, [], []⟩
    fe := FeSt.reset
    mods := ⟨[], [⟨0, 0⟩], 0, none, []⟩
    fab := FabSt.reset
    pwr := PwrSt.reset
    thm := ThmSt.reset
    obs := ObsSt.reset
    flt := FltSt.reset
    out := ⟨[], [], [], [], [], []⟩
    free := 0
    clk := ⟨0, 0, 0, 0, 0, 0⟩
    rst := ⟨[], none, 0, false, false, false⟩
    trust := TrustSt.reset c.code
    rules := RuleSt.reset
    nse := NseSt.reset
    path := PathSt.reset
    tab := TabSt.reset }

/-- The part of the model: a DX2-82 with its straps low, its fuses as manufacture left them (log entries 2 and 3). -/
def Part.shipped : Part := ⟨.dx82, ⟨false, false, false, false, 0, false⟩, (List.range 4).map Config.rootHash, 0, 0⟩

/-- The machine right after a cold reset (08 R351), its root still OFF. -/
def State.reset : State := State.init Part.shipped

/-- Why the machine stops: nothing of this block does. -/
inductive Fault where
  /-- never raised: no rule of the spec stops the block itself (safe) -/
  | none
  deriving DecidableEq, Repr

/-- Why a command has no meaning. -/
inductive Refusal where
  /-- a command not modelled yet, by its mnemonic (safe) -/
  | notModelled (mnemonic : String)
  deriving DecidableEq, Repr

end Sys2Proof.Machine
end

