-- ==== Sys2Proof/Machine/Ops.lean ====
section
/-! DEFINITION. Machine/Ops.lean: the named operations over memory and registers that every meaning uses:
bytes of a memory, register fields and their counters, page status, interrupts, time, free values. -/

namespace Sys2Proof.Machine

/-! ## Memory: bytes by address in canonical form -/

/-- The byte at a; an unlisted address reads 0. -/
def Memory.get : Memory → Nat → Byte
  | [], _ => 0
  | (c, d) :: m, a => if c = a then d else Memory.get m a

/-- The memory with byte b at a; a zero is not listed. -/
def Memory.put : Memory → Nat → Byte → Memory
  | [], a, b => if b = 0 then [] else [(a, b)]
  | (c, d) :: m, a, b =>
    if a < c then (if b = 0 then (c, d) :: m else (a, b) :: (c, d) :: m)
    else if a = c then (if b = 0 then m else (a, b) :: m)
    else (c, d) :: Memory.put m a b

/-- n bytes from a upward. -/
def Memory.read (m : Memory) (a n : Nat) : Bytes := (List.range n).map (fun i => Memory.get m (a + i))

/-- The memory with a byte string written from a upward. -/
def Memory.write : Memory → Nat → Bytes → Memory
  | m, _, [] => m
  | m, a, b :: bs => Memory.write (Memory.put m a b) (a + 1) bs

/-- The memory with every byte of [lo, hi) zero. -/
def Memory.clear (m : Memory) (lo hi : Nat) : Memory := m.filter (fun c => c.1 < lo || hi ≤ c.1)

/-- The canonical form above a bound: addresses rising, none zero. -/
def Memory.wfFrom : Nat → Memory → Bool
  | _, [] => true
  | lo, (a, b) :: m => decide (lo ≤ a) && decide (b ≠ 0) && Memory.wfFrom (a + 1) m

/-- The canonical form. -/
def Memory.wf (m : Memory) : Bool := Memory.wfFrom 0 m

/-! ## Register cells -/

/-- The value of a cell, its reset value where it is not listed. -/
def RegMap.get : RegMap → Nat → Nat → Nat
  | [], _, d => d
  | (j, v) :: m, k, d => if j = k then v else RegMap.get m k d

/-- The cells with value v at k; the reset value d is not listed. -/
def RegMap.put : RegMap → Nat → Nat → Nat → RegMap
  | [], k, d, v => if v = d then [] else [(k, v)]
  | (j, x) :: m, k, d, v =>
    if k < j then (if v = d then (j, x) :: m else (k, v) :: (j, x) :: m)
    else if k = j then (if v = d then m else (k, v) :: m)
    else (j, x) :: RegMap.put m k d v

/-- Cells in rising order of their positions, from a bound. -/
def RegMap.wfFrom : Nat → RegMap → Bool
  | _, [] => true
  | lo, (k, _) :: m => decide (lo ≤ k) && RegMap.wfFrom (k + 1) m

/-- The value of field f of the page at BAR0 offset p. -/
def State.rd (s : State) (p : Nat) (f : Fld) : Nat := RegMap.get s.regs (8 * p + f.pos) f.rst

/-- s with field f of page p set, cut to the field's width. -/
def State.wr (s : State) (p : Nat) (f : Fld) (v : Nat) : State :=
  { s with regs := RegMap.put s.regs (8 * p + f.pos) f.rst (v % 2 ^ f.w) }

/-- Bit test of a field. -/
def State.on (s : State) (p : Nat) (f : Fld) : Bool := s.rd p f ≠ 0

/-! ## Pages (06, The address map) -/

namespace P

def dev : Nat := 0x0000000
def clk : Nat := 0x0001000
def rst : Nat := 0x0002000
def pwr : Nat := 0x0003000
def thm : Nat := 0x0004000
def plant : Nat := 0x0005000
def fe : Nat := 0x0008000
def feSlot : Nat := 0x0009000
/-- cluster n's CL page -/
def cl (n : Nat) : Nat := 0x0100000 + n * 0x10000
def seq (n : Nat) : Nat := cl n + 0x1000
/-- core c of cluster n -/
def core (n c : Nat) : Nat := cl n + 0x2000 + c * 0x1000
def qsu (n : Nat) : Nat := cl n + 0xA000
def forest (n : Nat) : Nat := cl n + 0xB000
def nse (k : Nat) : Nat := 0x0200000 + k * 0x1000
/-- I/O die d's IOD page -/
def iod (d : Nat) : Nat := 0x0300000 + d * 0x40000
/-- network port 4d + j -/
def port (p : Nat) : Nat := iod (p / 4) + 0x01000 + p % 4 * 0x1000
def gate (p : Nat) : Nat := iod (p / 4) + 0x05000 + p % 4 * 0x1000
/-- fabric port F(2d + i) -/
def fport (f : Nat) : Nat := iod (f / 2) + 0x09000 + f % 2 * 0x1000
def serdes (d : Nat) : Nat := iod d + 0x0B000
def ptp (d : Nat) : Nat := iod d + 0x0C000
/-- pipe 2d + p -/
def parse (x : Nat) : Nat := iod (x / 2) + 0x0D000 + x % 2 * 0x1000
def classp (x : Nat) : Nat := iod (x / 2) + 0x0F000 + x % 2 * 0x1000
def flow (d : Nat) : Nat := iod d + 0x11000
def station (d : Nat) : Nat := iod d + 0x12000
def trig (d : Nat) : Nat := iod d + 0x13000
def hold (d : Nat) : Nat := iod d + 0x14000
def verdict (d : Nat) : Nat := iod d + 0x15000
def rate (d : Nat) : Nat := iod d + 0x16000
def slowpath (d : Nat) : Nat := iod d + 0x17000
def pcie : Nat := 0x0320000
def dma : Nat := 0x0321000
def part : Nat := 0x0322000
def trust : Nat := 0x0323000
def hk : Nat := 0x0324000
def fab : Nat := 0x0400000
def fabRoute : Nat := 0x0401000
def fabTime : Nat := 0x0402000
def fabEpoch : Nat := 0x0403000
def hbm (s : Nat) : Nat := 0x0500000 + s * 0x1000
def obs : Nat := 0x0600000
def obsTrace : Nat := 0x0601000
def obsTap : Nat := 0x0602000
def flt : Nat := 0x0700000
def cruise : Nat := 0x0701000
def fltAon : Nat := 0x0702000
def wfg : Nat := 0x0703000

end P

/-- A page: kind, instance, gate ID, mirror class (0 P, 1 A, 2 G). -/
structure PageInfo where
  kind : PT
  inst : Nat
  gate : Option Nat
  mirror : Nat
  deriving DecidableEq, Repr

/-- A page of cluster group n, by its index in the group. -/
def clusterPage (n x : Nat) : Option PageInfo :=
  if x = 0 then some ⟨.cl, n, some n, 2⟩
  else if x = 1 then some ⟨.seq, n, some n, 2⟩
  else if 2 ≤ x ∧ x < 10 then some ⟨.core, 8 * n + (x - 2), some (16 + 8 * n + (x - 2)), 2⟩
  else if x = 10 then some ⟨.qsu, n, some n, 2⟩
  else if x = 11 then some ⟨.forest, n, some (144 + n), 2⟩
  else none

/-- A page of I/O die group d, by its index in the group. -/
def iodPage (d x : Nat) : Option PageInfo :=
  let g := 168 + 16 * d
  if x = 0 then some ⟨.iod, d, none, 1⟩
  else if x < 5 then some ⟨.port, 4 * d + (x - 1), some (g + (x - 1)), 2⟩
  else if x < 9 then some ⟨.gate, 4 * d + (x - 5), some (g + (x - 5)), 0⟩
  else if x < 11 then some ⟨.fport, 2 * d + (x - 9), some (g + 4 + (x - 9)), 0⟩
  else if x = 11 then some ⟨.serdes, d, none, 0⟩
  else if x = 12 then some ⟨.ptp, d, some (g + 6), 1⟩
  else if x < 15 then some ⟨.parse, 2 * d + (x - 13), some (g + 7 + (x - 13)), 0⟩
  else if x < 17 then some ⟨.classp, 2 * d + (x - 15), some (g + 7 + (x - 15)), 0⟩
  else if x = 17 then some ⟨.flow, d, some (g + 9), 0⟩
  else if x = 18 then some ⟨.station, d, some (g + 10), 0⟩
  else if x = 19 then some ⟨.trig, d, some (g + 11), 0⟩
  else if x = 20 then some ⟨.hold, d, some (g + 12), 0⟩
  else if x = 21 then some ⟨.verdict, d, some (g + 13), 2⟩
  else if x = 22 then some ⟨.rate, d, some (g + 13), 0⟩
  else if x = 23 then some ⟨.slowpath, d, some (g + 14), 0⟩
  else if d ≠ 0 then none
  else if x = 32 then some ⟨.pcie, 0, none, 0⟩
  else if x = 33 then some ⟨.dma, 0, none, 0⟩
  else if x = 34 then some ⟨.part, 0, none, 0⟩
  else if x = 35 then some ⟨.trust, 0, none, 0⟩
  else if x = 36 then some ⟨.hk, 0, none, 0⟩
  else none

/-- The page at page number n = BAR0 offset / 0x1000; none where R279 lists nothing. -/
def pageAt (n : Nat) : Option PageInfo :=
  if n = 0 then some ⟨.dev, 0, none, 1⟩
  else if n = 1 then some ⟨.clk, 0, none, 0⟩
  else if n = 2 then some ⟨.rst, 0, none, 0⟩
  else if n = 3 then some ⟨.pwr, 0, none, 0⟩
  else if n = 4 then some ⟨.thm, 0, none, 1⟩
  else if n = 5 then some ⟨.plant, 0, none, 0⟩
  else if n = 8 then some ⟨.feGlobal, 0, none, 0⟩
  else if n = 9 then some ⟨.feSlot, 0, none, 0⟩
  else if 0x100 ≤ n ∧ n < 0x200 then clusterPage ((n - 0x100) / 16) ((n - 0x100) % 16)
  else if 0x200 ≤ n ∧ n < 0x208 then some ⟨.nse, n - 0x200, some (160 + (n - 0x200)), 2⟩
  else if 0x300 ≤ n ∧ n < 0x400 then iodPage ((n - 0x300) / 64) ((n - 0x300) % 64)
  else if n = 0x400 then some ⟨.fab, 0, some 232, 1⟩
  else if n = 0x401 then some ⟨.fabRoute, 0, some 232, 0⟩
  else if n = 0x402 then some ⟨.fabTime, 0, some 232, 1⟩
  else if n = 0x403 then some ⟨.fabEpoch, 0, some 232, 0⟩
  else if 0x500 ≤ n ∧ n < 0x508 then some ⟨.hbm, n - 0x500, some (233 + (n - 0x500)), 0⟩
  else if n = 0x600 then some ⟨.obs, 0, none, 1⟩
  else if n = 0x601 then some ⟨.obsTrace, 0, some 241, 0⟩
  else if n = 0x602 then some ⟨.obsTap, 0, some 242, 0⟩
  else if n = 0x700 then some ⟨.flt, 0, none, 0⟩
  else if n = 0x701 then some ⟨.cruise, 0, none, 0⟩
  else if n = 0x702 then some ⟨.fltAon, 0, none, 0⟩
  else if n = 0x703 then some ⟨.wfg, 0, none, 0⟩
  else none

/-- Every page number that R279 does not exclude, ascending. -/
def pageNumbers : List Nat := (List.range 0x704).filter (fun n => (pageAt n).isSome)

/-- PG_ID.TYPE (06, Block types and instances). -/
def PT.code : PT → Nat
  | .dev => 0x01 | .clk => 0x02 | .rst => 0x03 | .pwr => 0x04 | .thm => 0x05 | .plant => 0x06
  | .feGlobal => 0x10 | .feSlot => 0x11 | .cl => 0x20 | .seq => 0x21 | .core => 0x22 | .qsu => 0x23
  | .forest => 0x24 | .nse => 0x30 | .iod => 0x40 | .port => 0x41 | .gate => 0x42 | .fport => 0x43
  | .serdes => 0x44 | .ptp => 0x45 | .parse => 0x46 | .classp => 0x47 | .flow => 0x48 | .station => 0x49
  | .trig => 0x4A | .hold => 0x4B | .verdict => 0x4C | .rate => 0x4D | .slowpath => 0x4E | .pcie => 0x50
  | .dma => 0x51 | .part => 0x52 | .trust => 0x53 | .hk => 0x54 | .fab => 0x60 | .fabRoute => 0x61
  | .fabTime => 0x62 | .fabEpoch => 0x63 | .hbm => 0x70 | .obs => 0x80 | .obsTrace => 0x81 | .obsTap => 0x82
  | .flt => 0x90 | .cruise => 0x91 | .fltAon => 0x92 | .wfg => 0x93

/-- The ordering code has the block of this page (R280). -/
def PageInfo.present (i : PageInfo) (c : Code) : Bool :=
  match i.kind with
  | .iod | .serdes | .ptp | .flow | .station | .trig | .hold | .verdict | .rate | .slowpath => i.inst < c.ioDies
  | .port | .gate => i.inst / 4 < c.ioDies
  | .fport | .parse | .classp => i.inst / 2 < c.ioDies
  | .hbm => i.inst < c.stacks
  | _ => true

/-- The enable bit of gate ID g (R324). -/
def State.gateOpenBit (s : State) (g : Nat) : Bool := (s.rd P.clk (R.clkEn (g / 32))).testBit (g % 32)

/-- The page reads as gated: absent, gated under R281, or powered off (R829). -/
def State.gated (s : State) (p : Nat) : Bool :=
  match pageAt (p / 0x1000) with
  | none => true
  | some i =>
    !i.present s.part.code ||
    (match i.gate with
      | none => false
      | some g => !s.gateOpenBit g) ||
    (match i.kind with
      | .core => !s.gateOpenBit (i.inst / 8) || (s.rd P.pwr R.pwrOff).testBit (i.inst / 8)
      | .forest => !s.gateOpenBit i.inst || (s.rd P.pwr R.pwrOff).testBit i.inst
      | .cl | .seq | .qsu => (s.rd P.pwr R.pwrOff).testBit i.inst
      | .nse => (s.rd P.pwr R.pwrOff).testBit (16 + i.inst)
      | _ => false)

/-- READY of a page. -/
def State.ready (s : State) (p : Nat) : Bool := s.rd p R.pgStatusReady = 1

/-! ## Time -/

/-- Device time base in ns (07). -/
def State.ns (s : State) : Nat := s.time.base / 65536

/-- Device time base in µs. -/
def State.us (s : State) : Nat := s.ns / 1000

/-- Fabric time in 2^-16 ns (16, Fabric time). -/
def State.fab16 (s : State) : Int := (s.time.base : Int) + s.time.corr

/-- Fabric time in ns. -/
def State.fns (s : State) : Nat := (s.fab16 / 65536).toNat

/-- TIME_DEGRADED (16 R792). -/
def State.degraded (s : State) : Bool := s.on P.fabTime R.ftStatusTimeDegraded

/-! ## Free values -/

/-- A value nothing constrains, below m. -/
def State.drawn (s : State) (m : Nat) : Nat := Config.free s.free % m

/-- s with one more free value drawn. -/
def State.draw (s : State) : State := { s with free := s.free + 1 }

/-- n free bytes drawn together. -/
def State.drawnBytes (s : State) (n : Nat) : Bytes := (List.range n).map (fun i => BitVec.ofNat 8 (Config.free (s.free + i)))

/-- s with n free values drawn. -/
def State.drawN (s : State) (n : Nat) : State := { s with free := s.free + n }

/-! ## The global freeze (18 R901) -/

/-- At least one freeze source is active. -/
def State.frozen (s : State) : Bool :=
  s.on P.obs R.obsFreezeSw ||
  (s.pins.freezeIn && s.on P.obs R.obsFreezePinEn) ||
  (s.obs.freezeId.isSome && s.on P.obs R.obsFreezeFabricEn) ||
  s.on P.obs R.obsFreezeSrcFault

/-! ## Counters (18 R878 to R880) -/

/-- Add n to a counter register: it obeys the freeze where the page's FREEZE_EN is 1 (R903). -/
def State.countN (s : State) (p : Nat) (f : Fld) (n : Nat) : State :=
  if s.frozen && s.on p R.pgTallyCtrlFreezeEn then s else s.wr p f (s.rd p f + n)

/-- Add 1 to a counter register. -/
def State.count (s : State) (p : Nat) (f : Fld) : State := s.countN p f 1

/-- Add n to a partition-attributed counter: total and the partition's share (R909). -/
def State.countPN (s : State) (p : Nat) (f : Fld) (n part : Nat) : State :=
  if s.frozen && s.on p R.pgTallyCtrlFreezeEn then s
  else
    let k := (8 * p + f.pos) * 16 + part % 16
    let s1 := s.wr p f (s.rd p f + n)
    { s1 with obs := { s1.obs with shares := aput s1.obs.shares k (((aget s1.obs.shares k).getD 0 + n) % 2 ^ f.w) } }

/-- Add 1 to a partition-attributed counter. -/
def State.countP (s : State) (p : Nat) (f : Fld) (part : Nat) : State := s.countPN p f 1 part

/-- Add n to a counter whose event carries a partition where part gives one. -/
def State.countO (s : State) (p : Nat) (f : Fld) (n : Nat) (part : Option Nat) : State :=
  match part with
  | some q => s.countPN p f n q
  | none => s.countN p f n

/-- Partition part's share of an event already counted, which came to carry the partition later (R909). -/
def State.shareN (s : State) (p : Nat) (f : Fld) (n part : Nat) : State :=
  if s.frozen && s.on p R.pgTallyCtrlFreezeEn then s
  else
    let k := (8 * p + f.pos) * 16 + part % 16
    { s with obs := { s.obs with shares := aput s.obs.shares k (((aget s.obs.shares k).getD 0 + n) % 2 ^ f.w) } }

/-- Count a sentinel: in every state but RESET, whatever the freeze (R879). -/
def State.sentinel (s : State) (p i : Nat) : State :=
  if s.rd p R.pgStatusState = 0 then s else s.wr p (R.pgSentinel i) (s.rd p (R.pgSentinel i) + 1)

/-- Advance a progress counter, never frozen (R880). -/
def State.progress (s : State) (p : Nat) : State := s.wr p R.pgProgress (s.rd p R.pgProgress + 1)

/-- Add n to a sentinel. -/
def State.sentinelN (s : State) (p i n : Nat) : State :=
  if s.rd p R.pgStatusState = 0 then s else s.wr p (R.pgSentinel i) (s.rd p (R.pgSentinel i) + n)

/-- Advance a progress counter by n. -/
def State.progressN (s : State) (p n : Nat) : State := s.wr p R.pgProgress (s.rd p R.pgProgress + n)

/-- A count that saturates at the field's width. -/
def State.countSat (s : State) (p : Nat) (f : Fld) : State := s.wr p f (satN f.w (s.rd p f + 1))

/-! ## Interrupts (06, Interrupt aggregation; 09) -/

/-- The interrupt group of page number n. -/
def groupOf (n : Nat) : Option Nat :=
  if n < 6 then some n
  else if n = 8 ∨ n = 9 then some 6
  else if 0x600 ≤ n ∧ n < 0x603 then some 7
  else if 0x700 ≤ n ∧ n < 0x704 then some 8
  else if 0x400 ≤ n ∧ n < 0x404 then some 9
  else if 0x100 ≤ n ∧ n < 0x200 then some (10 + (n - 0x100) / 16)
  else if 0x200 ≤ n ∧ n < 0x208 then some 26
  else if 0x500 ≤ n ∧ n < 0x508 then some 27
  else if 0x300 ≤ n ∧ n < 0x400 then some (28 + (n - 0x300) / 64)
  else none

/-- The index of page number n within its group. -/
def groupIndex (n : Nat) : Nat :=
  if n < 6 then 0
  else if n = 8 ∨ n = 9 then n - 8
  else if 0x100 ≤ n ∧ n < 0x200 then (n - 0x100) % 16
  else if 0x300 ≤ n ∧ n < 0x400 then (n - 0x300) % 64
  else n % 256

/-- Page p asserts its interrupt: an enabled cause is set and the page is not gated (R287). -/
def State.asserts (s : State) (p : Nat) : Bool :=
  ((s.rd p R.pgIrqStatus) &&& (s.rd p R.pgIrqEnable)) ≠ 0 && !s.gated p

/-- Pages, by number, of group g that assert: only a page with a listed cause can. -/
def State.assertingPages (s : State) (g : Nat) : List Nat :=
  ((s.regs.filter (fun kv => kv.1 % 32768 = R.pgIrqStatus.pos && groupOf (kv.1 / 32768) = some g)).map
    (fun kv => kv.1 / 32768)).filter (fun n => s.asserts (n * 0x1000))

/-- Group g is pending. -/
def State.groupPending (s : State) (g : Nat) : Bool := s.assertingPages g ≠ []

/-- Send MSI-X vector v of function fn, or leave it pending while masked or disabled (PCI Express). -/
def State.msix (s : State) (fn v : Nat) : State :=
  match s.host.funcs[fn]? with
  | none => s
  | some f =>
    if !f.present then s
    else if f.msixEn && !f.msixMask && f.vecOpen.contains v && f.bme then
      { s with out := { s.out with msix := s.out.msix ++ [(fn, v)] } }
    else
      let f1 := { f with vecPend := if f.vecPend.contains v then f.vecPend else f.vecPend ++ [v] }
      { s with host := { s.host with funcs := s.host.funcs.set fn f1 } }

/-- The message of group g, sent on the physical function (R298, R301). -/
def State.sendGroup (s : State) (g : Nat) : State := s.msix 0 (s.rd P.dev (R.devIrqRouteVector g))

/-- The message of group g becomes due when the group becomes pending while routed (R298). -/
def State.noteGroup (s : State) (g : Nat) (was : Bool) : State :=
  if !was && s.groupPending g && s.on P.dev (R.devIrqRouteRouteEn g) then
    { s with host := { s.host with dueGroups := if s.host.dueGroups.contains g then s.host.dueGroups else s.host.dueGroups ++ [g] } }
  else s

/-- Run f, then see whether page p's group became pending by it. -/
def State.withGroup (s : State) (p : Nat) (f : State → State) : State :=
  match groupOf (p / 0x1000) with
  | none => f s
  | some g => (f s).noteGroup g (s.groupPending g)

/-- Set interrupt cause b of page p (R276). -/
def State.cause (s : State) (p b : Nat) : State :=
  s.withGroup p (fun t => t.wr p R.pgIrqStatus (t.rd p R.pgIrqStatus ||| 2 ^ b))

/-- Record an error code: last code, saturating count, cause ERR (06, common header). -/
def State.perr (s : State) (p code : Nat) : State :=
  ((s.wr p R.pgErrCodeCode code).wr p R.pgErrCodeCount (satN 16 (s.rd p R.pgErrCodeCount + 1))).cause p 4

/-- ILLEGAL_VALUE (R269). -/
def State.illegal (s : State) (p : Nat) : State := s.perr p 2

/-! ## Page status -/

/-- Set or clear READY with its cause (06). -/
def State.setReady (s : State) (p : Nat) (b : Bool) : State :=
  if s.ready p = b then s else (s.wr p R.pgStatusReady (b2n b)).cause p (if b then 0 else 1)

/-- Set the STATE code. -/
def State.setState (s : State) (p st : Nat) : State := s.wr p R.pgStatusState st

/-- Set FAULT: sticky, with STATE FAULTED, and READY falls (R270, R275, 19 R941). -/
def State.setFault (s : State) (p : Nat) : State :=
  let s1 := if s.on p R.pgStatusFault then s else (s.wr p R.pgStatusFault 1).cause p 2
  (s1.setState p 6).setReady p false

/-- Set or clear DEGRADED with its cause. -/
def State.setDegraded (s : State) (p : Nat) (b : Bool) : State :=
  if s.on p R.pgStatusDegraded = b then s else (s.wr p R.pgStatusDegraded (b2n b)).cause p 3

/-- Every register of page p at its reset value. -/
def State.resetPage (s : State) (p : Nat) : State :=
  { s with regs := s.regs.filter (fun kv => kv.1 / 32768 ≠ p / 0x1000) }

/-! ## Device memory with poisoned lines (19 R1020) -/

/-- n bytes of device memory at physical address a. -/
def State.devRead (s : State) (a n : Nat) : Bytes := Memory.read s.mem.dev a n

/-- Some byte of [a, a + n) lies in a poisoned line. -/
def State.poisoned (s : State) (a n : Nat) : Bool := s.mem.poison.any (fun l => l < a + n && a < l + 64)

/-- A write of device memory: a line it covers whole loses its poison; a poisoned line it covers in part keeps
it, the other bytes unchanged. -/
def State.devWrite (s : State) (a : Nat) (bs : Bytes) : State :=
  { s with mem := { s.mem with
      dev := Memory.write s.mem.dev a bs
      poison := s.mem.poison.filter (fun l => !(a ≤ l && l + 64 ≤ a + bs.length)) } }

/-- n bytes of host memory. -/
def State.hostRead (s : State) (a n : Nat) : Bytes := Memory.read s.mem.host a n

/-- A write of host memory. -/
def State.hostWrite (s : State) (a : Nat) (bs : Bytes) : State :=
  { s with mem := { s.mem with host := Memory.write s.mem.host a bs } }

/-- Device memory range [a, a + n) lies within the HBM the part has. -/
def State.inHbm (s : State) (a n : Nat) : Bool := a + n ≤ s.part.code.memBytes

/-! ## Folding a list of small updates -/

/-- Apply f for each element in order. -/
def State.each {α : Type} (s : State) (l : List α) (f : State → α → State) : State := l.foldl f s

/-- Apply f when b holds. -/
def State.when (s : State) (b : Bool) (f : State → State) : State := if b then f s else s

end Sys2Proof.Machine
end

