-- ==== Sys2Proof/Machine/Partition.lean ====
section
/-! DEFINITION. Machine/Partition.lean: partition records, the memory firewall, and the memory that rings,
descriptors and work name (09, Partitions; Memory firewall). -/

namespace Sys2Proof.Machine

/-- The record of partition p: nonzero bytes by offset. -/
def State.record (s : State) (p : Nat) : Memory := (aget s.trust.records p).getD []

/-- A little-endian field of partition p's record. -/
def State.recField (s : State) (p off n : Nat) : Nat := leNat (Memory.read (s.record p) off n)

/-- ENABLED. -/
def State.partOn (s : State) (p : Nat) : Bool := (s.recField p 0 1).testBit 0

/-- REQUIRE_SIGNED. -/
def State.requireSigned (s : State) (p : Nat) : Bool := (s.recField p 0 1).testBit 1

/-- A limit or grant, zero while ENABLED is 0 (R414). -/
def State.limit (s : State) (p off n : Nat) : Nat := if s.partOn p then s.recField p off n else 0

def State.maxQueues (s : State) (p : Nat) : Nat := s.limit p 2 2
def State.maxTasks (s : State) (p : Nat) : Nat := s.limit p 4 1
def State.prioMax (s : State) (p : Nat) : Nat := s.limit p 5 1 % 8
def State.maxSlots (s : State) (p : Nat) : Nat := s.limit p 8 2
def State.iqBase (s : State) (p : Nat) : Nat := s.limit p 0xA 1
def State.iqCount (s : State) (p : Nat) : Nat := s.limit p 0xC 2
def State.clusterGrant (s : State) (p : Nat) : Nat := s.limit p 0xE 2
def State.bankQuota (s : State) (p : Nat) : Nat := s.limit p 0x10 8
def State.winBase (s : State) (p : Nat) : Nat := s.limit p 0x18 8
def State.maxFlows (s : State) (p : Nat) : Nat := s.limit p 0x20 4
def State.portGrant (s : State) (p : Nat) : Nat := s.limit p 0x24 2
def State.nseGrant (s : State) (p : Nat) : Nat := s.limit p 0x26 1

/-- A firewall region. -/
structure Region where
  pbase : Nat
  dbase : Nat
  size : Nat
  rd : Bool
  wr : Bool
  deriving DecidableEq, Repr

/-- Region i of a record. -/
def recRegion (r : Memory) (i : Nat) : Region :=
  let o := 0x100 + 32 * i
  let f := (leNat (Memory.read r (o + 20) 1))
  ⟨leNat (Memory.read r o 8), leNat (Memory.read r (o + 8) 8), leNat (Memory.read r (o + 16) 4) * 2 ^ 21, f.testBit 0, f.testBit 1⟩

/-- The regions in use of a record. -/
def recRegions (r : Memory) : List Region := (List.range (leNat (Memory.read r 0x27 1) % 64)).map (recRegion r)

/-- The regions that translate for partition p: none while ENABLED is 0 (R414). -/
def State.regions (s : State) (p : Nat) : List Region := if s.partOn p then recRegions (s.record p) else []

/-- Translate one partition device address (R421). -/
def State.xlate (s : State) (p a : Nat) (write : Bool) : Option Nat :=
  ((s.regions p).find? (fun r => r.pbase ≤ a && a < r.pbase + r.size && (if write then r.wr else r.rd))).map
    (fun r => r.dbase + (a - r.pbase))

/-- The pieces of [a, a + n) between 2 MiB boundaries. -/
def pieces (a n : Nat) : List (Nat × Nat) :=
  if n = 0 then []
  else (List.range ((a + n - 1) / 2 ^ 21 - a / 2 ^ 21 + 1)).map (fun i =>
    let lo := max a ((a / 2 ^ 21 + i) * 2 ^ 21)
    (lo, min (a + n) ((a / 2 ^ 21 + i + 1) * 2 ^ 21) - lo))

/-- Physical pieces of a partition range; none where the firewall refuses any of it. -/
def State.xrange (s : State) (p a n : Nat) (write : Bool) : Option (List (Nat × Nat)) :=
  (pieces a n).mapM (fun x => (s.xlate p x.1 write).map (fun y => (y, x.2)))

/-- The firewall admits the range (R422), its bits [63:40] zero (02 R57). -/
def State.admits (s : State) (p a n : Nat) (write : Bool) : Bool :=
  a + n ≤ 2 ^ 40 && (s.xrange p a n write).isSome

/-- Bytes of a partition range, zeros where it is refused. -/
def State.partRead (s : State) (p a n : Nat) : Bytes :=
  match s.xrange p a n false with
  | none => zeros n
  | some l => (l.map (fun x => s.devRead x.1 x.2)).flatten

/-- Write consecutive physical pieces from one byte string. -/
def State.devWritePieces : State → List (Nat × Nat) → Bytes → State
  | s, [], _ => s
  | s, (a, n) :: l, bs => State.devWritePieces (s.devWrite a (bs.take n)) l (bs.drop n)

/-- Write a partition range; nothing where it is refused. -/
def State.partWrite (s : State) (p a : Nat) (bs : Bytes) : State :=
  match s.xrange p a bs.length true with
  | none => s
  | some l => s.devWritePieces l bs

/-- Some byte of the partition range is uncorrectable (19 R1020). -/
def State.partPoisoned (s : State) (p a n : Nat) : Bool :=
  match s.xrange p a n false with
  | none => false
  | some l => l.any (fun x => s.poisoned x.1 x.2)

/-- The requester of partition p's work: VF p, or the physical function for queue 0 (R404, DMA table). -/
def fnOf (kernel : Bool) (p : Nat) : Nat := if kernel then 0 else p + 1

/-- Function fn exists. -/
def State.fnPresent (s : State) (fn : Nat) : Bool := (s.host.funcs[fn]?.map (·.present)).getD false

/-- DMA for function fn may go (R391, R405, R1022). -/
def State.dmaOk (s : State) (fn : Nat) : Bool :=
  ((s.host.funcs[fn]?.map (fun f => f.present && f.bme)).getD false) && s.ready P.dma

/-- An address with a SPACE bit: bit 0 host, bits [5:1] cleared (02 R58). -/
def spaceHost (a : Nat) : Bool := a % 2 = 1
def spaceAddr (a : Nat) : Nat := a / 64 * 64

/-- Bytes behind an address with a SPACE bit. -/
def State.spRead (s : State) (p a n : Nat) : Bytes :=
  if spaceHost a then s.hostRead (spaceAddr a) n else s.partRead p (spaceAddr a) n

/-- Write behind an address with a SPACE bit, plus an offset. -/
def State.spWrite (s : State) (p a off : Nat) (bs : Bytes) : State :=
  if spaceHost a then s.hostWrite (spaceAddr a + off) bs else s.partWrite p (spaceAddr a + off) bs

/-- The range behind an address with a SPACE bit passes the address check: the firewall in device memory, an
existing function in host memory (R1023). -/
def State.spAdmits (s : State) (kernel : Bool) (p a n : Nat) (write : Bool) : Bool :=
  if spaceHost a then s.fnPresent (fnOf kernel p) else s.admits p (spaceAddr a) n write

/-- An uncorrectable error lies in the range. -/
def State.spPoisoned (s : State) (p a n : Nat) : Bool := !spaceHost a && s.partPoisoned p (spaceAddr a) n

/-- Count a firewall failure of an access (R400). -/
def State.fwViolation (s : State) (p a : Nat) (write : Bool) : State :=
  let s1 := s.countP P.part (R.partFwViol p) p
  let s2 := ((s1.wr P.part R.partFwAddr a).wr P.part
    R.partFwAddrHiPartition p).wr P.part R.partFwAddrHiWrite (b2n write)
  s2.cause P.part 8

/-- An access that the firewall refuses: partition, address, whether a write. -/
abbrev FwHit := Nat × Nat × Bool

/-- Count a firewall failure of a command or a step (R422; PART_FW_VIOL counts the partition's firewall failures). -/
def State.noteHit (s : State) (h : Option FwHit) : State :=
  match h with
  | some (p, a, w) => s.fwViolation p a w
  | none => s

/-- HBM stack and stack-local offset of a physical address (R419). -/
def stackOf (c : Code) (a : Nat) : Nat × Nat :=
  if a < 0x40000000 then (0, a)
  else
    let n := c.stacks
    let u := (a - 0x40000000) / 2 ^ 21
    let lo := a % 2 ^ 21
    if u < n * 17920 then
      let st := u % n
      let row := u / n
      if st = 0 then (0, 0x40000000 + row * 2 ^ 21 + lo) else (st, row * 2 ^ 21 + lo)
    else
      let v := u - n * 17920
      (1 + v % (n - 1), 0x8C0000000 + v / (n - 1) * 2 ^ 21 + lo)

/-- Physical address of a stack-local offset: the inverse of map (R419). -/
def physOf (c : Code) (st off : Nat) : Nat :=
  let n := c.stacks
  if st = 0 then
    if off < 0x40000000 then off
    else 0x40000000 + ((off - 0x40000000) / 2 ^ 21 * n) * 2 ^ 21 + off % 2 ^ 21
  else if off < 0x8C0000000 then 0x40000000 + (off / 2 ^ 21 * n + st) * 2 ^ 21 + off % 2 ^ 21
  else 0x40000000 + (n * 17920 + ((off - 0x8C0000000) / 2 ^ 21 * (n - 1) + (st - 1))) * 2 ^ 21 + off % 2 ^ 21

/-- Every stack that a physical range touches is READY (08 R382). -/
def State.stacksReady (s : State) (a n : Nat) : Bool :=
  (pieces a n).all (fun x => s.ready (P.hbm (stackOf s.part.code x.1).1))

/-- Every stack that a partition range touches is READY. -/
def State.partStacksReady (s : State) (p a n : Nat) (write : Bool) : Bool :=
  match s.xrange p a n write with
  | none => true
  | some l => l.all (fun x => s.stacksReady x.1 x.2)

end Sys2Proof.Machine
end

