-- ==== Sys2Proof/Machine/Trace.lean ====
section
/-! DEFINITION. Machine/Trace.lean: trace records and the die buffers they wait in (18, Trace). -/

namespace Sys2Proof.Machine

/-- The die whose buffer takes a source's records: 0 A0, 1 A1, 2 + d I/O die d. -/
def traceDie (src : Nat) : Nat :=
  if 4 ≤ src ∧ src < 20 then (src - 4) / 8
  else if 48 ≤ src ∧ src < 64 then (src - 48) / 8
  else if 64 ≤ src ∧ src < 72 then 2 + (src - 64) / 2
  else if 96 ≤ src ∧ src < 100 then 2 + (src - 96)
  else 2

/-- Bytes 16 to 31 of a record from its fields (offset in the record, bytes, value). -/
def payload (l : List (Nat × Nat × Nat)) : Bytes :=
  l.foldl (fun bs x => putAt bs (x.1 - 16) (leBytes x.2.1 x.2.2)) (zeros 16)

/-- The TR_EVENT_EN bit of a record type; none for records of source 80 and of the control cores. -/
def eventBit (typ : Nat) : Option Fld :=
  if 0x20 ≤ typ ∧ typ ≤ 0x24 then some R.trEventEnQueue
  else if typ = 0x28 ∨ typ = 0x29 then some R.trEventEnStep
  else if typ = 0x2A then some R.trEventEnItem
  else if typ = 0x2B then some R.trEventEnVerdict
  else if typ = 0x30 then some R.trEventEnMarker
  else if typ = 0x40 ∨ typ = 0x41 then some R.trEventEnFab
  else if typ = 0x50 then some R.trEventEnTap
  else none

/-- The record is wanted: tracing on and its page clocked (R936), its type, partition and core enabled
(R915, R917), and not stopped by a freeze (R906). -/
def State.traceWanted (s : State) (src typ part : Nat) : Bool :=
  s.on P.obsTrace R.trCtrlEnable && !s.gated P.obsTrace &&
  !(s.frozen && s.on P.obs R.obsFreezeStopTrace) &&
  (match eventBit typ with
    | none => true
    | some f => s.on P.obsTrace f) &&
  (if 0x20 ≤ typ ∧ typ ≤ 0x30 then (s.rd P.obsTrace R.trPartEn).testBit part else true) &&
  (if typ = 0x10 ∨ typ = 0x11 ∨ typ = 0x12 then (s.rd P.obsTrace R.trCoreEn).testBit src else true)

/-- The bytes of a record (R913). -/
def State.traceBytes (s : State) (src typ part : Nat) (pl : Bytes) : Bytes :=
  [BitVec.ofNat 8 typ, BitVec.ofNat 8 src, BitVec.ofNat 8 (part % 16 + 16 * b2n s.degraded), 0] ++
    leBytes 4 s.time.ck4 ++ leBytes 8 s.fns ++ pl

/-- Records a die buffers: 256 KiB of 32 bytes (R918). -/
def traceRoom : Nat := 8192

/-- Put a record into its die's buffer, or lose it and count the loss (R918). -/
def State.traceBuf (s : State) (die src : Nat) (rec : Bytes) : State :=
  match s.obs.bufs[die]? with
  | none => s
  | some b =>
    if b.recs.length < traceRoom then
      { s with obs := { s.obs with bufs := s.obs.bufs.set die { b with recs := b.recs ++ [rec] } } }
    else
      let b1 := { b with lost := b.lost + 1, lostSrc := if b.lost = 0 then src else if b.lostSrc = src then src else 0xFF,
                         lostFirst := if b.lost = 0 then s.fns else b.lostFirst }
      let s1 := { s with obs := { s.obs with bufs := s.obs.bufs.set die b1 } }
      ((s1.count P.obsTrace R.trLost).sentinel P.obs 4).cause P.obsTrace 9

/-- Emit a trace record. -/
def State.trace (s : State) (src typ part : Nat) (fields : List (Nat × Nat × Nat)) : State :=
  if s.traceWanted src typ part then s.traceBuf (traceDie src) src (s.traceBytes src typ part (payload fields)) else s

end Sys2Proof.Machine
end

