-- ==== Sys2Proof/Machine/FabBase.lean ====
section
/-! DEFINITION. Machine/FabBase.lean: what every fabric command uses: identity and role, frames, credits, the order in
which a port sends, next hops, floods, reception (16). -/

namespace Sys2Proof.Machine

/-! ## Epochs and generations, as work and frames are stamped -/

/-- The current epoch (05 R234). -/
def State.epoch (s : State) : Nat := (s.mods.epochs.getLast?.map (·.id)).getD 0

/-- The current ruleset generation (11). -/
def State.gen (s : State) : Nat := s.rules.cur

/-- Epoch e is resident. -/
def State.resident (s : State) (e : Nat) : Bool := s.mods.epochs.any (fun x => x.id = e)

/-! ## Identity and role -/

/-- Fabric port f. -/
def State.fport (s : State) (f : Nat) : Option FPort := s.fab.ports[f]?

/-- s with fabric port f changed. -/
def State.modFPort (s : State) (f : Nat) (g : FPort → FPort) : State :=
  { s with fab := { s.fab with ports := s.fab.ports.modify f g } }

/-- s with the fabric's state changed. -/
def State.modFab (s : State) (g : FabSt → FabSt) : State := { s with fab := g s.fab }

/-- FAB_STATUS.ROLE; without a READY FAB the device is alone in its fabric (08 R382). -/
def State.role (s : State) : Nat := if s.ready P.fab then s.rd P.fab R.fabStatusRole else 0

/-- Own device ID; 0xFF before one is held. -/
def State.myId (s : State) : Nat := if s.fab.hasId then s.rd P.fab R.fabStatusDeviceId else 0xFF

/-- The manager's ID; 0xFF where none is known. -/
def State.mgrId (s : State) : Nat := if s.fab.mgr.isSome then s.rd P.fab R.fabStatusManagerId else 0xFF

/-- Port f is UP. -/
def State.fup (s : State) (f : Nat) : Bool := (s.fport f).map (·.st) = some 5

/-- The UP ports. -/
def State.upPorts (s : State) : List Nat := (List.range 8).filter s.fup

/-- A quarantine reason is set (R753). -/
def State.quarantined (s : State) : Bool := s.rd P.fab R.fabStatusQReason ≠ 0

end Sys2Proof.Machine

namespace Sys2Proof

/-- TYPE of a frame's body (16, Frames); a FREEZE is a STATUS frame (18 R907). -/
def MBody.typ : MBody → Nat
  | .data _ => 0
  | .hello _ => 1
  | .elect .. => 2
  | .join .. => 3
  | .idTable _ => 3
  | .route .. => 4
  | .timeReq _ => 5
  | .timeResp .. => 5
  | .propose .. => 6
  | .stage .. => 6
  | .arm .. => 6
  | .armed .. => 6
  | .flip _ => 6
  | .flipNow _ => 6
  | .flipped .. => 6
  | .abort .. => 6
  | .rejoin .. => 6
  | .rejoinReply .. => 6
  | .announce .. => 7
  | .withdraw .. => 7
  | .publish .. => 7
  | .fetch _ => 7
  | .searchReq .. => 8
  | .searchAnswer .. => 8
  | .searchBounce .. => 8
  | .beacon .. => 9
  | .neighbours .. => 9
  | .freeze .. => 9
  | .credit => 10
  | .mark .. => 11

/-- Payload bytes: where 16 or 18 lays them out, those; else open, 16,000 at most. -/
def MBody.len (b : MBody) : Nat :=
  match b with
  | .data p => p.length
  | .hello _ => 64
  | .elect .. => 20
  | .mark .. => 24
  | .freeze .. => 16
  | .credit => 0
  | .idTable t => Config.openLen 0x31 t.length % 16001
  | .route _ t => Config.openLen 0x40 t.length % 16001
  | .publish _ _ _ _ e => Config.openLen 0x72 e.length % 16001
  | .searchReq _ _ _ l _ _ _ r => Config.openLen 0x80 (l.length * 4096 + r.length) % 16001
  | .searchAnswer _ _ _ _ _ _ _ h => Config.openLen 0x81 h.length % 16001
  | .stage _ _ d => Config.openLen 0x61 d.length % 16001
  | .rejoin _ d => Config.openLen 0x68 d.length % 16001
  | .beacon _ _ _ _ _ q => Config.openLen 0x90 q.length % 16001
  | .neighbours _ _ l => Config.openLen 0x91 l.length % 16001
  | b => Config.openLen (16 * b.typ) 0 % 16001

end Sys2Proof

namespace Sys2Proof.Machine

/-- Link frames: DST 0xFF, no credit, never forwarded. -/
def linkTyp (t : Nat) : Bool := t = 1 || t = 5 || t = 10 || t = 11

/-- The VC of a TYPE; link frames carry 0. -/
def typVc (t : Nat) : Nat := if t = 0 then 2 else if t = 8 then 1 else 0

/-- Credits a frame consumes (R765). -/
def frameCredits (len : Nat) : Nat := ceilDiv (32 + len) 64

/-- A frame of this device with its header (R761; fields not used by a TYPE are zero). -/
def State.mkFrame (s : State) (dst : Nat) (body : MBody) : MFrame :=
  { ver := 1, typ := body.typ, src := s.myId, dst := dst, vc := typVc body.typ, ttl := s.rd P.fab R.fabCfg0TtlInit,
    fwClass := s.rd P.dev R.devFwClass, len := body.len, epoch := s.epoch, gen := s.gen % 8, part := 0, flags := 0, cls := 0, egress := 0,
    crVc := 0, crCount := 0, actions := 0, score := 0, flow := 0, body := body, fcsOk := true, lenOk := true, arrival := 0 }

/-! ## Sending (R762, R765, R766, R768, R769; 18 R917, R928) -/

/-- A FAB_TX or FAB_RX record, stamped at fabric time t (18 R929). -/
def State.fabTrace (s : State) (p typ : Nat) (fr : MFrame) (idx : Nat) (us : Nat) (t : Int) : State :=
  let src := 64 + p
  if s.traceWanted src typ 0 && (s.rd P.obsTrace R.trFabTypes).testBit fr.typ && (s.rd P.obsTrace R.trFabPorts).testBit p &&
      (fr.typ ≠ 11 || s.on P.obsTrace R.trEventEnFabMark) then
    let b := s.traceBytes src typ 0 (payload [(16, 1, fr.typ % 16 + fr.vc % 4 * 16 + 64 * b2n (!fr.fcsOk)), (17, 1, fr.src), (18, 1, fr.dst),
      (20, 2, fr.len), (22, 2, idx), (24, 4, us), (28, 2, (t % 65536).toNat), (30, 2, fr.epoch)])
    s.traceBuf (traceDie src) src (putAt b 8 (leBytes 8 (t / 65536).toNat))
  else s

/-- Put a frame on the wire of port p: it takes its credits, and returns owed ones in its CREDIT field. -/
def State.emit (s : State) (p : Nat) (fr : MFrame) : State :=
  match s.fport p with
  | none => s
  | some x =>
    let v := ((List.range 3).find? (fun v => x.owed.getD v 0 ≠ 0)).getD 0
    let own := fr.crCount ≠ 0
    let n := if own then 0 else min 16383 (x.owed.getD v 0)
    let fr1 := if own || n = 0 then fr else { fr with crVc := v, crCount := n }
    let link := linkTyp fr.typ
    let c := if link then 0 else frameCredits fr.len
    let us := match fr.body with | .mark us _ _ => us | _ => x.markTx
    let idx := if fr.typ = 11 then 0 else x.txIdx + 1
    let x1 : FPort := { x with
      owed := x.owed.modify v (· - n)
      credits := x.credits.modify fr.vc (· - c)
      sent := x.sent.modify fr.vc (fun y => (y + c) % 2 ^ 32)
      markTx := us
      txIdx := idx
      sentHello := match fr.body with | .hello h => some h | _ => x.sentHello }
    let s1 := (s.modFPort p (fun _ => x1)).count (P.fport p) R.fpTxFrames
    let t := s1.fab16
    ({ s1 with out := { s1.out with fab := s1.out.fab ++ [(p, t, fr1)] } }).fabTrace p 0x40 fr1 idx us t

/-- Place in the order of R762: MARK, other link frames, CONTROL, SEARCH, DATA. -/
def sendRank (fr : MFrame) : Nat := if fr.typ = 11 then 0 else if linkTyp fr.typ then 1 else 2 + fr.vc

/-- A frame longer than 2048 bytes, its FCS counted, would overlap the next MARK instant (R769): it takes n / 50 ns with
preamble and FCS. -/
def State.overlapsMark (s : State) (fr : MFrame) : Bool :=
  let n := 32 + fr.len + 4
  decide (2048 < n) && decide (s.fab16 / 65536000 ≠ (s.fab16 + (((n + 8) * 65536 / 50 : Nat) : Int)) / 65536000)

/-- Port p may start this frame now. -/
def State.eligibleFrame (s : State) (x : FPort) (fr : MFrame) : Bool :=
  if linkTyp fr.typ then 3 ≤ x.st && x.st ≤ 5
  else x.st = 5 && frameCredits fr.len ≤ x.credits.getD fr.vc 0 && !s.overlapsMark fr

/-- The frame port p sends next: the first of its class in the first class whose first frame is eligible. -/
def State.nextFrame (s : State) (x : FPort) : Option Nat :=
  (List.range 5).findSome? (fun r =>
    match x.queue.findIdx? (fun fr => sendRank fr = r) with
    | none => none
    | some i => if ((x.queue[i]?).map (s.eligibleFrame x)).getD false then some i else none)

/-- Send the frames of port p that may go, in order; at most n. -/
def State.drainFuel : Nat → Nat → State → State
  | 0, _, s => s
  | n + 1, p, s =>
    match s.fport p with
    | none => s
    | some x =>
      match s.nextFrame x with
      | none => s
      | some i =>
        match x.queue[i]? with
        | none => s
        | some fr => State.drainFuel n p ((s.modFPort p (fun y => { y with queue := y.queue.eraseIdx i })).emit p fr)

/-- Send what port p may send. -/
def State.drain (s : State) (p : Nat) : State := State.drainFuel ((s.fport p).map (fun x => x.queue.length)|>.getD 0) p s

/-- Queue a frame on port p. -/
def State.fabQueue (s : State) (p : Nat) (fr : MFrame) : State :=
  (s.modFPort p (fun x => { x with queue := x.queue ++ [fr] })).drain p

/-! ## Next hops (R784 to R786) -/

/-- The next hop of a frame: the one its TYPE selects among the valid ones, or, where that port is not UP, the first
whose port is. -/
def State.hopFor (s : State) (fr : MFrame) : Option Nat :=
  match s.fab.routes[fr.dst]? with
  | none => none
  | some e =>
    let h3 := fun (x : Nat) => crc32c (beBytes 1 fr.src ++ beBytes 1 fr.dst ++ beBytes 4 x) % e.hops.length
    let n := if e.hops = [] then 0
      else match fr.body with
        | .data _ => h3 fr.flow
        | .searchReq i .. => h3 i
        | .searchAnswer i .. => h3 i
        | .searchBounce i .. => h3 i
        | _ => 0
    match e.hops[n]? with
    | some h => if s.fup h then some h else e.hops.find? s.fup
    | none => none

/-- Device d can be reached (R786). -/
def State.reachable (s : State) (d : Nat) : Bool :=
  match s.fab.routes[d]? with
  | none => false
  | some e => e.hops.any s.fup

/-- FAB_REACH: the reachable IDs. -/
def State.reachMask (s : State) : Nat := sumN ((List.range 64).map (fun d => if s.reachable d then 2 ^ d else 0))

/-- Send a frame along its route, or drop it (R786). -/
def State.fabRoute (s : State) (fr : MFrame) : State :=
  match s.hopFor fr with
  | some p => s.fabQueue p fr
  | none => s.count P.fab R.fabNorouteDrop

/-- Send a body to device d. -/
def State.unicast (s : State) (d : Nat) (b : MBody) : State := s.fabRoute (s.mkFrame d b)

/-- Send a frame on every UP port but one. -/
def State.floodFrame (s : State) (except : Option Nat) (fr : MFrame) : State :=
  s.each (s.upPorts.filter (fun p => some p ≠ except)) (fun t p => t.fabQueue p fr)

/-- Flood a body to every device. -/
def State.flood (s : State) (b : MBody) : State := s.floodFrame none (s.mkFrame 0xFE b)

/-- A device that forwards a frame decrements TTL first, and drops it at 0 (R761). -/
def State.hop (s : State) (fr : MFrame) (send : State → MFrame → State) : State :=
  if fr.ttl ≤ 1 then s.count P.fab R.fabTtlDrop else send s { fr with ttl := fr.ttl - 1, crVc := 0, crCount := 0, arrival := 0 }

/-- Pass a flooded frame on, away from the port it came by. -/
def State.passFlood (s : State) (p : Nat) (fr : MFrame) : State :=
  if fr.dst = 0xFE && s.ready P.fab then s.hop fr (fun t g => t.floodFrame (some p) g) else s

/-- Forward a frame for another device; without a READY FAB it is dropped (08 R382). -/
def State.forward (s : State) (fr : MFrame) : State :=
  if !s.ready P.fab then s else s.hop fr (fun t g => t.fabRoute g)

/-! ## Reception (R763, R766, R770; 18 R928) -/

/-- A frame that R763 drops. -/
def badFrame (fr : MFrame) : Bool := fr.ver ≠ 1 || 12 ≤ fr.typ || !fr.lenOk || fr.body.typ ≠ fr.typ

/-- Full counts of the three VCs (R764). -/
def fullCredits : List Nat := [1024, 7168, 24576]

/-- A frame arrives on port p; k runs on one that nothing drops. Its credits are owed back once it is passed on or
dropped; those it returns let the port send. -/
def State.fabRx (s : State) (p : Nat) (fr : MFrame) (k : State → State) : State :=
  match s.fport p with
  | none => s
  | some x =>
    if x.st < 3 || x.st = 6 || s.rst.stopped || s.gated (P.fport p) then s
    else
      let us := match fr.body, fr.fcsOk && fr.typ = 11 with | .mark us _ _, true => some us | _, _ => none
      let idx := if us.isSome then 0 else x.rxIdx + 1
      let now := s.ns
      let s1 := (s.modFPort p (fun y => { y with lastRx := now, rxIdx := idx })).count (P.fport p) R.fpRxFrames
      let s2 := s1.fabTrace p 0x41 fr idx ((us.or x.markRx).getD 0) fr.arrival
      if !fr.fcsOk then s2.count (P.fport p) R.fpFcsErr
      else
        let c := if linkTyp fr.typ || 3 ≤ fr.vc then 0 else frameCredits fr.len
        let s3 := s2.modFPort p (fun y => { y with
          recvd := y.recvd.modify fr.vc (fun z => (z + c) % 2 ^ 32)
          owed := y.owed.modify fr.vc (· + c)
          owedSince := if y.owed.all (· = 0) then now else y.owedSince })
        if badFrame fr then s3.count (P.fport p) R.fpBadFrame
        else
          let s4 := if fr.crCount = 0 || 3 ≤ fr.crVc then s3
            else s3.modFPort p (fun y => { y with
              credits := y.credits.modify fr.crVc (· + fr.crCount)
              init := if y.st = 5 then y.init else y.init.modify fr.crVc (· + fr.crCount) })
          (k s4).drain p

/-- A frame that has arrived is for this device, for every device or for the link peer; k runs then, and a flood is
passed on. Another is forwarded. -/
def State.fabFor (s : State) (p : Nat) (fr : MFrame) (k : State → State) : State :=
  s.fabRx p fr (fun t =>
    if fr.dst = 0xFE then (k t).passFlood p fr
    else if fr.dst = 0xFF || fr.dst = t.myId then k t
    else t.forward fr)

/-! ## Fabric freezes (18 R907) -/

/-- Flood a FREEZE or THAW, and note it for this device too. -/
def State.sendFreeze (s : State) (thaw : Bool) : State :=
  let at_ := ((s.fab16 + 20000 * 65536 + 65535999) / 65536000).toNat * 1000
  let i := s.obs.nextFreezeId % 2 ^ 32
  ({ s with obs := { s.obs with nextFreezeId := s.obs.nextFreezeId + 1, freezeWait := s.obs.freezeWait ++ [(⟨thaw, i, at_⟩ : FreezeMsg)] } }).flood
    (.freeze thaw i at_)

end Sys2Proof.Machine
end

