-- ==== Sys2Proof/Machine/FaultRec.lean ====
section
/-! DEFINITION. Machine/FaultRec.lean: fault classes, fault records, the log, FAULT_N and the start of the fatal
path, as every block raises them (19). -/

namespace Sys2Proof.Machine

/-- The class of a fault code (R938): 0 CORRECTED, 1 DEFERRED, 2 CONTAINED, 3 BLOCK, 4 FATAL. -/
def faultClass (code : Nat) : Nat :=
  if code = 0x0001 then 1
  else if code = 0x0002 ∨ code = 0x0003 ∨ code = 0x0004 ∨ code = 0x0005 then 2
  else if 0x0010 ≤ code ∧ code ≤ 0x0013 then 3
  else if 0x0020 ≤ code ∧ code ≤ 0x0027 then 4
  else 0

/-- FAULT_N follows the causes of AON_FAULT_N (R954, R955). -/
def State.faultN (s : State) : State :=
  let c := s.rd P.fltAon R.aonFaultNCause
  let lf := s.on P.fltAon R.logfailStatusLogUe || s.on P.fltAon R.logfailStatusWriteStuck || s.on P.fltAon R.logfailStatusCtrlFail
  let c1 := putBits (putBits c 1 1 (b2n lf)) 2 1 (b2n s.pins.thermtrip)
  let s1 := (s.wr P.fltAon R.aonFaultNCause c1).wr P.fltAon R.aonFaultNAsserted (b2n (c1 ≠ 0))
  { s1 with pins := { s1.pins with faultN := c1 ≠ 0 } }

/-- Set one cause of FAULT_N. -/
def State.faultCause (s : State) (b : Nat) : State :=
  (s.wr P.fltAon R.aonFaultNCause (s.rd P.fltAon R.aonFaultNCause ||| 2 ^ b)).faultN

/-- The log has failed (R949, R951). -/
def State.logFailed (s : State) : Bool :=
  s.on P.fltAon R.logfailStatusLogUe || s.on P.fltAon R.logfailStatusWriteStuck || s.on P.fltAon R.logfailStatusCtrlFail

/-- The 64 bytes of a fault record (19, Fault records). -/
def State.faultBytes (s : State) (e : ErrEvent) (seq count flags : Nat) : Bytes :=
  leBytes 4 seq ++ leBytes 1 (faultClass e.code) ++ leBytes 1 (flags + 2 * b2n s.degraded) ++ leBytes 2 e.code ++
  leBytes 4 e.page ++ leBytes 4 count ++ leBytes 8 s.fns ++ leBytes 8 s.time.ck4 ++ leBytes 8 e.addr ++
  leBytes 2 e.step ++ leBytes 1 e.opcode ++
  leBytes 1 (match e.slot with | some x => x % 32 + 128 | none => 0) ++
  leBytes 2 e.queue ++ leBytes 2 e.epoch ++
  leBytes 1 (match e.part with | some x => x % 16 + 128 | none => 0) ++
  leBytes 1 e.die ++ leBytes 2 e.unit ++ leBytes 8 e.detail ++ zeros 4

/-- The newest record of the log. -/
def State.newest (s : State) : Option Bytes := if s.flt.seq = 0 then none else aget s.flt.log (s.flt.seq % 128)

/-- A record equals the newest in CLASS, CODE, PAGE and ADDR and comes within 1 ms of it (R945). -/
def State.coalesces (s : State) (e : ErrEvent) : Bool :=
  match s.newest with
  | none => false
  | some r => faultClass e.code ≠ 4 && fieldLE r 4 1 = faultClass e.code && fieldLE r 6 2 = e.code &&
      fieldLE r 8 4 = e.page && fieldLE r 32 8 = e.addr && s.fns ≤ fieldLE r 16 8 + 1000000

/-- Setting FAULT among the freeze sources; with FAULT_TO_FABRIC it also sends a FREEZE (18 R902, R907). -/
def State.freezeFault (s : State) : State :=
  let s0 := if s.frozen then s else
    (((s.wr P.obs R.obsFrozenAt s.fns).count P.obs R.obsFreezes).sentinel P.obs 1).cause P.obs 8
  let s1 := s0.wr P.obs R.obsFreezeSrcFault 1
  if s.on P.obs R.obsFreezeFaultToFabric && !s.on P.obs R.obsFreezeSrcFault then s1.sendFreeze false else s1

/-- Write a fault record, coalescing repeats (R940 to R948), or count it once the log has failed (R951). -/
def State.writeRecord (s : State) (e : ErrEvent) (flags : Nat) : State :=
  if s.logFailed then s.countSat P.fltAon R.logfailCount
  else if s.coalesces e then
    let k := s.flt.seq % 128
    let r := (s.newest).getD []
    let r1 := putAt r 12 (leBytes 4 (satN 32 (fieldLE r 12 4 + 1)))
    ({ s with flt := { s.flt with log := aput s.flt.log k r1 } }).sentinel P.flt 1
  else
    let q := s.flt.seq + 1
    let s1 := if 128 < q && s.rd P.flt R.fltLogRd < q - 128 then s.count P.flt R.fltLogOverwritten else s
    let s2 := { s1 with flt := { s1.flt with seq := q, log := aput s1.flt.log (q % 128) (s.faultBytes e q 1 flags) } }
    let s3 := (s2.sentinel P.flt 0).cause P.flt 8
    let c := faultClass e.code
    let s4 := s3.sentinel P.flt (if c = 4 then 2 else if c = 3 then 3 else if c = 2 then 4 else 5)
    if s4.on P.obs R.obsFreezeOnRecord then s4.freezeFault else s4

/-- Stop accepting frames and issuing work: step 1 of the fatal path and R856. -/
def State.stopWork (s : State) : State := { s with rst := { s.rst with stopped := true } }

/-- Step 1 of the fatal path: FAULT_N, ports and work stopped, freeze under ON_FATAL (19, The fatal path). A second
fatal error while the path runs starts no second path and is counted (R960). -/
def State.fatalStart (s : State) (e : ErrEvent) : State :=
  match s.flt.fatal with
  | some f =>
    { s with flt := { s.flt with fatal := some { f with seconds := f.seconds + 1 } } }
  | none =>
    let hw := e.code = 0x23 || s.flt.hkStopped
    let trg := s.faultBytes e (s.flt.seq + 1) 1 (1 + 4 * b2n hw)
    let s0 := ((s.faultCause 0).stopWork.countSat P.fltAon R.aonFatals).wr P.fltAon R.aonLastFatal e.code
    let s1 := if s0.on P.obs R.obsFreezeOnFatal then s0.freezeFault else s0
    { s1 with flt := { s1.flt with fatal := some ⟨e.code, s.ns, s.fns, s.time.ck4, hw, if hw then 4 else 3, 0, false, trg,
        (s.mods.epochs.getLast?.map (·.id)).getD 0, s.rules.cur⟩ } }

/-- Report a detected error by its class (R938 to R942). A BLOCK error faults its page and, with BLOCK_EN,
asserts FAULT_N; a FATAL error starts the fatal path. -/
def State.raise (s : State) (e : ErrEvent) : State :=
  let c := faultClass e.code
  if c = 0 then s
  else if c = 4 then
    let s1 := s.fatalStart e
    s1.writeRecord e (1 + 4 * b2n (e.code = 0x23 || s.flt.hkStopped))
  else
    let s1 := s.writeRecord e 0
    if c = 3 then
      let s2 := s1.setFault e.page
      if s2.on P.fltAon R.aonFaultNBlockEn then s2.faultCause 3 else s2
    else s1

/-- An error with no work named. -/
def plainErr (code page addr die unit detail : Nat) : ErrEvent :=
  ⟨code, page, addr, 0xFFFF, 0, none, 0xFFFF, 0, none, die, unit, detail⟩

end Sys2Proof.Machine
end

