-- ==== Sys2Proof/Machine/QueueOps.lean ====
section
/-! DEFINITION. Machine/QueueOps.lean: queues, entries, slots and completion entries, as every command uses
them (02). -/

namespace Sys2Proof.Machine

/-! ## Status codes (02, Status codes) -/

namespace St

def success : Nat := 0x0000
def partial_ : Nat := 0x0001
def tableMiss : Nat := 0x0002
def insertEvicted : Nat := 0x0003
def cancelled : Nat := 0x0100
def cancelledAtGrant : Nat := 0x0101
def slotReset : Nat := 0x0102
def badDescriptor : Nat := 0x0200
def priv : Nat := 0x0201
def badAddress : Nat := 0x0202
def badSlot : Nat := 0x0203
def badParam : Nat := 0x0204
def badDep : Nat := 0x0205
def epochUnavailable : Nat := 0x0206
def noResource : Nat := 0x0207
def queueState : Nat := 0x0208
def tableExists : Nat := 0x0209
def imageRejected : Nat := 0x020A
def election : Nat := 0x020B
def execFault : Nat := 0x0300
def memoryError : Nat := 0x0301
def staleMap : Nat := 0x0302
def commitAborted : Nat := 0x0303
def internal : Nat := 0x0304

end St

/-! ## Epochs and generations, as work is stamped -/

/-- Change epoch e's drain counter. -/
def State.drainBy (s : State) (e : Nat) (d : Int) : State :=
  { s with mods := { s.mods with epochs := s.mods.epochs.map (fun x =>
      if x.id = e then { x with drain := ((x.drain : Int) + d).toNat } else x) } }

/-! ## Queues -/

/-- The queue record. -/
def State.queue (s : State) (q : Nat) : Option Queue := aget s.fe.queues q

/-- s with queue q's record. -/
def State.setQueue (s : State) (q : Nat) (r : Queue) : State :=
  { s with fe := { s.fe with queues := aput s.fe.queues q r } }

/-- s with queue q's record changed. -/
def State.modQueue (s : State) (q : Nat) (f : Queue → Queue) : State :=
  { s with fe := { s.fe with queues := amod s.fe.queues q f } }

/-- s with queue q's QCB changed. -/
def State.modQcb (s : State) (q : Nat) (f : Qcb → Qcb) : State :=
  s.modQueue q (fun r => { r with qcb := f r.qcb })

/-- Entries of the submission ring. -/
def Qcb.sqSize (c : Qcb) : Nat := 2 ^ c.sqLog2
/-- Entries of the completion ring. -/
def Qcb.cqSize (c : Qcb) : Nat := 2 ^ c.cqLog2
/-- The completion ring is full: one more entry would make its tail meet its head (R93; log entry 12). -/
def Qcb.cqFull (c : Qcb) : Bool := (c.cqTail + 1) % c.cqSize = c.cqHead % c.cqSize

/-- The visible entry of queue q at ring index i. -/
def State.entry (s : State) (q i : Nat) : Option Entry :=
  (s.queue q).bind (fun r => r.ents.find? (fun e => e.idx = i))

/-- s with that entry changed. -/
def State.modEntry (s : State) (q i : Nat) (f : Entry → Entry) : State :=
  s.modQueue q (fun r => { r with ents := r.ents.map (fun e => if e.idx = i then f e else e) })

/-- CODE of a descriptor. -/
def Entry.code (e : Entry) : Nat := fieldLE e.desc 0 1
/-- A body field of an entry's descriptor. -/
def Entry.fld (e : Entry) (o n : Nat) : Nat := fieldLE e.desc o n

/-- The partition whose work queue q carries. -/
def State.qPart (s : State) (q : Nat) : Nat := ((s.queue q).map (fun r => r.qcb.part)).getD 0

/-- Entries granted or started. -/
def Queue.inflight (r : Queue) : Nat := (r.ents.filter (·.granted)).length

/-- The oldest pending entry, the head of the ring. -/
def Queue.head (r : Queue) : Option Entry := r.ents.find? (fun e => e.st = .pending)

/-- The descriptor bytes at ring index i. -/
def State.ringDesc (s : State) (r : Queue) (i : Nat) : Bytes := 
  if spaceHost r.qcb.sqBase then s.hostRead (spaceAddr r.qcb.sqBase + 64 * i) 64
  else s.partRead r.qcb.part (spaceAddr r.qcb.sqBase + 64 * i) 64

/-- QUEUE's requester: the physical function for queue 0, else its partition's VF (09 R404). -/
def State.qFn (s : State) (q : Nat) : Nat := fnOf (q = 0) (s.qPart q)

/-- Bank-pool ranges of held shards (15). -/
def State.shardRanges (s : State) : List (Nat × Nat) := s.nse.shards.map (fun x => (x.base, x.base + x.size))

/-! ## QCB cache (R41, R42) -/

/-- Queue q is mapped to a slot. -/
def State.mapped (s : State) (q : Nat) : Bool := s.fe.slots.any (fun x => x.queue = some q)

/-- Trim the cache to 128 QCBs, the least recently used unmapped one leaving. -/
def State.trimCache (s : State) (l : List Nat) : List Nat :=
  if l.length ≤ 128 then l
  else match l.reverse.find? (fun q => !s.mapped q) with
    | some v => l.filter (· ≠ v)
    | none => l

/-- Touch queue q's QCB, counting a fetch when it was not cached. -/
def State.touchQcb (s : State) (q : Nat) : State :=
  let s1 := if s.fe.cache.contains q then s else s.count P.fe R.feQcbMiss
  { s1 with fe := { s1.fe with cache := s1.trimCache (q :: s1.fe.cache.filter (· ≠ q)) } }

/-! ## Starting and finishing entries -/

/-- STARTED: its first effect is issued (R91: the epoch and generation reported are those at the start). -/
def State.startEntry (s : State) (q i : Nat) : State :=
  let e := s.epoch
  let g := s.gen
  let t := s.ns
  let s1 := s.modEntry q i (fun x => { x with st := .started, start := some t, epoch := e, gen := g })
  match s.entry q i with
  | none => s1
  | some x => s1.trace 32 0x22 (s.qPart q) [(16, 2, q), (18, 2, i), (20, 1, x.slot), (21, 1, x.code)]

/-- Finished: status and detail are known; it waits for its turn to retire (R99). -/
def State.finish (s : State) (q i status detail : Nat) : State :=
  let t := s.ns
  let f := s.fns
  (s.progress P.fe).modEntry q i (fun x => { x with st := .finished, finish := t, fabFinish := f, status := status, detail := detail })

/-- Finished with a DETAIL that no chapter states: a free value (02, Status codes; log entry 66). -/
def State.finishAny (s : State) (q i status : Nat) : State := (s.finish q i status (s.drawn (2 ^ 32))).draw

/-- Progress of a slot (R113). -/
def State.slotProgress (s : State) (k : Nat) : State :=
  s.wr P.feSlot (R.slotProgress k) (s.rd P.feSlot (R.slotProgress k) + 1)

/-- Run a command's effect: its entry is granted, not void, and carries the code. It starts, then k runs. -/
def State.withCmd (s : State) (q i code : Nat) (k : State → Entry → State) : State :=
  match s.entry q i with
  | some e => if e.st = .granted && !e.void && e.code = code then k (s.startEntry q i) e else s
  | none => s

/-! ## Completion entries (R90 to R95) -/

/-- The 32 bytes of a completion entry. asyncB, itemB: flags ASYNC and ITEM. -/
def completionBytes (status tag idx phase asyncB itemB degr slot epoch gen detail tFin wait run : Nat) : Bytes :=
  leBytes 2 status ++ leBytes 2 tag ++ leBytes 2 idx ++
  leBytes 1 (phase + 2 * asyncB + 4 * itemB + 8 * degr) ++ leBytes 1 (slot % 32) ++ leBytes 2 epoch ++
  leBytes 1 (gen % 8) ++ leBytes 1 0 ++ leBytes 4 detail ++ leBytes 8 tFin ++ leBytes 4 wait ++ leBytes 4 run

/-- Write a completion entry at the tail of queue q's completion ring and advance the tail and phase. -/
def State.pushCe (s : State) (q : Nat) (r : Queue) (bs : Bytes) : State :=
  let c := r.qcb
  let a := spaceAddr c.cqBase + 32 * c.cqTail
  let s1 := if spaceHost c.cqBase then (s.hostWrite a bs).countN P.dma R.dmaWrBytes 32 else s.partWrite c.part a bs
  let t := (c.cqTail + 1) % c.cqSize
  s1.modQcb q (fun c => { c with cqTail := t, phase := if t = 0 then 1 - c.phase else c.phase })

/-- MSI-X of a completion (R95, 09 R404). -/
def State.ceIrq (s : State) (q : Nat) (r : Queue) (wanted : Bool) : State :=
  if r.qcb.irqEn = 1 && wanted then s.msix (s.qFn q) r.qcb.vector else s

/-- Where a completion entry can go: 0 it can be written, 1 it waits (R405), 2 it cannot be issued (R408). -/
def State.cePath (s : State) (q : Nat) (r : Queue) : Nat :=
  if spaceHost r.qcb.cqBase then
    if !s.fnPresent (s.qFn q) then 2 else if s.dmaOk (s.qFn q) then 0 else 1
  else 0

/-- Disable a queue whose completion entry cannot be issued (R408). -/
def State.ceFail (s : State) (q : Nat) : State :=
  ((s.modQcb q (fun c => { c with state := 0 })).cause P.dma 8).count P.dma R.dmaHostErr

/-- Queue an asynchronous completion for queue q: its fields are kept until ENTRY_RETIRE writes or drops it. -/
def State.postAsync (s : State) (q idx status detail slot epoch itemB tag : Nat) : State :=
  { s with fe := { s.fe with asyncs := s.fe.asyncs ++ [(q, [idx, status, detail, slot, epoch, itemB, s.fns, s.gen, tag])] } }

/-- Write or drop one asynchronous completion (R94). -/
def State.writeAsync (s : State) (q : Nat) (l : List Nat) : State :=
  match s.queue q with
  | none => s
  | some r =>
    if r.qcb.cqFull then (s.modQcb q (fun c => { c with ceDropped := (c.ceDropped + 1) % 2 ^ 32 })).count P.fe R.feCeDropped
    else if s.cePath q r = 2 then s.ceFail q
    else
      let bs := completionBytes (l.getD 1 0) (l.getD 8 0) (l.getD 0 0) r.qcb.phase 1 (l.getD 5 0) (b2n s.degraded) (l.getD 3 0)
        (l.getD 4 0) (l.getD 7 0) (l.getD 2 0) (l.getD 6 0) 0 0
      (s.pushCe q r bs).ceIrq q r true

/-- The completion entry of a finished entry (R91, R92). -/
def State.entryCe (s : State) (r : Queue) (e : Entry) : Bytes :=
  let wait := match e.start with | some t => t - e.queued | none => s.ns - e.queued
  let run := match e.start with | some t => e.finish - t | none => 0
  completionBytes e.status (e.fld 2 2) e.idx r.qcb.phase 0 0 (b2n s.degraded) e.slot e.epoch e.gen e.detail
    e.fabFinish (satN 32 wait) (satN 32 run)

/-- FE_QUEUES_ACTIVE: queues in ACTIVE or DRAINING. -/
def State.queuesActive (s : State) : Nat := (s.fe.queues.filter (fun x => x.2.qcb.state ≠ 0)).length

/-! ## Slots -/

/-- Slot k. -/
def State.slot (s : State) (k : Nat) : Option Slot := s.fe.slots[k]?

/-- s with slot k changed. -/
def State.modSlot (s : State) (k : Nat) (f : Slot → Slot) : State :=
  { s with fe := { s.fe with slots := s.fe.slots.modify k f } }

/-- Slots pinned by persistent tasks. -/
def State.pinnedCount (s : State) : Nat := (s.fe.slots.filter (fun x => x.pinned.isSome)).length

/-- Unmap slot k: the queue loses its slot number, the trace says so. -/
def State.unmap (s : State) (k : Nat) : State :=
  match s.slot k with
  | none => s
  | some sl =>
    match sl.queue with
    | none => s
    | some q =>
      ((s.modQcb q (fun c => { c with slot := 0xFFFF })).modSlot k (fun x => { x with queue := none })).trace 32 0x24
        (s.qPart q) [(16, 2, 0xFFFF), (20, 1, k)]

/-- A QUEUE_DESTROY completes: the queue is disabled and forgotten, and the command's entry finishes (R82, R83). -/
def State.endQueue (s : State) (q : Nat) : State :=
  match s.queue q with
  | none => s
  | some r =>
    let s1 := match s.fe.slots.findIdx? (fun x => x.queue = some q) with | some k => s.unmap k | none => s
    let s2 := { s1 with fe := { s1.fe with
        queues := adel s1.fe.queues q
        cache := s1.fe.cache.filter (· ≠ q)
        asyncs := s1.fe.asyncs.filter (fun a => a.1 ≠ q) } }
    match r.destroyer with
    | some i => s2.finishAny 0 i St.success
    | none => s2

/-- Finish a destruction once no visible entry is left. -/
def State.settleQueue (s : State) (q : Nat) : State :=
  match s.queue q with
  | some r => if r.qcb.state = 2 && r.ents = [] then s.endQueue q else s
  | none => s

end Sys2Proof.Machine
end

