-- ==== Sys2Proof/Machine/Queues.lean ====
section
/-! DEFINITION. Machine/Queues.lean: doorbells, slots, retirement and the queue commands (02). -/

namespace Sys2Proof.Machine

open Host (Outcome)

/-! ## Doorbells -/

/-- Function fn may ring queue q's doorbell page (09, BARs): the PF any, VF p its partition's. -/
def State.mayRing (s : State) (fn q : Nat) : Bool :=
  fn = 0 || (match s.queue q with | some r => r.qcb.part + 1 = fn && q ≠ 0 | none => false)

/-- Store what host software wrote before the doorbell (R45). -/
def State.hostStores (s : State) (l : List (Nat × Bytes)) : State := s.each l (fun t x => t.hostWrite x.1 x.2)

/-- A fresh visible entry. -/
def newEntry (idx queued : Nat) : Entry := ⟨idx, .pending, queued, none, 0, 0, 0, 0, 0, 0, 0, false, false, [], []⟩

/-- R46 to R49. -/
def sqTailDb (fn q val : Nat) (stores : List (Nat × Bytes)) (s0 : State) : State :=
  let s := s0.hostStores stores
  if !s.mayRing fn q || 1024 ≤ q then s
  else match s.queue q with
    | none => s.count P.fe R.feDbReject
    | some r =>
      if !s.ready P.fe || r.qcb.state ≠ 1 then s.count P.fe R.feDbReject
      else
        let s1 := s.touchQcb q
        let n := r.qcb.sqSize
        let add := (val + n - r.qcb.sqTail) % n
        if n ≤ val || n - 1 < r.ents.length + add then
          (s1.modQcb q (fun c => { c with dbReject := (c.dbReject + 1) % 2 ^ 32 })).count P.fe R.feDbReject
        else
          let es := (List.range add).map (fun k => newEntry ((r.qcb.sqTail + k) % n) s.ns)
          (s1.modQueue q (fun r => { r with ents := r.ents ++ es, qcb := { r.qcb with sqTail := val } })).trace 32 0x20
            r.qcb.part [(16, 2, q), (18, 2, val)]

/-- SQ_TAIL_DB. -/
def execSqTailDb (fn q val : Nat) (stores : List (Nat × Bytes)) (s : State) : Outcome State Fault Refusal :=
  .next (sqTailDb fn q val stores s)

/-- R42, R48, R93: a completion doorbell frees completion-ring entries. -/
def cqHeadDb (fn q val : Nat) (s : State) : State :=
  if !s.mayRing fn q || 1024 ≤ q then s
  else match s.queue q with
    | none => s.count P.fe R.feDbReject
    | some r =>
      if !s.ready P.fe || r.qcb.state ≠ 1 then s.count P.fe R.feDbReject
      else
        let s1 := s.touchQcb q
        if r.qcb.cqSize ≤ val then s1 else s1.modQcb q (fun c => { c with cqHead := val })

/-- CQ_HEAD_DB. -/
def execCqHeadDb (fn q val : Nat) (s : State) : Outcome State Fault Refusal := .next (cqHeadDb fn q val s)

/-! ## Slots (R50 to R56) -/

/-- A dependency names a queue that cannot be waited for (R61): none of that number, or one of another
partition outside queue 0. -/
def State.depBad (s : State) (q : Nat) (d : Bytes) : Bool :=
  let dq := fieldLE d 4 2
  dq.testBit 15 && (match s.queue (dq % 1024) with
    | none => true
    | some t => q ≠ 0 && t.qcb.part ≠ s.qPart q)

/-- The dependency condition of a descriptor holds: none, met, or one that will be rejected. -/
def State.depHolds (s : State) (q : Nat) (d : Bytes) : Bool :=
  let dq := fieldLE d 4 2
  !dq.testBit 15 || s.depBad q d ||
    (match s.queue (dq % 1024) with | some t => decide (fieldLE d 8 8 ≤ t.qcb.retired) | none => true)

/-- The descriptor of the head can be fetched: a ring in host memory needs its function's DMA (09 R405, R1022). -/
def State.canFetch (s : State) (q : Nat) (r : Queue) : Bool := !spaceHost r.qcb.sqBase || s.dmaOk (s.qFn q)

/-- The head entry of queue q can be granted: FENCE, dependency, fewer than four in flight (R54). -/
def State.canGrant (s : State) (q : Nat) : Bool :=
  match s.queue q with
  | none => false
  | some r =>
    match r.head with
    | none => false
    | some h =>
      let d := s.ringDesc r h.idx
      decide (r.inflight < 4) && s.canFetch q r &&
      (!(fieldLE d 1 1).testBit 1 || r.ents.head? = some h) && s.depHolds q d

/-- Queue q is eligible (R53); a DRAINING queue is served until it is empty (R82; log entry 13). -/
def State.eligible (s : State) (q : Nat) : Bool :=
  match s.queue q with
  | none => false
  | some r => r.qcb.state ≠ 0 && s.canGrant q

/-- Queue a goes before queue b: higher PRIO, then the earlier oldest pending entry (R52). -/
def State.before (s : State) (a b : Nat) : Bool :=
  match s.queue a, s.queue b with
  | some x, some y =>
    decide (y.qcb.prio < x.qcb.prio) || (x.qcb.prio = y.qcb.prio &&
      decide ((x.head.map (·.queued)).getD 0 < (y.head.map (·.queued)).getD 0))
  | _, _ => false

/-- The unmapped eligible queue that a free slot takes (R52); queue 0 has its own slot (R50). -/
def State.nextQueue (s : State) : Option Nat :=
  ((s.fe.queues.map (·.1)).filter (fun q => q ≠ 0 && !s.mapped q && s.eligible q)).foldl
    (fun b q => match b with | none => some q | some x => if s.before q x then some q else some x) none

/-- Map queue q to slot k. -/
def State.mapSlot (s : State) (k q : Nat) : State :=
  let t := s.ns
  (((s.touchQcb q).modSlot k (fun x => { x with queue := some q, mappedAt := t })).modQcb q (fun c => { c with slot := k })).trace
    32 0x24 (s.qPart q) [(16, 2, q), (20, 1, k)]

/-- R52. -/
def slotMap (k : Nat) (s : State) : State :=
  match s.slot k with
  | none => s
  | some sl =>
    if k = 0 || sl.queue.isSome || sl.pinned.isSome || sl.resetting then s
    else match s.nextQueue with
      | none => s
      | some q => s.mapSlot k q

/-- SLOT_MAP. -/
def execSlotMap (k : Nat) (s : State) : Outcome State Fault Refusal := .next (slotMap k s)

/-- The queue's time slice in ns (QUANTUM: units of 10 µs, 0 selects 200 µs). -/
def Qcb.sliceNs (c : Qcb) : Nat := if c.quantum = 0 then 200000 else c.quantum * 10000

/-- R55. -/
def slotUnmap (k : Nat) (s : State) : State :=
  match s.slot k with
  | none => s
  | some sl =>
    match sl.queue with
    | none => s
    | some q =>
      match s.queue q with
      | none => s
      | some r =>
        if k = 0 || sl.pinned.isSome || sl.resetting || r.inflight ≠ 0 then s
        else if r.ents = [] then s.unmap k
        else
          let rival := (s.fe.queues.map (·.1)).any (fun x => x ≠ 0 && !s.mapped x && s.eligible x &&
            decide (r.qcb.prio ≤ ((s.queue x).map (·.qcb.prio)).getD 0))
          if sl.mappedAt + r.qcb.sliceNs ≤ s.ns && rival then s.unmap k else s

/-- SLOT_UNMAP. -/
def execSlotUnmap (k : Nat) (s : State) : Outcome State Fault Refusal := .next (slotUnmap k s)

/-- An entry that is never granted: the SLOT, EPOCH and GEN of its completion entry are free (log entry 65). -/
def Entry.noRun (x : Entry) (s : State) : Entry :=
  { x with slot := Config.free s.free % 32, epoch := Config.free (s.free + 1) % 2 ^ 16, gen := Config.free (s.free + 2) % 8 }

/-- R407: the lost descriptors' entries end with MEMORY_ERROR and DETAIL 0xFFFF; the TAG of a lost descriptor is free
(log entry 65). -/
def descriptorFetchFail (q count : Nat) (s : State) : State :=
  match s.queue q with
  | none => s
  | some r =>
    if !spaceHost r.qcb.sqBase then s
    else
      let lost := ((r.ents.filter (fun e => e.st = .pending)).take count).map (·.idx)
      let s1 := s.each lost (fun t i => (((t.modEntry q i (fun x =>
        { x.noRun (t.drawN 2) with desc := zeros 2 ++ t.drawnBytes 2 })).drawN 5).finish q i St.memoryError 0xFFFF).modQcb q (fun c =>
        { c with sqHead := (i + 1) % c.sqSize }))
      if lost = [] then s else (s1.count P.dma R.dmaHostErr).cause P.dma 9

/-- DESCRIPTOR_FETCH_FAIL. -/
def execDescriptorFetchFail (q count : Nat) (s : State) : Outcome State Fault Refusal :=
  .next (descriptorFetchFail q count s)

/-! ## Retirement (R90 to R95, R99) -/

/-- Remove the retired head entry, count it, and settle what waits for it. -/
def State.dropRetired (s : State) (q : Nat) (e : Entry) : State :=
  let s1 := s.modQueue q (fun r => { r with ents := r.ents.drop 1, qcb := { r.qcb with retired := (r.qcb.retired + 1) % 2 ^ 64 } })
  let s2 := if e.code = 0x41 && e.start.isSome && e.status / 256 ≠ 2 then s1.drainBy e.epoch (-1) else s1
  s2.settleQueue q

/-- Retire the head entry of queue q where it is finished and its completion entry can be written. -/
def State.retireHead (s : State) (q : Nat) : State :=
  match s.queue q with
  | none => s
  | some r =>
    match r.ents with
    | [] => s
    | e :: _ =>
      if e.st ≠ .finished || r.qcb.cqFull then s
      else match s.cePath q r with
        | 1 => s.count P.dma R.dmaBmeWait
        | 2 => s.ceFail q
        | _ =>
          let s1 := (s.pushCe q r (s.entryCe r e)).trace 32 0x23 r.qcb.part
            [(16, 2, q), (18, 2, e.idx), (20, 1, e.slot), (22, 2, e.status), (24, 2, e.epoch)]
          (s1.ceIrq q r ((e.fld 1 1).testBit 0 || 0x200 ≤ e.status)).dropRetired q e

/-- Asynchronous completions of queue q, oldest first, then the head of the ring. -/
def entryRetire (q : Nat) (s : State) : State :=
  let mine := (s.fe.asyncs.filter (fun a => a.1 = q)).map (·.2)
  let s1 := { s with fe := { s.fe with asyncs := s.fe.asyncs.filter (fun a => a.1 ≠ q) } }
  (s1.each mine (fun t l => t.writeAsync q l)).retireHead q

/-- ENTRY_RETIRE. -/
def execEntryRetire (q : Nat) (s : State) : Outcome State Fault Refusal := .next (entryRetire q s)

/-! ## Commands -/

/-- NOP (0x40). -/
def execNop (q i : Nat) (s : State) : Outcome State Fault Refusal :=
  .next (s.withCmd q i 0x40 (fun t _ => t.finishAny q i St.success))

/-- The entry at ring position pos keeps its descriptor, whose TAG its completion entry returns (02, Completion entry). -/
def State.keepDesc (s : State) (q pos : Nat) : State :=
  match s.queue q with
  | some r => (s.modEntry q pos (fun x => { x.noRun s with desc := s.ringDesc r pos })).drawN 3
  | none => s

/-- Cancel one covered ring position (R106 to R108): the new state and what it became (1 CANCELLED, 2 void). -/
def cancelOne (tq pos : Nat) (s : State) : State × Nat :=
  match s.entry tq pos with
  | none => (s, 0)
  | some e =>
    match e.st with
    | .pending => (((s.keepDesc tq pos).finish tq pos St.cancelled 0), 1)
    | .granted => if e.void then (s, 0) else (s.modEntry tq pos (fun x => { x with void := true }), 2)
    | _ => (s, 0)

/-- Cancel a list of ring positions, counting both kinds. -/
def cancelAll (tq : Nat) : List Nat → State → State × Nat × Nat
  | [], s => (s, 0, 0)
  | p :: ps, s =>
    let r := cancelOne tq p s
    let rest := cancelAll tq ps r.1
    (rest.1, rest.2.1 + b2n (r.2 = 1), rest.2.2 + b2n (r.2 = 2))

/-- CANCEL (0x44), R104 to R111. -/
def execCancel (q i : Nat) (s : State) : Outcome State Fault Refusal :=
  .next (s.withCmd q i 0x44 (fun t e =>
    let tq := e.fld 16 2 % 1024
    match t.queue tq with
    | none => t.finish q i St.queueState tq
    | some r =>
      let n := r.qcb.sqSize
      let c := cancelAll tq ((List.range (e.fld 20 2)).map (fun k => (e.fld 18 2 + k) % n)) t
      c.1.finish q i St.success (c.2.1 % 65536 + 65536 * (c.2.2 % 65536))))

/-- VOID_OPERATION: R108. -/
def execVoidOperation (q i : Nat) (s : State) : Outcome State Fault Refusal :=
  .next (match s.entry q i with
    | some e =>
      if e.st = .granted && e.void then
        (s.finish q i St.cancelledAtGrant 0).count P.fe R.feCancelAtGrant
      else s
    | none => s)

/-- Host traffic of a transfer: byte counts and, while the function may not, the wait (09 R405). -/
def State.hostSide (s : State) (addr n : Nat) (write : Bool) : State :=
  if spaceHost addr then s.countN P.dma (if write then R.dmaWrBytes else R.dmaRdBytes) n else s

/-- The host sides of a command's addresses may move now. -/
def State.hostGo (s : State) (q : Nat) (addrs : List Nat) : Bool := addrs.all (fun a => !spaceHost a || s.dmaOk (s.qFn q))

/-- An uncorrectable read ends an entry with MEMORY_ERROR and one fault record (R1023, 19 MEM_UE). -/
def State.memError (s : State) (q i detail addr : Nat) : State :=
  let e := s.entry q i
  (s.raise ⟨0x0002, P.hbm (stackOf s.part.code addr).1, addr / 64 * 64, detail, (e.map (·.code)).getD 0,
    e.map (·.slot), q, (e.map (·.epoch)).getD 0, some (s.qPart q), 0, 0, 0⟩).finish q i St.memoryError detail

/-- COPY (0x45): moves LENGTH bytes; its writes are visible before it retires (R101). While a host side waits for
Bus Master Enable the entry waits (09 R405). -/
def execCopy (q i : Nat) (s : State) : Outcome State Fault Refusal :=
  .next (match s.entry q i with
    | some e =>
      if !s.hostGo q [e.fld 16 8, e.fld 24 8] then s.count P.dma R.dmaBmeWait
      else s.withCmd q i 0x45 (fun t e =>
        let p := t.qPart q
        let src := e.fld 16 8
        let dst := e.fld 24 8
        let n := e.fld 32 4
        if t.spPoisoned p src n then t.memError q i 0 (spaceAddr src)
        else
          let t1 := ((t.spWrite p dst 0 (t.spRead p src n)).hostSide src n false).hostSide dst n true
          let t2 := t1.wr P.feSlot (R.slotProgress e.slot) (t1.rd P.feSlot (R.slotProgress e.slot) + n / 65536)
          t2.finishAny q i St.success)
    | none => s)

/-- Queues of partition p other than queue 0. -/
def State.partQueues (s : State) (p : Nat) : Nat := (s.fe.queues.filter (fun x => x.1 ≠ 0 && x.2.qcb.part = p)).length

/-- Why QUEUE_CREATE or QUEUE_DESTROY cannot go on: status and DETAIL. -/
def State.queueBad (s : State) (d : Bytes) : Option (Nat × Nat) :=
  let n := fieldLE d 16 2
  if fieldLE d 0 1 = 0x50 then
    if (s.queue n).isSome then some (St.queueState, n)
    else if s.maxQueues (fieldLE d 18 1) ≤ s.partQueues (fieldLE d 18 1) then some (St.noResource, 4) else none
  else if fieldLE d 0 1 = 0x51 then
    match s.queue n with
    | some r => if r.qcb.persist ≠ 0 || r.qcb.state ≠ 1 then some (St.queueState, n) else none
    | none => some (St.queueState, n)
  else none

/-- QUEUE_CREATE (0x50): the queue of its body, ACTIVE, with the first phase 1 (R81, R90). -/
def execQueueCreate (i : Nat) (s : State) : Outcome State Fault Refusal :=
  .next (s.withCmd 0 i 0x50 (fun t e =>
    let c : Qcb := ⟨e.fld 24 8, e.fld 32 8, e.fld 20 1 % 32, e.fld 21 1 % 32, e.fld 19 1 % 8, e.fld 18 1 % 16, 0, 0, 0, 0,
      e.fld 22 2 % 2048, e.fld 40 1, 1, 1, e.fld 41 1 % 2, 0, 0, 0, 0xFFFF, 0⟩
    match t.queueBad e.desc with
    | some x => t.finish 0 i x.1 x.2
    | none => (t.setQueue (e.fld 16 2 % 1024) ⟨c, [], none⟩).finishAny 0 i St.success))

/-- QUEUE_DESTROY DRAIN (0x51 mode 0): R82. The command finishes when the queue's entries have retired. -/
def execQueueDestroyDrain (i : Nat) (s : State) : Outcome State Fault Refusal :=
  .next (s.withCmd 0 i 0x51 (fun t e =>
    let q := e.fld 16 2 % 1024
    if (e.fld 18 1) % 2 ≠ 0 then s
    else match t.queueBad e.desc with
    | some x => t.finish 0 i x.1 x.2
    | none => (t.modQueue q (fun r => { r with destroyer := some i, qcb := { r.qcb with state := 2 } })).settleQueue q))

/-- QUEUE_DESTROY ABORT (0x51 mode 1): R83, a CANCEL of the whole ring first. -/
def execQueueDestroyAbort (i : Nat) (s : State) : Outcome State Fault Refusal :=
  .next (s.withCmd 0 i 0x51 (fun t e =>
    let q := e.fld 16 2 % 1024
    if (e.fld 18 1) % 2 ≠ 1 then s
    else match t.queueBad e.desc with
    | some x => t.finish 0 i x.1 x.2
    | none =>
      let all := ((t.queue q).map (fun r => r.ents.map (·.idx))).getD []
      ((cancelAll q all t).1.modQueue q (fun r => { r with destroyer := some i, qcb := { r.qcb with state := 2 } })).settleQueue q))

/-- FE_KQ_CTRL.ENABLE set (R44, R50, R116, R117): queue 0 with the FE_KQ configuration, mapped to slot 0. -/
def feKqEnable (s : State) : State :=
  if !s.ready P.fe || s.on P.fe R.feKqCtrlEnable then s
  else
    let sq := s.rd P.fe R.feKqSqBase
    let cq := s.rd P.fe R.feKqCqBase
    let a := s.rd P.fe R.feKqCfgSqLog2
    let b := s.rd P.fe R.feKqCfgCqLog2
    let v := s.rd P.fe R.feKqCfgMsixVector
    if a < 4 || 16 < a || b < 4 || 16 < b || 512 ≤ v || bits sq 1 5 ≠ 0 || bits cq 1 5 ≠ 0 then
      s.wr P.fe R.feKqCtrlCfgErr 1
    else
      let c : Qcb := ⟨sq, cq, a, b, 7, 0, 0, 0, 0, 0, v, 0, 1, 1, 1, 0, 0, 0, 0, 0⟩
      (((s.wr P.fe R.feKqCtrlCfgErr 0).wr P.fe R.feKqCtrlEnable 1).setQueue 0 ⟨c, [], none⟩).mapSlot 0 0

/-- FE_KQ_ENABLE. -/
def execFeKqEnable (s : State) : Outcome State Fault Refusal := .next (feKqEnable s)

end Sys2Proof.Machine
end

