-- ==== Sys2Proof/Machine/Models.lean ====
section
/-! DEFINITION. Machine/Models.lean: model slots, banks, epochs, the journal, local commits (05). -/

namespace Sys2Proof.Machine

open Host (Outcome)

/-! ## Slots and banks -/

/-- An empty bank. -/
def emptyBank : Bank := ⟨0, 0, 0, 0, 0, [], 0, []⟩

/-- A slot without owner. -/
def emptyMSlot : MSlot := ⟨0, false, false, emptyBank, emptyBank, 0⟩

/-- Model slot n. -/
def State.mslot (s : State) (n : Nat) : MSlot := (aget s.mods.slots n).getD emptyMSlot

/-- s with model slot n set. -/
def State.setMSlot (s : State) (n : Nat) (m : MSlot) : State :=
  { s with mods := { s.mods with slots := aput s.mods.slots n m } }

/-- Bank b of a slot. -/
def MSlot.bank (m : MSlot) (b : Nat) : Bank := if b = 0 then m.b0 else m.b1

/-- The slot with bank b set; without an owner when both banks are EMPTY (R226). -/
def MSlot.setBank (m : MSlot) (b : Nat) (k : Bank) : MSlot :=
  let m1 := if b = 0 then { m with b0 := k } else { m with b1 := k }
  if m1.b0.state = 0 && m1.b1.state = 0 then { m1 with owned := false, owner := 0 } else m1

/-- The bank, if any, in the given state. -/
def MSlot.inState (m : MSlot) (st : Nat) : Option Nat :=
  if m.b0.state = st then some 0 else if m.b1.state = st then some 1 else none

/-- Bank serves epoch e (R224). -/
def Bank.serves (k : Bank) (e : Nat) : Bool :=
  (k.state = 3 && (k.fromE = e || seqLater 16 e k.fromE)) ||
  (k.state = 4 && (k.fromE = e || seqLater 16 e k.fromE) && (k.untilE = e || seqLater 16 k.untilE e))

/-- The bank of slot n that serves epoch e. -/
def State.servingBank (s : State) (n e : Nat) : Option Nat :=
  if (s.mslot n).b0.serves e then some 0 else if (s.mslot n).b1.serves e then some 1 else none

/-- Slots and bank memory that partition p holds (R225, R227). -/
def State.slotsOwned (s : State) (p : Nat) : Nat := (s.mods.slots.filter (fun x => x.2.owned && x.2.owner = p)).length
/-- Memory of the shards held for partition p's channels (15 R716). -/
def State.shardBytes (s : State) (p : Nat) : Nat :=
  sumN ((s.nse.shards.filter (fun h => ((aget s.nse.channels h.channel).map (fun d => fieldLE d 7 1 % 16)) = some p)).map (·.size))
def State.bankBytes (s : State) (p : Nat) : Nat :=
  s.shardBytes p + sumN ((s.mods.slots.filter (fun x => x.2.owned && x.2.owner = p)).map (fun x =>
    (if x.2.b0.state ≠ 0 then x.2.b0.size else 0) + (if x.2.b1.state ≠ 0 then x.2.b1.size else 0)))

/-- Size of a bank for an image (R225). -/
def bankSize (image scratch copies : Nat) : Nat := roundUp (image + scratch * copies) (2 ^ 21)

/-- Ranges of the bank pool in use: banks, held shards and every partition's firewall regions (09 R419). -/
def State.poolUsed (s : State) : List (Nat × Nat) :=
  (s.mods.slots.map (fun x => [(x.2.b0.base, x.2.b0.base + x.2.b0.size), (x.2.b1.base, x.2.b1.base + x.2.b1.size)])).flatten ++
  s.shardRanges ++
  (s.trust.records.map (fun x => (recRegions x.2).map (fun r => (r.dbase, r.dbase + r.size)))).flatten

/-- The lowest free range of n bytes in the bank pool (09 R419: placed by firmware; log entry 14). -/
def State.poolAlloc (s : State) (n : Nat) : Option Nat :=
  let used := s.poolUsed.filter (fun x => x.1 < x.2)
  let fits := fun a => a + n ≤ s.part.code.flowBase && used.all (fun x => x.2 ≤ a || a + n ≤ x.1)
  ((0x40000000 :: used.map (fun x => roundUp x.2 (2 ^ 21))).filter (fun a => 0x40000000 ≤ a && fits a)).foldl
    (fun b a => match b with | none => some a | some x => some (min a x)) none

/-- The 256-byte slot descriptor that MS_DATA shows (05, Model slots and banks; R259). -/
def State.mslotBytes (s : State) (n : Nat) : Bytes :=
  let m := s.mslot n
  padTo 256 (leBytes 1 (m.owner + 128 * b2n m.owned) ++
    leBytes 1 (b2n (m.b1.state = 3) + 2 * b2n m.retire) ++ leBytes 1 m.b0.state ++ leBytes 1 m.b1.state ++
    leBytes 2 m.b0.fromE ++ leBytes 2 m.b0.untilE ++ leBytes 2 m.b1.fromE ++ leBytes 2 m.b1.untilE ++ zeros 4 ++
    leBytes 8 m.b0.base ++ leBytes 8 m.b0.size ++ leBytes 8 m.b1.base ++ leBytes 8 m.b1.size ++
    padTo 48 m.b0.digest ++ padTo 48 m.b1.digest ++ leBytes 8 m.b0.modelId ++ leBytes 8 m.b1.modelId ++
    leBytes 4 m.stageBytes)

/-! ## The commit: checks and flip (R240 to R249) -/

/-- Slots a mask selects. -/
def maskSlots (mask : Nat) : List Nat := bitList mask 256

/-- A commit's checks on this device (R241 to R243): none where it may go on. -/
def State.commitCheck (s : State) (expect mask : Nat) : Option (Nat × Nat) :=
  if expect ≠ s.epoch then some (St.badParam, 48)
  else if mask % 2 ^ 256 = 0 then some (St.badParam, 16)
  else match (maskSlots mask).find? (fun n => !((s.mslot n).inState 2).isSome && !(s.mslot n).retire) with
    | some n => some (St.badSlot, n)
    | none => if 4 ≤ s.mods.epochs.length then some (St.noResource, 0x13) else none

/-- What a flip to epoch e1 from e does to a selected slot (R247). -/
def flipSlot (e e1 : Nat) (m : MSlot) : MSlot :=
  let drain := fun (k : Bank) => if k.state = 3 then { k with state := 4, untilE := e } else k
  let rise := fun (k : Bank) => if k.state = 2 then { k with state := 3, fromE := e1 } else k
  let staged := (m.inState 2).isSome
  if staged || m.retire then { m with b0 := rise (drain m.b0), b1 := rise (drain m.b1), retire := false } else m

/-- Every slot after a flip (R247, R248). -/
def State.slotsAfter (s : State) (mask e1 : Nat) : List (Nat × MSlot) :=
  s.mods.slots.map (fun x => if mask.testBit x.1 then (x.1, flipSlot s.epoch e1 x.2) else x)

/-- EPOCH_FLIP: the current epoch becomes e1, the old one drains (R246, R247). -/
def State.flipTo (s : State) (mask e1 : Nat) : State :=
  { s with mods := { s.mods with
      slots := s.slotsAfter mask e1
      epochs := s.mods.epochs ++ [⟨e1, 0⟩] } }

/-! ## The journal (R252 to R257) -/

/-- Address of the record with sequence number q. -/
def journalAddr (q : Nat) : Nat := 0x10000000 + q % 32 * 0x8000

/-- The 64-byte entry of a slot: its LIVE bank, if any. -/
def journalSlot (m : MSlot) : Bytes :=
  match m.inState 3 with
  | none => zeros 64
  | some b =>
    let k := m.bank b
    leBytes 1 1 ++ leBytes 1 m.owner ++ leBytes 1 b ++ zeros 5 ++ leBytes 8 k.base ++ padTo 48 k.digest

/-- Bytes 0x00 to 0x403F of a record, STATE and CRC given. -/
def journalBytes (state mode q e1 e flip crc : Nat) (slots : List (Nat × MSlot)) : Bytes :=
  leBytes 4 0x4E524A45 ++ leBytes 2 1 ++ leBytes 1 state ++ leBytes 1 mode ++ leBytes 8 q ++ leBytes 2 e1 ++
  leBytes 2 e ++ zeros 4 ++ leBytes 8 flip ++ zeros 28 ++ leBytes 4 crc ++
  ((List.range 256).map (fun n => journalSlot ((aget slots n).getD emptyMSlot))).flatten

/-- Write an ARMED record for the flip to e1 (R245, R252). -/
def State.journalArm (s : State) (mode mask e1 flip : Nat) : State :=
  let q := s.mods.seq + 1
  let after := s.slotsAfter mask e1
  let crc := crc32c (journalBytes 0 mode q e1 s.epoch flip 0 after)
  ({ s with mods := { s.mods with seq := q } }).devWrite (journalAddr q) (journalBytes 1 mode q e1 s.epoch flip crc after)

/-- Mark the record FLIPPED by rewriting STATE alone (R252). -/
def State.journalFlipped (s : State) : State :=
  (s.devWrite (journalAddr s.mods.seq + 6) (leBytes 1 2)).wr P.dev R.journalSeq s.mods.seq

/-- A record is valid (R253): MAGIC, LAYOUT, CRC, and no uncorrectable line in it (19 R991). -/
def State.journalValid (s : State) (a : Nat) : Bool :=
  let r := s.devRead a 0x4040
  fieldLE r 0 4 = 0x4E524A45 && fieldLE r 4 2 = 1 && !s.poisoned a 0x4040 &&
  fieldLE r 0x3C 4 = crc32c (putAt (putAt r 6 [0]) 0x3C (zeros 4))

/-- The valid FLIPPED record with the highest SEQ. -/
def State.journalBest (s : State) : Option Nat :=
  ((List.range 32).map (fun k => 0x10000000 + k * 0x8000)).foldl (fun b a =>
    if s.journalValid a && fieldLE (s.devRead a 16) 6 1 = 2 then
      match b with
      | none => some a
      | some x => if fieldLE (s.devRead x 16) 8 8 < fieldLE (s.devRead a 16) 8 8 then some a else some x
    else b) none

/-! ## Commands -/

/-- EPOCH_COMMIT LOCAL (0x55): R240 to R247. SLOT_MASK 16 to 47, EXPECT_EPOCH 48, MODE 50. -/
def epochCommitLocal (i : Nat) (s : State) : State :=
  s.withCmd 0 i 0x55 (fun t e =>
    let mask := e.fld 16 32
    if (e.fld 50 1) % 2 ≠ 0 then s
    else if t.mods.commitBy.isSome then s
    else if t.role ≠ 0 then t.finish 0 i St.badParam 50
    else match t.commitCheck (e.fld 48 2) mask with
      | some (st, d) => t.finish 0 i st d
      | none =>
        let e1 := (t.epoch + 1) % 65536
        let t1 := ((t.journalArm 0 mask e1 t.fns).flipTo mask e1).journalFlipped
        t1.finish 0 i St.success e1)

/-- EPOCH_COMMIT_LOCAL. -/
def execEpochCommitLocal (i : Nat) (s : State) : Outcome State Fault Refusal := .next (epochCommitLocal i s)

/-- Resident forests and prep tables whose bank is no more are invalidated (14 R694). -/
def State.pruneForest (s : State) : State :=
  let banks := (s.mods.slots.map (fun (x : Nat × MSlot) => [x.2.b0, x.2.b1])).flatten.filter (fun k => k.state ≠ 0)
  { s with mem := { s.mem with forest := s.mem.forest.filter (fun r => banks.any (fun k => k.base ≤ r.addr && r.addr < k.base + k.size)) } }

/-- MODEL_RELEASE DISCARD (0x56 mode 0): R250. -/
def execModelReleaseDiscard (i : Nat) (s : State) : Outcome State Fault Refusal :=
  .next (s.withCmd 0 i 0x56 (fun t e =>
    let n := e.fld 16 2 % 256
    let m := t.mslot n
    if (e.fld 18 1) % 2 ≠ 0 then s
    else match m.inState 2 with
      | some b => (t.setMSlot n ({ m with retire := false }.setBank b emptyBank)).pruneForest.finishAny 0 i St.success
      | none =>
        if m.retire then (t.setMSlot n { m with retire := false }).finishAny 0 i St.success
        else t.finish 0 i St.badSlot n))

/-- MODEL_RELEASE RETIRE (mode 1): R251. -/
def execModelReleaseRetire (i : Nat) (s : State) : Outcome State Fault Refusal :=
  .next (s.withCmd 0 i 0x56 (fun t e =>
    let n := e.fld 16 2 % 256
    let m := t.mslot n
    if (e.fld 18 1) % 2 ≠ 1 then s
    else if (m.inState 3).isSome && !(m.inState 2).isSome then
      (t.setMSlot n { m with retire := true }).finishAny 0 i St.success
    else t.finish 0 i St.badSlot n))

/-- Empty the DRAINING banks of a slot whose UNTIL is e (R238). -/
def releaseSlot (e : Nat) (m : MSlot) : MSlot :=
  let m1 := if m.b0.state = 4 && m.b0.untilE = e then m.setBank 0 emptyBank else m
  if m1.b1.state = 4 && m1.b1.untilE = e then m1.setBank 1 emptyBank else m1

/-- R237, R238: the oldest draining epoch is released when its counter reads zero. -/
def epochRelease (s : State) : State :=
  match s.mods.epochs with
  | o :: c :: rest =>
    if o.drain = 0 then
      State.pruneForest { s with mods := { s.mods with
          epochs := c :: rest
          slots := s.mods.slots.map (fun x => (x.1, releaseSlot o.id x.2)) } }
    else s
  | _ => s

/-- EPOCH_RELEASE. -/
def execEpochRelease (s : State) : Outcome State Fault Refusal := .next (epochRelease s)

/-- A slot as the record at address a restores it, not yet LIVE (R254). -/
def State.restoredSlot (s : State) (a ep n : Nat) : Option (Nat × MSlot) :=
  let r := s.devRead (a + 0x40 + 64 * n) 64
  if fieldLE r 0 1 % 2 = 0 then none
  else
    let b := fieldLE r 2 1 % 2
    let base := fieldLE r 8 8
    let h := s.devRead base 128
    let k : Bank := ⟨0, ep, 0, base, bankSize (fieldLE h 8 8) (fieldLE h 40 8) (fieldLE h 48 1 % 128), (r.drop 16).take 48,
      fieldLE h 56 8, []⟩
    let m := { emptyMSlot with owner := fieldLE r 1 1 % 16, owned := true }
    some (n, if b = 0 then { m with b0 := k } else { m with b1 := k })

/-- JOURNAL_RESTORE: R253 to R256. Restored banks wait for BANK_REVERIFY. -/
def journalRestore (s : State) : State :=
  if !s.rst.restoring then s
  else
    let s0 := { s with rst := { s.rst with restoring := false } }
    match s0.journalBest with
    | none => { s0 with mods := ⟨[], [⟨0, 0⟩], 0, none, []⟩ }
    | some a =>
      let r := s0.devRead a 32
      let ep := fieldLE r 0x10 2
      let sl : List (Nat × MSlot) := (List.range 256).filterMap (fun n => s0.restoredSlot a ep n)
      let s1 := { s0 with mods := ⟨sl, [⟨ep, 0⟩], fieldLE r 8 8, none,
        sl.map (fun (x : Nat × MSlot) => (x.1, b2n (x.2.b1.size ≠ 0)))⟩ }
      s1.wr P.dev R.journalSeq (fieldLE r 8 8)

/-- JOURNAL_RESTORE. -/
def execJournalRestore (s : State) : Outcome State Fault Refusal := .next (journalRestore s)

/-- Public key KEY_ID of a partition's record (09, Model signing). -/
def State.modelKey (s : State) (p id : Nat) : Option Bytes :=
  let r := s.record p
  ((List.range 4).find? (fun k => leNat (Memory.read r (0x500 + 128 * k) 4) = id && id ≠ 0)).map (fun k =>
    Memory.read r (0x500 + 128 * k + 8) 96)

/-- DIGEST and signature of an image of n bytes at address a hold for owner p (R220, R221). -/
def State.imageTrusted (s : State) (p a n : Nat) : Bool :=
  let sig := s.devRead (a + n - 256) 256
  let d := sha384 (s.devRead a (n - 256))
  (sig.drop 8).take 48 = d &&
  (if fieldLE sig 0 2 = 1 then
    (match s.modelKey p (fieldLE sig 4 4) with
      | none => false
      | some k => Config.ecdsaVerify k d ((sig.drop 56).take 96))
   else fieldLE sig 0 2 = 0 && !s.requireSigned p)

/-- Extend measurement register i (09 R435). -/
def State.extend (s : State) (i : Nat) (v : Bytes) : State :=
  { s with trust := { s.trust with meas := s.trust.meas.modify i (fun m => sha384 (padTo 48 m ++ v)) } }

/-- BANK_REVERIFY: R255. A bank that fails becomes EMPTY, counts and is recorded. -/
def bankReverify (n : Nat) (s : State) : State :=
  match s.mods.unverified.find? (fun x => x.1 = n) with
  | none => s
  | some (_, b) =>
    let m := s.mslot n
    let k := m.bank b
    let s0 := { s with mods := { s.mods with unverified := s.mods.unverified.filter (fun x => x.1 ≠ n) } }
    let size := fieldLE (s.devRead k.base 16) 8 8
    if !s.poisoned k.base size && ((s.devRead (k.base + size - 248) 48) = k.digest) && s.imageTrusted m.owner k.base size then
      let k1 := { k with state := 3 }
      (s0.setMSlot n (if b = 0 then { m with b0 := k1 } else { m with b1 := k1 })).extend 5 k.digest
    else
      ((s0.setMSlot n emptyMSlot).pruneForest.count P.dev R.miReverifyFail).raise (plainErr 0x0004 P.dev n 2 0 0)

/-- BANK_REVERIFY. -/
def execBankReverify (n : Nat) (s : State) : Outcome State Fault Refusal := .next (bankReverify n s)

end Sys2Proof.Machine
end

