-- ==== Sys2Proof/Machine/Bringup.lean ====
section
/-! DEFINITION. Machine/Bringup.lean: READY and what each block requires, ENABLE, phases of bring-up (06 R270 to
R275, 08 R376 to R389). -/

namespace Sys2Proof.Machine

/-- The pages of R376 with what each requires, in an order in which every page follows what it requires. A page
that R376 does not list takes the requirement of its group (log entry 15). -/
def bringOrder : List (Nat × List Nat) :=
  [(P.dev, []), (P.clk, []), (P.rst, []), (P.hk, []), (P.pwr, [P.hk]), (P.thm, [P.hk]), (P.plant, [P.hk]), (P.trust, [P.hk]),
   (P.pcie, [P.clk]), (P.dma, [P.pcie]), (P.part, [P.trust])] ++
  (List.range 8).map (fun k => (P.hbm k, [P.clk, P.pwr])) ++
  [(P.fe, [P.trust, P.hbm 0]), (P.feSlot, [P.trust, P.hbm 0])] ++
  (List.range 16).map (fun n => (P.cl n, [P.trust])) ++
  (List.range 16).map (fun n => (P.seq n, [P.trust])) ++
  ((List.range 16).map (fun n => ((List.range 8).map (fun c => P.core n c) ++ [P.qsu n, P.forest n]).map (fun p => (p, [P.cl n])))).flatten ++
  (List.range 8).map (fun k => (P.nse k, [P.trust])) ++
  (List.range 4).map (fun d => (P.iod d, [P.clk, P.hk])) ++
  (List.range 4).map (fun d => (P.serdes d, [P.iod d])) ++
  (List.range 16).map (fun p => (P.port p, [P.serdes (p / 4)])) ++
  (List.range 16).map (fun p => (P.gate p, [P.iod (p / 4)])) ++
  (List.range 8).map (fun f => (P.fport f, [P.serdes (f / 2)])) ++
  ((List.range 4).map (fun d => [P.ptp d, P.parse (2 * d), P.parse (2 * d + 1), P.classp (2 * d), P.classp (2 * d + 1),
      P.flow d].map (fun p => (p, [P.iod d])))).flatten ++
  [(P.station 0, [P.iod 0]), (P.station 1, [P.iod 1, P.station 0]), (P.station 2, [P.iod 2, P.station 0]),
   (P.station 3, [P.iod 3, P.station 0])] ++
  ((List.range 4).map (fun d => [P.trig d, P.hold d, P.verdict d, P.rate d, P.slowpath d].map (fun p => (p, [P.iod d])))).flatten ++
  [(P.fab, [P.trust]), (P.fabRoute, [P.fab]), (P.fabTime, [P.fab]), (P.fabEpoch, [P.fab]), (P.obs, [P.clk]),
   (P.obsTrace, [P.obs]), (P.obsTap, [P.obs]), (P.flt, [P.clk]), (P.cruise, [P.clk]), (P.fltAon, [P.clk]), (P.wfg, [P.clk, P.hk])]

/-- The page at offset p, if the part has it. -/
def State.pagePresent (s : State) (p : Nat) : Bool := ((pageAt (p / 0x1000)).map (·.present s.part.code)).getD false

/-- Everything page p requires is READY (R376); FAB also needs one FPORT. -/
def State.requirementsMet (s : State) (p : Nat) (req : List Nat) : Bool :=
  req.all (fun r => s.ready r) && (p ≠ P.fab || (List.range 8).any (fun f => s.ready (P.fport f)))

/-- Every present stack is READY: the flow table lies across all of them (12 R557, 09 R419). -/
def State.flowStacksReady (s : State) : Bool := (List.range s.part.code.stacks).all (fun k => s.ready (P.hbm k))

/-- Page p is of kind FLOW. -/
def isFlow (p : Nat) : Bool := (List.range 4).any (fun d => p = P.flow d)

/-- READY falls; the block waits again for what it requires, in INIT (log entry 16). -/
def State.dropReady (s : State) (p : Nat) : State := (s.setState p 1).setReady p false

/-- FLOW enters CACHE_ONLY: STATE 0x80 with DEGRADED (R378). -/
def State.cacheOnly (s : State) (p : Nat) : State := (s.setState p 0x80).setDegraded p true

/-- One page after a change elsewhere: it leaves READY when a requirement has gone (R377). -/
def State.settlePage (s : State) (x : Nat × List Nat) : State :=
  let p := x.1
  if s.ready p && !s.requirementsMet p x.2 then s.dropReady p
  else if s.ready p && isFlow p && s.rd p R.pgStatusState = 3 && !s.flowStacksReady then s.cacheOnly p
  else s

/-- Every page that requires one that left READY leaves it at the same edge (R377). -/
def State.settleReady (s : State) : State := s.each bringOrder State.settlePage

/-- Page p leaves READY, with all that requires it. -/
def State.leaveReady (s : State) (p : Nat) : State := (s.dropReady p).settleReady

/-! ## BUSY -/

/-- Opcodes of the started steps on cluster n. -/
def State.codesOn (s : State) (n : Nat) : List Nat :=
  (s.fe.invs.map (fun (x : Nat × Inv) => ((x.2.ops.zip x.2.steps).filter (fun (y : Bytes × Step) => y.2.st = .started && y.2.cluster = n)).map
    (fun y => fieldLE y.1 0 1))).flatten

/-- A step for the arrays or vector stages; for the QSU; for the Forest Engine (03, Execution units). -/
def codeCores (c : Nat) : Bool := (1 ≤ c && c ≤ 0x0B) || c = 0x1E || c = 0x1F
def codeQsu (c : Nat) : Bool := c = 0x0C || (0x0F ≤ c && c ≤ 0x11)
def codeForest (c : Nat) : Bool := c = 0x12 || c = 0x13

/-- The front end holds entries in flight. -/
def State.feBusy (s : State) : Bool := s.fe.queues.any (fun x => x.2.ents.any (fun e => e.st = .granted || e.st = .started))

/-- BUSY of page p: work in progress. -/
def State.busy (s : State) (p : Nat) : Bool :=
  s.on p R.pgStatusBusy ||
  (match pageAt (p / 0x1000) with
    | none => false
    | some i => match i.kind with
      | .cl | .seq => s.codesOn i.inst ≠ []
      | .qsu => (s.codesOn i.inst).any codeQsu
      | .forest => (s.codesOn i.inst).any codeForest
      | .core => (s.codesOn (i.inst / 8)).any codeCores
      | .nse => s.nse.parts.any (fun (x : Nat × ShardPart) => (x.2.nse.map (·.1)) = some i.inst)
      | .feGlobal | .feSlot => s.feBusy
      | .cruise => s.flt.cruise.isSome
      | _ => false)

/-! ## ENABLE -/

/-- A code in which a block operates: RUNNING or a block-specific one (R270). -/
def runState (st : Nat) : Bool := st = 3 || 0x80 ≤ st

/-- An idle block with ENABLE 0 enters DISABLED (R271). -/
def State.disableIdle (s : State) (p : Nat) : State :=
  if !s.on p R.pgCtrlEnable && runState (s.rd p R.pgStatusState) && !s.busy p then
    (((s.setReady p false).setState p 4)).settleReady
  else s

/-- Page p operates: READY in state st, or DISABLED while ENABLE is 0 (R271, R272). -/
def State.enterRun (s : State) (p st : Nat) : State :=
  if s.on p R.pgCtrlEnable then (s.setState p st).setReady p true else s.setState p 4

/-! ## Training and phases (R383 to R389) -/

/-- Ports whose SERDES is READY begin to train, in the standard order after FE_GLOBAL (R385, R386). -/
def State.startTraining (s : State) : State :=
  let go := s.on P.rst R.rstOrder || s.ready P.fe
  let one := fun (t : State) (p sd : Nat) =>
    if go && t.pagePresent p && !t.gated p && t.ready sd && t.rd p R.pgStatusState ≤ 1 then t.setState p 2 else t
  let s1 := s.each (List.range 16) (fun t p => one t (P.port p) (P.serdes (p / 4)))
  s1.each (List.range 8) (fun t f => one t (P.fport f) (P.serdes (f / 2)))

/-- A present page is READY or FAULT. -/
def State.upOrFault (s : State) (p : Nat) : Bool := !s.pagePresent p || s.ready p || s.on p R.pgStatusFault

/-- The blocks whose initialisation a phase of R385 covers: PLATFORM, IO, MEMORY, COMPUTE. -/
def phasePages : Nat → List Nat
  | 2 => [P.clk, P.pwr, P.thm, P.plant]
  | 3 => ((List.range 4).map (fun d => [P.iod d, P.serdes d, P.ptp d, P.parse (2 * d), P.parse (2 * d + 1), P.classp (2 * d),
      P.classp (2 * d + 1), P.flow d, P.station d, P.trig d, P.hold d, P.verdict d, P.rate d, P.slowpath d])).flatten
  | 4 => (List.range 8).map P.hbm
  | 5 => [P.trust, P.part, P.fe] ++ (List.range 16).map P.cl ++ (List.range 8).map P.nse
  | _ => []

/-- A phase has ended. -/
def State.phaseDone (s : State) (n : Nat) : Bool :=
  if n = 0 then s.trust.stage1.isSome
  else if n = 1 then s.ready P.hk
  else if n = 6 then !s.rst.restoring && s.mods.unverified = []
  else (phasePages n).all s.upOrFault

/-- Every present block but PORT and FPORT is READY or FAULT, and every port trains (R389). -/
def State.complete (s : State) : Bool :=
  bringOrder.all (fun x => match pageAt (x.1 / 0x1000) with
    | none => true
    | some i => !i.present s.part.code || (match i.kind with
      | .port | .fport => 2 ≤ s.rd x.1 R.pgStatusState
      | .fab | .fabRoute | .fabTime | .fabEpoch | .dev | .rst => true
      | _ => s.upOrFault x.1))

/-- RST_PHASE as it stands: the first phase of the order in force that has not ended (R385, R386); in TEST_MODE ROM (20
R1014). -/
def State.phase (s : State) : Nat :=
  if s.part.straps.testMode then 0
  else if s.complete then 7
  else ((if s.on P.rst R.rstOrder then [0, 1, 2, 3, 4, 5, 6] else [0, 1, 2, 4, 5, 3, 6]).find? (fun n => !s.phaseDone n)).getD 6

/-- Run f, then record a change of phase (RST page causes [8] and [9]). -/
def State.withPhase (s : State) (f : State → State) : State :=
  let t := f s
  let p := t.phase
  if p = s.rd P.rst R.rstPhase then t
  else
    let t1 := (t.wr P.rst R.rstPhase p).cause P.rst 8
    if p = 7 then t1.cause P.rst 9 else t1

end Sys2Proof.Machine
end

