-- ==== Sys2Proof/Machine/Parser.lean ====
section
/-! DEFINITION. Machine/Parser.lean: parse graphs, the packet key record and the choice of a class (11). -/

namespace Sys2Proof.Machine

/-- Byte i of a byte string, 0 beyond its end. -/
def byteAt (w : Bytes) (i : Nat) : Nat := ((w[i]?).map (·.toNat)).getD 0

/-- Big-endian u16 at i. -/
def u16be (w : Bytes) (i : Nat) : Nat := byteAt w i * 256 + byteAt w (i + 1)

/-- Big-endian u32 at i. -/
def u32be (w : Bytes) (i : Nat) : Nat := u16be w i * 65536 + u16be w (i + 2)

/-! ## The built-in graph (R537) -/

/-- A parse state's 64 bytes. Length: fixed, (offset, mask, shift, scale); select: (offset, width); default: 0x80
accepts; transitions (value, next), next 0x40 accepts; extracts (source, length, destination, first only). -/
def mkState (kind fixed : Nat) (len : Nat × Nat × Nat × Nat) (sel : Nat × Nat) (dflt dreason ereason : Nat)
    (trans : List (Nat × Nat)) (exts : List (Nat × Nat × Nat × Nat)) : Bytes :=
  padTo 64 (padTo 42 ([0, 1, BitVec.ofNat 8 kind, BitVec.ofNat 8 fixed, BitVec.ofNat 8 len.1, BitVec.ofNat 8 len.2.1,
      BitVec.ofNat 8 (len.2.2.1 + 16 * len.2.2.2), BitVec.ofNat 8 sel.1, BitVec.ofNat 8 sel.2, BitVec.ofNat 8 dflt,
      BitVec.ofNat 8 dreason, BitVec.ofNat 8 ereason] ++
    (trans.map (fun (t : Nat × Nat) => leBytes 2 t.1 ++ leBytes 2 (if sel.2 = 2 then 0xFFFF else 0xFF) ++ leBytes 1 (128 + t.2))).flatten) ++
    (exts.map (fun (e : Nat × Nat × Nat × Nat) => leBytes 1 e.1 ++ leBytes 1 e.2.1 ++ leBytes 1 e.2.2.1 ++ leBytes 1 e.2.2.2)).flatten)

/-- EtherType transitions: 802.1Q and 802.1ad to a state, IPv4, IPv6, PTP. -/
def etherTrans (vlan : Nat) : List (Nat × Nat) :=
  (if vlan = 0 then [] else [(0x8100, vlan), (0x88A8, vlan)]) ++ [(0x0800, 3), (0x86DD, 4), (0x88F7, 11)]

/-- Next-header transitions of IPv6 and its extension headers. -/
def nextHdr : List (Nat × Nat) := [(0, 5), (43, 6), (44, 7), (60, 6), (6, 8), (17, 9)]

/-- Next headers that may follow an extension header (six transitions at most: Hop-by-Hop comes first only). -/
def laterHdr : List (Nat × Nat) := [(43, 6), (44, 7), (60, 6), (6, 8), (17, 9)]

/-- The built-in states: 0 Ethernet, 1 and 2 VLAN, 3 IPv4, 4 IPv6, 5 Hop-by-Hop, 6 Routing and Destination
Options, 7 Fragment, 8 TCP, 9 UDP, 10 VXLAN, 11 PTP. Addresses, VLANs and ports are filled by KIND (R515, R516). -/
def builtinStates : List Bytes :=
  [mkState 1 14 (0, 0, 0, 0) (12, 2) 0x80 0 0 (etherTrans 1) [(0, 6, 0, 1), (6, 6, 6, 1), (12, 2, 16, 0)],
   mkState 2 4 (0, 0, 0, 0) (2, 2) 0x80 0 0 (etherTrans 2) [(2, 2, 16, 0)],
   mkState 2 4 (0, 0, 0, 0) (2, 2) 0x80 0 0 (etherTrans 0) [(2, 2, 16, 0)],
   mkState 3 0 (0, 0x0F, 0, 2) (9, 1) 0x80 0 0 [(6, 8), (17, 9)] [],
   mkState 4 40 (0, 0, 0, 0) (6, 1) 0x80 0 0 nextHdr [],
   mkState 0 8 (1, 0xFF, 0, 3) (0, 1) 0x80 0 2 laterHdr [(0, 1, 21, 0)],
   mkState 0 8 (1, 0xFF, 0, 3) (0, 1) 0x80 0 0 laterHdr [(0, 1, 21, 0)],
   mkState 0 8 (0, 0, 0, 0) (0, 1) 0x80 0 1 laterHdr [(0, 1, 21, 0)],
   mkState 5 0 (12, 0xF0, 4, 2) (0, 0) 0x80 0 0 [] [],
   mkState 5 8 (0, 0, 0, 0) (2, 2) 0x80 0 0 [(4789, 10), (319, 11), (320, 11)] [],
   mkState 6 8 (0, 0, 0, 0) (0, 0) 0 0 0 [] [(4, 3, 65, 1)],
   mkState 7 34 (0, 0, 0, 0) (0, 0) 0x80 0 0 [] []]

/-! ## The walk (R511 to R516) -/

/-- The parser's progress over one packet. -/
structure Walk where
  off : Nat
  depth : Nat
  n : Nat
  reason : Nat
  key : Bytes
  /-- key bytes written by extracts, as a mask -/
  written : Nat
  stop : Bool
  next : Nat
  ip : Option (Nat × Nat)
  ptp : Option Nat
  deriving DecidableEq, Repr

/-- Record a reason; any but 0x01 and 0x02 stops the parse (R512). -/
def Walk.raise (w : Walk) (r : Nat) : Walk :=
  { w with reason := if w.reason = 0 then r else w.reason, stop := w.stop || (r ≠ 1 && r ≠ 2) }

/-- Raise r if b holds and the parse goes on. -/
def Walk.raiseIf (w : Walk) (b : Bool) (r : Nat) : Walk := if b && !w.stop then w.raise r else w

/-- Key record byte string written at o. -/
def Walk.put (w : Walk) (o : Nat) (bs : Bytes) : Walk := { w with key := putAt w.key o bs }

/-- Set flag bits of key byte 19. -/
def Walk.flag (w : Walk) (m : Nat) : Walk := w.put 19 (leBytes 1 (byteAt w.key 19 ||| m))

/-- One's complement sum of the 16-bit words of a header. -/
def onesSum (h : Bytes) : Nat :=
  let t := ((List.range ((h.length + 1) / 2)).map (fun i => u16be h (2 * i))).foldl (· + ·) 0
  let t1 := t % 65536 + t / 65536
  t1 % 65536 + t1 / 65536

/-- A reason's flags (FRAG_FIRST, FRAG_LATER, IP_OPTIONS), given the fragment offset. -/
def Walk.ipReason (w : Walk) (r fragOff : Nat) : Walk :=
  if r = 1 then w.flag (if fragOff = 0 then 16 else 32) else if r = 2 then w.flag 64 else w

/-- The checks of a header's KIND (Reasons table): malformed headers first (log entry 40). -/
def Walk.check (w : Walk) (win : Bytes) (flen kind off len : Nat) : Walk :=
  let h := win.drop off
  if kind = 1 then w.raiseIf (byteAt h 6 % 2 = 1) 0x27
  else if kind = 3 then
    let ihl := byteAt h 0 % 16
    let total := u16be h 2
    let frag := u16be h 6 % 16384
    let w1 := ((w.raiseIf (byteAt h 0 / 16 ≠ 4 || ihl < 5 || total < 4 * ihl) 0x21).raiseIf (onesSum (h.take len) ≠ 0xFFFF) 0x22).raiseIf
      (flen < off + total) 0x25
    if w1.stop then w1
    else
      let w2 := if frag ≠ 0 then (w1.ipReason 1 (frag % 8192)).raise 1 else w1
      if 5 < ihl then (w2.ipReason 2 0).raise 2 else w2
  else if kind = 4 then
    (w.raiseIf (byteAt h 0 / 16 ≠ 6) 0x23).raiseIf (flen < off + 40 + u16be h 4) 0x25
  else if kind = 5 then
    let proto := byteAt w.key 21
    (w.raiseIf (proto = 6 && byteAt h 12 / 16 < 5) 0x24).raiseIf (proto = 17 && u16be h 4 < 8) 0x24
  else w

/-- What a header's KIND fills (R515, R516). -/
def Walk.fill (w : Walk) (win : Bytes) (kind off len : Nat) : Walk :=
  let h := win.drop off
  let mapped := fun (a : Bytes) => zeros 10 ++ [0xFF, 0xFF] ++ padTo 4 a
  if kind = 2 then
    let c := byteAt w.key 19 % 4
    let w1 := if c = 0 then w.put 12 (padTo 2 (h.take 2)) else if c = 1 then w.put 14 (padTo 2 (h.take 2)) else w
    w1.put 19 (leBytes 1 (putBits (byteAt w1.key 19) 0 2 (min 3 (c + 1))))
  else if kind = 3 then
    let w1 := (w.put 20 [4, BitVec.ofNat 8 (byteAt h 9), BitVec.ofNat 8 (byteAt h 8), BitVec.ofNat 8 (byteAt h 1)]).put 24
      (mapped ((h.drop 12).take 4) ++ mapped ((h.drop 16).take 4))
    { w1.put 104 (leBytes 1 off) with ip := if w.ip.isSome then w.ip else some (off, 4) }
  else if kind = 4 then
    let w1 := (w.put 20 [6, BitVec.ofNat 8 (byteAt h 6), BitVec.ofNat 8 (byteAt h 7),
      BitVec.ofNat 8 (byteAt h 0 % 16 * 16 + byteAt h 1 / 16)]).put 24 (padTo 32 ((h.drop 8).take 32))
    { w1.put 104 (leBytes 1 off) with ip := if w.ip.isSome then w.ip else some (off, 6) }
  else if kind = 5 then
    let proto := byteAt w.key 21
    let w1 := if proto = 6 || proto = 17 then w.put 56 (padTo 4 (h.take 4)) else w
    (if proto = 6 then w1.put 60 (leBytes 1 (byteAt h 13)) else w1).put 105 (leBytes 1 off)
  else if kind = 6 then
    (w.put 61 (leBytes 1 w.depth)).put 106 (leBytes 1 (if byteAt w.key 106 = 0 then off + len else byteAt w.key 106))
  else if kind = 7 then
    { w.flag (if byteAt h 0 % 16 ≤ 3 then 4 else 8) with ptp := if w.ptp.isSome then w.ptp else some off }
  else w

/-- Extract j of a state (R513, R514). -/
def Walk.extract (w : Walk) (win st : Bytes) (off j : Nat) : Walk :=
  let o := 42 + 4 * j
  let n := byteAt st (o + 1) % 32
  let dst := byteAt st (o + 2) % 128
  let m := (2 ^ n - 1) <<< dst
  if n = 0 || (byteAt st (o + 3) % 2 = 1 && (w.written &&& m) ≠ 0) then w
  else { w.put dst (padTo n ((win.drop (off + byteAt st o)).take n)) with written := w.written ||| m }

/-- One header in state st (R511). -/
def Walk.header (w0 : Walk) (win : Bytes) (flen : Nat) (st : Bytes) : Walk :=
  let off := w0.off
  let w1 := { w0 with n := w0.n + 1 }
  let er := byteAt st 11
  let w2 := if er = 0 then w1 else (w1.ipReason er (u16be (win.drop off) 2 / 8)).raise er
  if w2.stop then w2
  else
    let len := byteAt st 3 + ((((byteAt win (off + byteAt st 4)) &&& byteAt st 5) >>> (byteAt st 6 % 8)) <<< (byteAt st 6 / 16 % 8))
    let kind := byteAt st 2 % 8
    if 256 < off + len then w2.raise 0x04
    else if flen < off + len then w2.raise 0x20
    else
      let w3 := w2.check win flen kind off len
      if w3.stop then w3
      else
        let w4 := if kind = 6 then { w3 with depth := w3.depth + 1 } else w3
        if 4 < w4.depth then w4.raise 0x03
        else
          let w5 := (List.range 4).foldl (fun w j => w.extract win st off j) (w4.fill win kind off len)
          let sw := byteAt st 8 % 4
          let so := off + byteAt st 7
          let sel := if sw = 1 then byteAt win so else if sw = 2 then u16be win so else 0
          let w6 := (({ w5 with off := off + len } : Walk).put 107 (leBytes 1 (off + len))).put 108 (leBytes 1 w5.n)
          match (List.range 6).find? (fun i => byteAt st (16 + 5 * i) / 128 = 1 &&
              (sel &&& fieldLE st (14 + 5 * i) 2) = fieldLE st (12 + 5 * i) 2) with
          | some i =>
            let t := byteAt st (16 + 5 * i)
            if t / 64 % 2 = 1 then { w6 with stop := true } else { w6 with next := t % 64 }
          | none =>
            if byteAt st 10 ≠ 0 then { w6.raise (byteAt st 10) with stop := true }
            else if byteAt st 9 / 128 = 1 then { w6 with stop := true }
            else { w6 with next := byteAt st 9 % 64 }

/-- The walk over a graph: at most 16 headers; a state that cannot be read raises 0x06. -/
def parseLoop (look : Nat → Option Bytes) (win : Bytes) (flen : Nat) : Nat → Walk → Walk
  | 0, w => w.raise 0x05
  | k + 1, w =>
    match look w.next with
    | none => w.raise 0x06
    | some st =>
      let w1 := w.header win flen st
      if w1.stop then w1 else parseLoop look win flen k w1

/-- The pipe of a network port (00 R16). -/
def pipeOf (p : Nat) : Nat := p / 2

/-- A generation's state n as a pipe reads it. -/
def RuleSt.look (r : RuleSt) (pipe : Nat) (g : GenSet) (n : Nat) : Option Bytes :=
  if g.builtin then builtinStates[n]?
  else (g.states[n]?).bind (fun p => if r.badStates.contains (pipe, p) then none else (aget r.states p).map (·.bytes))

/-- Parse a frame in generation g: port, whether a received tag follows the source address (R519). -/
def RuleSt.parse (r : RuleSt) (g : GenSet) (gen port : Nat) (frame : Bytes) (tagSeen : Bool) : Walk :=
  -- a tag that stays in the frame is skipped by the parse
  let body := if tagSeen then frame.take 12 ++ frame.drop 28 else frame
  let key0 := putAt (putAt (zeros 128) 18 (leBytes 1 (port % 64))) 19 (leBytes 1 (if tagSeen then 128 else 0))
  let w0 : Walk := ⟨0, 0, 0, 0, key0, 0, false, g.start, none, none⟩
  let w := parseLoop (r.look (if port < 16 then pipeOf port else 0) g) (body.take 256) body.length 16 w0
  let w1 := ((w.put 62 (leBytes 2 frame.length)).put 109 (leBytes 1 w.reason)).put 121 (leBytes 1 gen)
  let sh := fun (o : Nat) => if tagSeen && 12 ≤ o then o + 16 else o
  { w1 with ip := w1.ip.map (fun x => (sh x.1, x.2)), ptp := w1.ptp.map sh }

/-! ## Classification (R520 to R524) -/

/-- The key bytes a profile mask selects, padded to 48 bytes. -/
def profileKey (mask key : Bytes) : Bytes :=
  padTo 48 ((List.range 128).filterMap (fun i => if (byteAt mask (i / 8)).testBit (i % 8) then key[i]? else none))

/-- The RANGE vector of a key under generation value g (R522). -/
def RuleSt.rangeVec (r : RuleSt) (g : Nat) (key : Bytes) : Nat :=
  r.ranges.foldl (fun v (x : Nat × Masked) =>
    let b := x.2.bytes
    let k := u16be key (byteAt b 1)
    let inside := fieldLE b 4 2 ≤ k && k ≤ fieldLE b 6 2
    if x.2.mask.testBit g && (inside != (byteAt b 2 % 2 = 1)) then v + 2 ^ x.1 else v) 0

/-- A candidate: priority, rank among equal priorities (lower wins), class, whether exact. -/
structure Cand where
  prio : Nat
  rank : Nat
  cls : Nat
  exact : Bool
  deriving DecidableEq, Repr

/-- Candidates of the exact table and the ternary bank of a pipe; an entry found bad there is a miss (R543). -/
def RuleSt.cands (r : RuleSt) (pipe : Nat) (gs : GenSet) (g : Nat) (key : Bytes) : List Cand :=
  let ex := (List.range gs.profiles.length).flatMap (fun k =>
    match (gs.profiles[k]?).bind (fun p => aget r.profiles p) with
    | none => []
    | some pr =>
      let want := profileKey pr.bytes key
      r.exact.filterMap (fun (x : Nat × Masked) =>
        let b := x.2.bytes
        if x.2.mask.testBit g && !r.badRules.contains (pipe, x.1) && byteAt b 0 % 4 = k && x.2.tag = pr.bytes && b.drop 16 = want then
          some ⟨fieldLE b 2 2, k, byteAt b 4, true⟩
        else none))
  let tk := gs.tsel.map (fun o => BitVec.ofNat 8 (byteAt key o.toNat)) ++ (key.drop 112).take 8
  let te := r.ternary.filterMap (fun (x : Nat × Masked) =>
    let b := x.2.bytes
    if x.2.mask.testBit g && !r.badRules.contains (pipe, 0x10000 + x.1) && (List.range 40).all (fun i => (byteAt tk i &&& byteAt b (40 + i)) = byteAt b i) then
      some ⟨fieldLE b 82 2, 4 + x.1, byteAt b 84, false⟩
    else none)
  ex ++ te

/-- The winner (R524). -/
def bestCand (l : List Cand) : Option Cand :=
  l.foldl (fun b c => match b with
    | none => some c
    | some x => if x.prio < c.prio || (c.prio = x.prio && c.rank < x.rank) then some c else some x) none

/-! ## State access -/

/-- Generation value g's tables. -/
def State.genSet (s : State) (g : Nat) : Option GenSet := aget s.rules.gens g

/-- s with generation g's tables changed. -/
def State.modGen (s : State) (g : Nat) (f : GenSet → GenSet) : State :=
  { s with rules := { s.rules with gens := amod s.rules.gens g f } }

/-- Change generation g's drain counter (R533). -/
def State.genDrain (s : State) (g : Nat) (d : Int) : State :=
  s.modGen g (fun x => { x with drain := ((x.drain : Int) + d).toNat })

/-- The class record of class c in generation g. -/
def State.classRec (s : State) (g c : Nat) : Bytes :=
  match s.genSet g with
  | none => zeros 64
  | some gs => (gs.classes.drop (64 * c)).take 64

end Sys2Proof.Machine
end

