-- ==== Sys2Proof/Machine/Rulesets.lean ====
section
/-! DEFINITION. Machine/Rulesets.lean: ruleset images, loads, commits, release of generations (11), class records
and action sets (13). -/

namespace Sys2Proof.Machine

open Host (Outcome)

/-! ## Class records and action sets (13 R617 to R620) -/

/-- Port p is one of the part's network ports. -/
def State.portExists (s : State) (p : Nat) : Bool := p < 4 * s.part.code.ioDies

/-- Action-set fields. -/
def actDisp (a : Bytes) : Nat := byteAt a 0 % 4
def actBit (a : Bytes) (b : Nat) : Bool := (byteAt a 0).testBit b
def actRedirect (a : Bytes) : Nat := byteAt a 1
def actMirror (a : Bytes) : Nat := byteAt a 2
def actDscp (a : Bytes) : Nat := byteAt a 3
def actBucket (a : Bytes) : Nat := fieldLE a 4 2

/-- The ports an action set uses are on the part and granted to the partition (R620). -/
def State.actPortsOk (s : State) (p : Nat) (a : Bytes) : Bool :=
  let ok := fun (x : Nat) => x < 16 && s.portExists x && (s.portGrant p).testBit x
  (actDisp a ≠ 1 || ok (actRedirect a)) && (!actBit a 2 || actMirror a = 62 || ok (actMirror a))

/-- No reserved encoding in an action set. flags: TO_FLOW and USE_THRESHOLD may be set (verdict records). -/
def actEncOk (a : Bytes) (flags : Bool) : Bool :=
  !actBit a 7 && (flags || (!actBit a 5 && !actBit a 6)) && byteAt a 1 < 64 && byteAt a 2 < 64 && byteAt a 3 < 64 &&
  fieldLE a 6 2 = 0

/-- Class record fields. -/
def recPart (r : Bytes) : Nat := byteAt r 1 % 16
def recMode (r : Bytes) : Nat := byteAt r 2 % 4
def recExpire (r : Bytes) : Nat := byteAt r 2 / 4 % 4
def recMismatch (r : Bytes) : Nat := byteAt r 2 / 16 % 4
def recTrigger (r : Bytes) : Nat := byteAt r 3 % 8
def recFlowKey (r : Bytes) : Nat := byteAt r 4 % 8
def recBudget (r : Bytes) : Nat := fieldLE r 16 2
def recDefault (r : Bytes) : Bytes := (r.drop 20).take 8
def recBelow (r : Bytes) : Bytes := (r.drop 28).take 8

/-- A class record is acceptable (R617). -/
def State.classOk (s : State) (r : Bytes) : Bool :=
  let tr := recTrigger r
  let resv := byteAt r 0 / 8 = 0 && byteAt r 1 < 16 && byteAt r 2 < 128 && byteAt r 3 < 8 && (byteAt r 4 &&& 0x88) = 0 &&
    byteAt r 7 < 16 && fieldLE r 18 2 = 0 && (r.drop 36).all (· = 0)
  byteAt r 0 % 2 = 0 ||
  (resv && recMode r ≠ 3 && recExpire r ≠ 3 && recMismatch r ≠ 3 && tr < 6 && recFlowKey r < 5 &&
   (tr ≠ 2 || fieldLE r 8 2 ≠ 0) && (tr ≠ 5 || fieldLE r 10 2 ≠ 0) &&
   (tr ≠ 4 || (fieldLE r 12 4 ≠ 0 && fieldLE r 12 4 < 2 ^ 31)) &&
   (recMode r ≠ 2 || (1 ≤ recBudget r && recBudget r ≤ 500)) &&
   !(recFlowKey r = 0 && (tr = 2 || tr = 4 || tr = 5)) &&
   actEncOk (recDefault r) false && actEncOk (recBelow r) false &&
   s.actPortsOk (recPart r) (recDefault r) && s.actPortsOk (recPart r) (recBelow r))

/-! ## Images (R517, R526) -/

/-- Section offsets and total size of an image, from its header. -/
structure RsLayout where
  profiles : Nat
  reasons : Nat
  range : Nat
  parse : Nat
  exact : Nat
  ternary : Nat
  cls : Nat
  total : Nat

/-- The layout its counts give. -/
def rsLayout (h : Bytes) : RsLayout :=
  let pad := fun n => roundUp n 64
  let a := 64 + 64
  let b := a + 256
  let c := b + pad (8 * byteAt h 10)
  let d := c + 64 * byteAt h 9
  let e := d + 64 * fieldLE h 12 4
  let f := e + pad (96 * fieldLE h 16 2)
  ⟨64, a, b, c, d, e, f, f + 16384⟩

/-- A reason code a parse state may raise. -/
def reasonOk (r : Nat) : Bool := r ≤ 6 || (0x20 ≤ r && r ≤ 0x27)

/-- A parse state is acceptable (R517), n states in the image. -/
def stateOk (n : Nat) (st : Bytes) : Bool :=
  byteAt st 2 < 8 && (byteAt st 6 &&& 0x88) = 0 && byteAt st 6 / 16 ≤ 3 && byteAt st 8 < 3 && (byteAt st 9 &&& 0x40) = 0 &&
  reasonOk (byteAt st 10) && reasonOk (byteAt st 11) &&
  (byteAt st 10 ≠ 0 || byteAt st 9 / 128 = 1 || byteAt st 9 % 64 < n) &&
  (List.range 6).all (fun i =>
    let t := byteAt st (16 + 5 * i)
    t / 128 = 0 || t / 64 % 2 = 1 || t % 64 < n) &&
  (List.range 4).all (fun j =>
    let o := 42 + 4 * j
    let len := byteAt st (o + 1)
    let dst := byteAt st (o + 2)
    len = 0 || (len ≤ 16 && byteAt st o + len ≤ 256 && dst + len ≤ 104 && (dst + len ≤ 62 || 64 ≤ dst) && byteAt st (o + 3) < 2)) &&
  (st.drop 58).all (· = 0)

/-- States that may follow a state (none where the walk stops there). -/
def stateNexts (st : Bytes) : List Nat :=
  let er := byteAt st 11
  if er ≠ 0 && er ≠ 1 && er ≠ 2 then []
  else
    ((List.range 6).filterMap (fun i =>
      let t := byteAt st (16 + 5 * i)
      if t / 64 = 2 then some (t % 64) else none)) ++
    (if byteAt st 10 = 0 && byteAt st 9 / 128 = 0 then [byteAt st 9 % 64] else [])

/-- The states on some path after k more headers. -/
def reachAfter (sts : List Bytes) : Nat → List Nat → List Nat
  | 0, l => l
  | k + 1, l => reachAfter sts k ((List.range sts.length).filter (fun n =>
      l.any (fun x => ((sts[x]?).map stateNexts).getD [] |>.contains n)))

/-- Every image check, first failure first: reason and entry index (R526). -/
def State.rsFault (s : State) (im : Bytes) : Option (Nat × Nat) :=
  let h := im.take 64
  let l := rsLayout h
  let np := byteAt h 9
  let at_ := fun (o n k : Nat) => (im.drop (o + n * k)).take n
  let states := (List.range np).map (at_ l.parse 64)
  let firstBad := fun (n : Nat) (ok : Nat → Bool) => (List.range n).find? (fun k => !ok k)
  if fieldLE h 0 4 ≠ 0x31535251 || fieldLE h 4 2 ≠ 1 then some (0x40, 0)
  else if 4 < byteAt h 7 || np = 0 || 64 < np || 64 < byteAt h 10 || 65536 < fieldLE h 12 4 || 4096 < fieldLE h 16 2 ||
      np ≤ byteAt h 8 || byteAt h 11 ≠ 0 || fieldLE h 18 2 ≠ 0 || (h.drop 52).any (· ≠ 0) || im.length ≠ l.total then some (0x41, 0)
  else match firstBad np (fun k => stateOk np (at_ l.parse 64 k)) with
  | some k => some (0x42, k)
  | none =>
    if reachAfter states 16 [byteAt h 8] ≠ [] then some (0x42, byteAt h 8)
    else match firstBad 4 (fun k => byteAt h 7 ≤ k || sumN ((at_ l.profiles 16 k).map (fun b =>
        ((List.range 8).filter (fun i => b.toNat.testBit i)).length)) ≤ 48) with
    | some k => some (0x43, k)
    | none => match firstBad (fieldLE h 12 4) (fun k =>
        let e := at_ l.exact 64 k
        (byteAt e 0 &&& 0x7C) = 0 && byteAt e 0 % 4 < byteAt h 7 && ((e.drop 5).take 11).all (· = 0)) with
      | some k => some (0x43, k)
      | none => match firstBad (fieldLE h 16 2) (fun k =>
          let e := at_ l.ternary 96 k
          (List.range 40).all (fun i => (byteAt e i &&& byteAt e (40 + i)) = byteAt e i) && byteAt e 81 < 2 && (e.drop 85).all (· = 0)) with
        | some k => some (0x43, k)
        | none => match firstBad (byteAt h 10) (fun k =>
            let e := at_ l.range 8 k
            byteAt e 0 < 64 && byteAt e 1 ≤ 102 && byteAt e 2 < 2 && byteAt e 3 = 0) with
          | some k => some (0x43, k)
          | none =>
            if ((h.drop 20).take 32).any (fun b => decide (112 ≤ b.toNat)) then some (0x43, 0)
            else match firstBad 64 (fun r =>
              let e := at_ l.reasons 4 r
              byteAt e 0 < 3 && byteAt e 1 < 16 && fieldLE e 2 2 = 0 && (byteAt e 0 ≠ 2 || r < 0x20) &&
                !(0x10 ≤ r && r < 0x20 && e ≠ zeros 4)) with
            | some r => some (0x44, r)
            | none => (firstBad 256 (fun c => s.classOk (at_ l.cls 64 c))).map (fun c => (0x45, c))

/-! ## Building a generation (R509, R510, R520, R525 to R529) -/

/-- Clear generation value g's bit everywhere and free what no generation uses (R525, R528, R535). -/
def clearBit (g : Nat) (l : List (Nat × Masked)) : List (Nat × Masked) :=
  (l.map (fun (x : Nat × Masked) => (x.1, { x.2 with mask := putBits x.2.mask g 1 0 }))).filter (fun x => x.2.mask ≠ 0)

/-- The tables without generation value g. -/
def RuleSt.without (r : RuleSt) (g : Nat) : RuleSt :=
  { r with states := clearBit g r.states, profiles := clearBit g r.profiles, exact := clearBit g r.exact,
           ternary := clearBit g r.ternary, ranges := clearBit g r.ranges, gens := adel r.gens g }

/-- Set bit g on an equal held entry, or take the first free index that may hold it (R510). -/
def takeEntry (l : List (Nat × Masked)) (slots : List Nat) (g : Nat) (bytes tag : Bytes) : Option (List (Nat × Masked) × Nat) :=
  match l.find? (fun x => x.2.bytes = bytes && x.2.tag = tag) with
  | some (k, m) => some (aput l k { m with mask := m.mask ||| 2 ^ g }, k)
  | none => (slots.find? (fun k => (aget l k).isNone)).map (fun k => (aput l k ⟨2 ^ g, bytes, tag⟩, k))

/-- Take every entry of a list, giving the physical indices in order. -/
def takeAll (slots : Bytes → Bytes → List Nat) (g : Nat) : List (Bytes × Bytes) → List (Nat × Masked) →
    Option (List (Nat × Masked) × List Nat)
  | [], l => some (l, [])
  | (b, t) :: bs, l =>
    match takeEntry l (slots b t) g b t with
    | none => none
    | some (l1, k) => (takeAll slots g bs l1).map (fun r => (r.1, k :: r.2))

/-- The eight places of an exact entry (R520): two buckets of four. -/
def exactSlots (e mask : Bytes) : List Nat :=
  let h := crc32c (mask ++ e.drop 16)
  let b0 := h % 16384
  let b1 := h / 16384 % 16384
  ((List.range 4).map (fun w => 4 * b0 + w)) ++ ((List.range 4).map (fun w => 4 * b1 + w))

/-- Build generation value g from a checked image; an error is a NO_RESOURCE kind (R527). -/
def RuleSt.build (r : RuleSt) (g : Nat) (im : Bytes) : Except Nat RuleSt :=
  let h := im.take 64
  let l := rsLayout h
  let at_ := fun (o n k : Nat) => (im.drop (o + n * k)).take n
  let anyOf := fun (n : Nat) (_ _ : Bytes) => List.range n
  let states := (List.range (byteAt h 9)).map (fun k => (putAt (at_ l.parse 64 k) 0 [0], ([] : Bytes)))
  let profs := (List.range (byteAt h 7)).map (fun k => (at_ l.profiles 16 k, ([] : Bytes)))
  let tsel := (h.drop 20).take 32
  let ranges := (List.range (byteAt h 10)).map (at_ l.range 8)
  let exact := ((List.range (fieldLE h 12 4)).map (at_ l.exact 64)).filter (fun e => byteAt e 0 / 128 = 1)
  let exact1 := exact.map (fun e => (putAt e 1 [0], at_ l.profiles 16 (byteAt e 0 % 4)))
  let tern := (((List.range (fieldLE h 16 2)).map (at_ l.ternary 96)).filter (fun e => byteAt e 81 = 1)).map (fun e => (putAt e 80 [0], tsel))
  match takeAll (anyOf 64) g states r.states with
  | none => .error 0x41
  | some (st, sidx) =>
    match takeAll exactSlots g exact1 r.exact with
    | none => .error 0x42
    | some (ex, xidx) =>
      match takeAll (anyOf 4096) g tern r.ternary with
      | none => .error 0x43
      | some (te, tidx) =>
        match takeAll (fun b _ => [byteAt b 0]) g (ranges.map (fun b => (b, ([] : Bytes)))) r.ranges with
        | none => .error 0x44
        | some (ra, _) =>
          match takeAll (anyOf 8) g profs r.profiles with
          | none => .error 0x46
          | some (pr, pidx) =>
            .ok { r with
              states := st, exact := ex, ternary := te, ranges := ra, profiles := pr, building := some g
              badStates := r.badStates.filter (fun x => !sidx.contains x.2)
              badRules := r.badRules.filter (fun x =>
                if x.2 < 0x10000 then !xidx.contains x.2 else !tidx.contains (x.2 - 0x10000))
              gens := aput r.gens g ⟨false, byteAt h 8, byteAt h 6, sidx, pidx, tsel, (im.drop l.reasons).take 256,
                (im.drop l.cls).take 16384, 0⟩ }

/-- The tables with no building generation. -/
def RuleSt.discard (r : RuleSt) : RuleSt :=
  match r.building with
  | none => r
  | some g => { r.without g with building := none }

/-- RULESET_LOAD BUILD (0x57 mode 0). A load waits for a sweep in progress (R529) and for its host side. -/
def rulesetLoadBuild (i : Nat) (s : State) : State :=
  match s.entry 0 i with
  | none => s
  | some e0 =>
    if s.rules.sweep ≠ [] || !s.hostGo 0 [e0.fld 16 8] then s
    else s.withCmd 0 i 0x57 (fun t e =>
      if e.fld 32 1 % 2 ≠ 0 then s
      else if t.spPoisoned 0 (e.fld 16 8) (e.fld 24 8) then t.memError 0 i 0 (spaceAddr (e.fld 16 8))
      else
        let im := t.spRead 0 (e.fld 16 8) (e.fld 24 8)
        let t0 := { t.hostSide (e.fld 16 8) (e.fld 24 8) false with rules := t.rules.discard }
        match t0.rsFault im with
        | some (r, k) => t0.finish 0 i St.imageRejected (r + 256 * (k % 2 ^ 24))
        | none =>
          let g := (t0.rules.cur + 1) % 8
          match t0.rules.build g im with
          | .error k => t0.finish 0 i St.noResource k
          | .ok r => ({ t0 with rules := r }).finish 0 i St.success g)

/-- RULESET_LOAD_BUILD. -/
def execRulesetLoadBuild (i : Nat) (s : State) : Outcome State Fault Refusal := .next (rulesetLoadBuild i s)

/-- RULESET_LOAD DISCARD (mode 1): R528. -/
def rulesetLoadDiscard (i : Nat) (s : State) : State :=
  s.withCmd 0 i 0x57 (fun t e =>
    if e.fld 32 1 % 2 ≠ 1 then s else ({ t with rules := t.rules.discard }).finishAny 0 i St.success)

/-- RULESET_LOAD_DISCARD. -/
def execRulesetLoadDiscard (i : Nat) (s : State) : Outcome State Fault Refusal := .next (rulesetLoadDiscard i s)

/-! ## Commit, drain, release (R530 to R535) -/

/-- RULESET_COMMIT (0x58). -/
def rulesetCommit (i : Nat) (s : State) : State :=
  s.withCmd 0 i 0x58 (fun t e =>
    if e.fld 16 1 % 8 ≠ t.rules.cur then t.finish 0 i St.badParam 16
    else match t.rules.building with
      | none => t.finish 0 i St.noResource 0x45
      | some g =>
        if 4 ≤ t.rules.live.length then t.finish 0 i St.noResource 0x40
        else ({ t with rules := { t.rules with cur := g, building := none, live := t.rules.live ++ [g] } }).finish 0 i St.success g)

/-- RULESET_COMMIT. -/
def execRulesetCommit (i : Nat) (s : State) : Outcome State Fault Refusal := .next (rulesetCommit i s)

/-- The oldest live generation drains and its counter reads zero (R534). -/
def generationRelease (s : State) : State :=
  match s.rules.live with
  | g :: c :: rest =>
    if ((s.genSet g).map (·.drain)).getD 0 = 0 then
      { s with rules := { s.rules with live := c :: rest, sweep := s.rules.sweep ++ [g] } }
    else s
  | _ => s

/-- GENERATION_RELEASE. -/
def execGenerationRelease (s : State) : Outcome State Fault Refusal := .next (generationRelease s)

/-- R535: the oldest pending sweep. -/
def releaseSweep (s : State) : State :=
  match s.rules.sweep with
  | [] => s
  | g :: rest => { s with rules := { s.rules.without g with sweep := rest } }

/-- RELEASE_SWEEP. -/
def execReleaseSweep (s : State) : Outcome State Fault Refusal := .next (releaseSweep s)

/-- R543: an entry with a parity error on the pipe that finds it. Indices below 64 are parse states, index 64 + c is the
classifier entry that CLASS_PARITY_INDEX numbers c. -/
def parseParity (pipe index : Nat) (s : State) : State :=
  let c := index - 64
  if 2 * s.part.code.ioDies ≤ pipe then s
  else if index < 64 then
    if (aget s.rules.states index).isNone || s.gated (P.parse pipe) then s
    else
      ({ s with rules := { s.rules with
          badStates := (pipe, index) :: s.rules.badStates.filter (· ≠ (pipe, index)) } }.wr (P.parse pipe) R.parseParityIndex index).cause
        (P.parse pipe) 8
  else if s.gated (P.classp pipe) ||
      (if c < 0x10000 then (aget s.rules.exact c).isNone else (aget s.rules.ternary (c - 0x10000)).isNone) then s
  else
    ({ s with rules := { s.rules with badRules := (pipe, c) :: s.rules.badRules.filter (· ≠ (pipe, c)) } }.wr (P.classp pipe)
      R.classParityIndex c).cause (P.classp pipe) 8

/-- PARSE_PARITY. -/
def execParseParity (pipe index : Nat) (s : State) : Outcome State Fault Refusal := .next (parseParity pipe index s)

end Sys2Proof.Machine
end

