-- ==== Sys2Proof/Machine/FlowTab.lean ====
section
/-! DEFINITION. Machine/FlowTab.lean: flow keys, flow contexts, caches and homes, the station table, and what every
packet, step and command does to them (12). -/

namespace Sys2Proof.Machine

/-! ## Keys and places (R559, R560, R1019) -/

/-- The flow key of a packet for partition p and selector fk, from its key record. -/
def flowKeyOf (p fk : Nat) (key : Bytes) : Bytes :=
  let cut := fun (o n : Nat) => padTo n ((key.drop o).take n)
  let vid := u16be key 12 % 4096
  let body :=
    if fk = 4 then [0, 0] ++ cut 0 12 ++ beBytes 2 vid
    else cut 21 1 ++ cut 20 1 ++ cut 24 32 ++ (if fk = 3 then [] else cut 56 4) ++ (if fk = 2 then cut 64 4 else [])
  padTo 48 (leBytes 1 p ++ leBytes 1 fk ++ body)

/-- The two buckets of a key among b buckets. -/
def bucketsOf (b : Nat) (k : Bytes) : Nat × Nat :=
  let b0 := crc32c (0 :: k) % b
  let b1 := crc32c (1 :: k) % b
  (b0, if b1 = b0 then b1 ^^^ 1 else b1)

/-- The 16 ways of a key, those of b0 first. -/
def waysOf (b : Nat) (k : Bytes) : List Nat :=
  let x := bucketsOf b k
  (List.range 8).map (fun w => 8 * x.1 + w) ++ (List.range 8).map (fun w => 8 * x.2 + w)

/-- Buckets of the flow table. -/
def State.flowBuckets (s : State) : Nat := 2 ^ (s.part.code.flowLog2 - 3)

/-- A flow handle. -/
def flowHandle (idx p : Nat) : Nat := idx % 2 ^ 28 + p % 16 * 2 ^ 28

/-- Now in units of 65.536 µs. -/
def State.nowU (s : State) : Nat := s.ns / 65536 % 2 ^ 32

/-! ## Contexts -/

/-- Address of entry idx. -/
def State.flowAddr (s : State) (idx : Nat) : Nat := s.part.code.flowBase + 128 * idx

/-- The flow table is each die's cache alone (08 R378). -/
def State.flowSplit (s : State) : Bool := (List.range s.part.code.ioDies).any (fun d => s.rd (P.flow d) R.pgStatusState = 0x80)

/-- The line of entry idx in die d's cache. -/
def State.lineOf (s : State) (d idx : Nat) : Option FlowLine := (s.tab.caches[d]?).bind (fun m => aget m idx)

/-- The die whose cache holds entry idx. -/
def State.holderOf (s : State) (idx : Nat) : Option Nat := (List.range 4).find? (fun d => (s.lineOf d idx).isSome)

/-- The context of entry idx as die d sees it: in CACHE_ONLY its own table, else the home's line or HBM. -/
def State.flowCtx (s : State) (d idx : Nat) : Bytes :=
  if s.flowSplit then ((s.lineOf d idx).map (·.ctx)).getD (zeros 128)
  else match s.holderOf idx with
    | some h => ((s.lineOf h idx).map (·.ctx)).getD (zeros 128)
    | none => s.devRead (s.flowAddr idx) 128

/-- Flags of a context. -/
def ctxValid (c : Bytes) : Bool := byteAt c 48 % 2 = 1
def ctxNoAge (c : Bytes) : Bool := (byteAt c 48).testBit 1
def ctxHome (c : Bytes) : Nat := byteAt c 102 % 4
def ctxPart (c : Bytes) : Nat := byteAt c 0 % 16

/-- Entry idx is VALID with key k, as die d sees it. -/
def State.validKey (s : State) (d idx : Nat) (k : Bytes) : Bool :=
  let c := s.flowCtx d idx
  ctxValid c && c.take 48 = k

/-- The reservation of entry idx. -/
def State.resvAt (s : State) (idx : Nat) : Option Resv := aget s.tab.resv idx

/-- s with table state changed. -/
def State.modTab (s : State) (f : TabSt → TabSt) : State := { s with tab := f s.tab }

/-- s with die d's flow cache changed. -/
def State.modCache (s : State) (d : Nat) (f : List (Nat × FlowLine) → List (Nat × FlowLine)) : State :=
  s.modTab (fun t => { t with caches := t.caches.modify d f })

/-- s with packet k changed. -/
def State.modPkt (s : State) (k : Nat) (f : Pkt → Pkt) : State :=
  { s with path := { s.path with pkts := amod s.path.pkts k f } }

/-- Packet k. -/
def State.pkt (s : State) (k : Nat) : Option Pkt := aget s.path.pkts k

/-- A packet is between its lookup and its commit on entry idx. -/
def Pkt.busyOn (p : Pkt) (idx : Nat) : Bool :=
  1 ≤ p.stage && !p.committed && p.tail ≠ 2 && (match p.flow with | some h => h % 2 ^ 28 = idx | none => false)

/-- Some packet is between lookup and commit on entry idx. -/
def State.flowBusy (s : State) (idx : Nat) : Bool := s.path.pkts.any (fun x => x.2.busyOn idx)

/-- Write a line back (R582). -/
def State.writeBack (s : State) (d idx : Nat) : State :=
  match s.lineOf d idx with
  | none => s
  | some l => (s.devWrite (s.flowAddr idx) l.ctx).modCache d (fun m => amod m idx (fun x => { x with dirty := false }))

/-- Drop a line, writing it back first when dirty, and clear CACHED in HBM. -/
def State.dropLine (s : State) (d idx : Nat) : State :=
  match s.lineOf d idx with
  | none => s
  | some l =>
    let s1 := if l.dirty then s.writeBack d idx else s
    let b := byteAt (s1.devRead (s1.flowAddr idx + 102) 1) 0
    (s1.devWrite (s1.flowAddr idx + 102) (leBytes 1 (putBits b 2 1 0))).modCache d (fun m => adel m idx)

/-- Bring entry idx with context c into die d's cache (R581): a full set displaces its least recently used line
that no packet holds between lookup and commit; with none the line stays uncached and goes to HBM. -/
def State.cacheLine (s : State) (d idx : Nat) (c : Bytes) (dirty : Bool) : State :=
  let sameSet := fun (x : Nat × FlowLine) => decide (x.1 / 8 % 65536 = idx / 8 % 65536)
  let lines := ((s.tab.caches[d]?).getD []).filter sameSet
  let place := fun (t : State) =>
    let c1 := putAt c 102 (leBytes 1 (d % 4 + 4))
    let t1 := if t.flowSplit then t else t.devWrite (t.flowAddr idx + 102) (leBytes 1 (d % 4 + 4))
    (t1.modCache d (fun m => aput m idx ⟨c1, dirty, s.ns, s.tab.clock⟩)).modTab (fun b => { b with clock := b.clock + 1 })
  if lines.length < 8 then place s
  else
    let free := lines.filter (fun x => !s.flowBusy x.1)
    match free.foldl (fun b x => match b with
        | none => some x
        | some y => if x.2.used < y.2.used then some x else some y) none with
    | some v => place (s.dropLine d v.1)
    | none => s.devWrite (s.flowAddr idx) (putAt c 102 (leBytes 1 (d % 4)))

/-- Change the context of entry idx where it lives: its line (then dirty) or HBM (R578, R582). -/
def State.setCtx (s : State) (d idx : Nat) (c : Bytes) : State :=
  let h := if s.flowSplit then (if (s.lineOf d idx).isSome then some d else none) else s.holderOf idx
  match h with
  | some x =>
    let c1 := putAt c 102 (leBytes 1 (x % 4 + 4))
    s.modCache x (fun m => amod m idx (fun l =>
      { l with ctx := c1, dirty := true, dirtyAt := (if l.dirty then l.dirtyAt else s.ns), used := s.tab.clock }))
  | none => if s.flowSplit then s.cacheLine d idx c true else s.devWrite (s.flowAddr idx) c

/-- Entries of partition p, VALID and reserved (FLOW_PART_COUNT_p, die 0). -/
def State.flowCount (s : State) (p : Nat) : Nat := s.rd (P.flow 0) (R.flowPartCount p)
def State.addFlow (s : State) (p : Nat) (d : Int) : State :=
  s.wr (P.flow 0) (R.flowPartCount p) ((s.flowCount p : Int) + d).toNat

/-- Clear VALID of entry idx everywhere. -/
def State.clearFlow (s : State) (idx : Nat) : State :=
  let c := (s.holderOf idx).elim (s.devRead (s.flowAddr idx) 128) (fun h => ((s.lineOf h idx).map (·.ctx)).getD (zeros 128))
  let s1 := s.each (List.range 4) (fun t d => t.modCache d (fun m => adel m idx))
  let s2 := if s.flowSplit then s1 else
    s1.devWrite (s1.flowAddr idx) (putAt (putAt c 48 (leBytes 1 (byteAt c 48 / 2 * 2))) 102 (leBytes 1 (byteAt c 102 % 4)))
  if ctxValid c then s2.addFlow (ctxPart c) (-1) else s2

/-- The entry VALID with key k, or reserved for it. -/
def State.findKey (s : State) (d : Nat) (k : Bytes) : Option Nat := (waysOf s.flowBuckets k).find? (fun x => s.validKey d x k)
def State.findResv (s : State) (k : Bytes) : Option Nat :=
  (waysOf s.flowBuckets k).find? (fun x => ((s.resvAt x).map (fun r => decide (r.key = k))).getD false)

/-- A way is free: not VALID, not reserved. -/
def State.freeWay (s : State) (d idx : Nat) : Bool := !ctxValid (s.flowCtx d idx) && (s.resvAt idx).isNone

/-! ## Eviction (R588 to R590) -/

/-- Eviction candidates of a key. -/
def State.flowCands (s : State) (d : Nat) (k : Bytes) : List Nat :=
  (waysOf s.flowBuckets k).filter (fun x =>
    let c := s.flowCtx d x
    ctxValid c && ctxPart c = byteAt k 0 % 16 && !ctxNoAge c && !s.flowBusy x)

/-- Age of an entry in units. -/
def State.flowAge (s : State) (d idx : Nat) : Nat := (s.nowU + 2 ^ 32 - fieldLE (s.flowCtx d idx) 60 4) % 2 ^ 32

/-- The greatest by f, the lowest element among equals. -/
def maxBy (f : Nat → Nat) (l : List Nat) : Option Nat :=
  l.foldl (fun b x => match b with
    | none => some x
    | some y => if f y < f x || (f x = f y && x < y) then some x else some y) none

/-- The victim under the table's policy: OLDEST exactly, RANDOM free (R589). -/
def State.flowVictim (s : State) (d : Nat) (k : Bytes) : State × Option Nat :=
  let c := s.flowCands d k
  if s.on (P.flow 0) R.flowGeomEvict then (s, maxBy (s.flowAge d) c)
  else if c = [] then (s, none) else (s.draw, c.drop (s.drawn c.length) |>.head?)

/-- Make entry idx VALID with context c, its home die d. -/
def State.createFlow (s : State) (d idx : Nat) (c : Bytes) : State := s.cacheLine d idx c true

/-- Remove the victim idx on die d, counted (R590). -/
def State.evictFlow (s : State) (d idx : Nat) : State := ((s.clearFlow idx).count (P.flow d) R.flowEvicted).sentinel (P.flow d) 4

/-! ## Feature update (R572) -/

/-- The update of a context by a packet of n bytes at t ns. -/
def featureUpdate (c : Bytes) (n t flags port : Nat) : Bytes :=
  let tu := t / 65536 % 2 ^ 32
  let pk := fieldLE c 68 4
  let put := fun (o w v : Nat) (c : Bytes) => putAt c o (leBytes w v)
  let c1 :=
    if pk = 0 then
      put 96 4 0 (put 92 4 0 (put 88 4 (n * 65536) (put 86 2 n (put 84 2 n (put 64 4 tu c)))))
    else
      let iat0 := (t + 2 ^ 32 - fieldLE c 80 4) % 2 ^ 32
      let iat := if 65536 ≤ (tu + 2 ^ 32 - fieldLE c 60 4) % 2 ^ 32 then 2 ^ 32 - 1 else iat0
      let e := fieldLE c 92 4
      let l := fieldLE c 88 4
      put 88 4 (l - l / 8 + n * 65536 % 2 ^ 32 / 8) (put 86 2 (max (fieldLE c 86 2) n) (put 84 2 (min (fieldLE c 84 2) n)
        (put 92 4 (e - e / 8 + iat / 8) (put 96 4 (max (fieldLE c 96 4) iat) c))))
  put 101 1 (port % 64) (put 100 1 (byteAt c 100 ||| flags) (put 80 4 (t % 2 ^ 32) (put 60 4 tu (put 72 8 (satN 64 (fieldLE c 72 8 + n))
    (put 68 4 (satN 32 (pk + 1)) c1)))))

/-- Masked bytes written into a context; byte 102 is the DX2's own (R562). -/
def maskedWrite (c src : Bytes) (mask : Nat) : Bytes :=
  (List.range 128).map (fun i => if mask.testBit i && i ≠ 102 then BitVec.ofNat 8 (byteAt src i) else BitVec.ofNat 8 (byteAt c i))

/-- Masked bytes into a context; mask bit 48 stands for a stored verdict, which sets HAS_VERDICT (13 R654). -/
def storeBytes (c src : Bytes) (mask : Nat) : Bytes :=
  let c1 := maskedWrite c src (mask - bits mask 48 1 * 2 ^ 48)
  if mask.testBit 48 then putAt c1 48 (leBytes 1 (byteAt c1 48 ||| 4)) else c1

/-- The bytes of a context that a creation by packet k gives (12, Flow context). -/
def Pkt.newCtx (p : Pkt) : Bytes :=
  padTo 128 (p.fkey ++ leBytes 1 1 ++ leBytes 1 p.cls ++ leBytes 1 (byteAt p.rec_ 5) ++ leBytes 1 (byteAt p.rec_ 4 / 16 % 8 + 16 * p.gen))

/-- Apply a packet's feature update and its tail-pending bytes to entry idx (R572, R575). -/
def State.commitOn (s : State) (p : Pkt) (idx : Nat) : State :=
  let c := featureUpdate (s.flowCtx p.die idx) (fieldLE p.key 62 2) p.t (byteAt p.key 60) (byteAt p.key 18)
  s.setCtx p.die idx (storeBytes c p.tpBytes p.tpMask)

/-- A stale commit or write (R573, R577). -/
def State.staleCommit (s : State) (d : Nat) : State := (s.count (P.flow d) R.flowCommitStale).sentinel (P.flow d) 5

/-- Free entry idx's reservation. -/
def State.dropResv (s : State) (idx : Nat) : State := s.modTab (fun t => { t with resv := adel t.resv idx })

/-- The commit of a packet at the later of its good tail and its lookup (R567, R568, R572, R573). -/
def State.commit (s : State) (k : Nat) : State :=
  match s.pkt k with
  | none => s
  | some p =>
    let done := fun (t : State) => t.modPkt k (fun x => { x with committed := true })
    match p.flow with
    | some h =>
      let idx := h % 2 ^ 28
      let res := match s.resvAt idx with | some r => decide (r.key = p.fkey) | none => false
      if res then
        let s1 := ((s.dropResv idx).createFlow p.die idx p.newCtx).count (P.flow p.die) R.flowCreated
        done ((s1.sentinel (P.flow p.die) 2).commitOn p idx)
      else if s.validKey p.die idx p.fkey then done (s.commitOn p idx)
      else done (s.staleCommit p.die)
    | none =>
      if p.resv = some (2 ^ 32) then
        -- both buckets were full at its lookup: creation by eviction
        if (s.findKey p.die p.fkey).isSome || (s.findResv p.fkey).isSome then done s
        else
          let v := s.flowVictim p.die p.fkey
          match v.2 with
          | none => done (v.1.count (P.flow p.die) R.flowInsertFail)
          | some idx =>
            let s1 := ((v.1.evictFlow p.die idx).createFlow p.die idx p.newCtx).addFlow (ctxPart p.fkey) 1
            done (((s1.count (P.flow p.die) R.flowCreated).sentinel (P.flow p.die) 2).commitOn p idx)
      else done s

/-- A bad tail leaves a reservation (R567). -/
def State.leaveResv (s : State) (k : Nat) (p : Pkt) : State :=
  match p.flow with
  | none => s
  | some h =>
    let idx := h % 2 ^ 28
    match s.resvAt idx with
    | none => s
    | some r =>
      let l := r.pkts.filter (· ≠ k)
      if r.key ≠ p.fkey then s
      else if l = [] then (s.dropResv idx).addFlow (ctxPart p.fkey) (-1)
      else s.modTab (fun t => { t with resv := aput t.resv idx { r with pkts := l } })

/-! ## ECC (R615) -/

/-- An entry is uncorrectable: it is invalidated in the cache and in HBM and reported on die d's page. -/
def State.flowEccAt (s : State) (d idx : Nat) : State :=
  let s1 := s.each (List.range 4) (fun t x => t.modCache x (fun m => adel m idx))
  let a := s.flowAddr idx
  let c := s.flowCtx d idx
  let s2 := if ctxValid c then s1.addFlow (ctxPart c) (-1) else s1
  let s3 := s2.devWrite a (zeros 128)
  ((s3.wr (P.flow d) R.flowEccIndex idx).count (P.flow d) R.flowEcc).cause (P.flow d) 8

/-! ## Stations (R591 to R601, R610) -/

/-- Buckets of the station table. -/
def stationBuckets : Nat := 32768

/-- The 8-byte station key of a MAC address and VID. -/
def stationKey (mac : Bytes) (vid : Nat) : Bytes := padTo 6 mac ++ beBytes 2 (vid % 4096)

/-- Die d's copy; the primary is die 0's. -/
def State.stCopy (s : State) (d : Nat) : List (Nat × Bytes) := (s.tab.station[d]?).getD []

/-- Entry key and fields. -/
def stKey (e : Bytes) : Bytes := e.take 6 ++ beBytes 2 (fieldLE e 6 2 % 4096)
def stPart (e : Bytes) : Nat := fieldLE e 6 2 / 4096
def stPort (e : Bytes) : Nat := byteAt e 8
def stFlag (e : Bytes) (b : Nat) : Bool := (byteAt e 9).testBit b

/-- An entry's 16 bytes. -/
def stationEntry (key : Bytes) (part port flags moves : Nat) : Bytes :=
  key.take 6 ++ leBytes 2 (u16be key 6 + 4096 * part) ++ leBytes 1 port ++ leBytes 1 flags ++ leBytes 2 moves ++ zeros 4

/-- Index of a key in a copy. -/
def stFind (l : List (Nat × Bytes)) (key : Bytes) : Option Nat :=
  (waysOf stationBuckets key).find? (fun i => ((aget l i).map (fun e => decide (stKey e = key))).getD false)

/-- Write or remove entry i in the primary and every replica (R597: within 64 CK2 cycles; log entry 41). -/
def State.stPut (s : State) (i : Nat) (e : Option Bytes) : State :=
  s.modTab (fun t => { t with station := t.station.map (fun l => match e with | some x => aput l i x | none => adel l i) })

/-- A place for a new key: a free way, else a victim among the dynamic entries (R598). STATION eviction OLDEST takes
PASS1 entries first, then HIT clear, then HIT set, the lowest index among equals (log entry 42). -/
def State.stPlace (s : State) (key : Bytes) : State × Option Nat :=
  let l := s.stCopy 0
  let ways := waysOf stationBuckets key
  match ways.find? (fun i => (aget l i).isNone) with
  | some i => (s, some i)
  | none =>
    let dyn := ways.filter (fun i => ((aget l i).map (fun e => !stFlag e 1)).getD false)
    let age := fun (i : Nat) => ((aget l i).map (fun e => if stFlag e 3 then 2 else if stFlag e 2 then 0 else 1)).getD 0
    if s.on (P.station 0) R.stationCfgEvict then (s, maxBy age dyn)
    else if dyn = [] then (s, none) else (s.draw, dyn[s.drawn dyn.length]?)

/-- I0 applies a learn (R593 to R595, R598). -/
def State.applyLearn (s : State) (x : Learn) : State :=
  let l := s.stCopy 0
  let p0 := P.station 0
  match stFind l x.key with
  | some i =>
    let e := (aget l i).getD []
    if stPort e = x.port then
      s.stPut i (some (putAt e 9 (leBytes 1 (putBits (putBits (byteAt e 9) 2 1 1) 3 1 0))))
    else if stFlag e 1 then
      let s1 := s.count p0 R.stationMoveBlocked
      if s.rd p0 R.stationCfgMoveAction = 0 then s1
      else
        (((s1.wr p0 R.stationLastBlocked (beNat (x.key.take 6))).wr p0 R.stationLastBlockedHi (u16be x.key 6)).wr p0
          R.stationLastPort x.port).cause p0 9
    else
      let e1 := stationEntry x.key (stPart e) x.port (putBits (putBits (byteAt e 9) 2 1 1) 3 1 0) (satN 16 (fieldLE e 10 2 + 1))
      (s.stPut i (some e1)).count p0 R.stationMoves
  | none =>
    let v := s.stPlace x.key
    match v.2 with
    | none => v.1.count (P.station x.die) R.stationLearnDrop
    | some i => v.1.stPut i (some (stationEntry x.key x.part x.port 5 0))

/-- Learns a die may have under way: the credits of its queue to I0, which the spec does not number (log entry 43). -/
def State.learnCredit (s : State) (d : Nat) : Bool := (s.tab.learns.filter (fun x => x.die = d)).length < Config.learnCredits

/-- A packet takes part in learning at its commit (R591, R592). -/
def State.learnFrom (s : State) (p : Pkt) : State :=
  let st := P.station p.die
  if p.port < 16 && p.reason = 0 && (byteAt p.rec_ 0).testBit 1 && s.on (P.station 0) R.stationCfgLearnEn && s.ready st then
    let key := stationKey ((p.key.drop 6).take 6) (u16be p.key 12)
    if s.learnCredit p.die then
      (s.modTab (fun t => { t with learns := t.learns ++ [⟨p.die, key, p.port, recPart p.rec_⟩] })).count st R.stationLearned
    else s.count st R.stationLearnDrop
  else s

end Sys2Proof.Machine
end

