-- ==== Sys2Proof/Machine/PktOps.lean ====
section
/-! DEFINITION. Machine/PktOps.lean: what every command of the packet path shares: PTP time, verdict tags, egress
queues, slow-path copies, holding, and a packet's end (10, 11, 13). -/

namespace Sys2Proof.Machine

/-! ## PTP time (10 R458 to R462) -/

/-- The time PTP runs from, in 2^-16 ns: the device time base, or fabric time under PTP_SRC 1. -/
def State.ptpSource (s : State) : Nat := if s.on (P.ptp 0) R.ptpCtrlPtpSrc then s.fab16.toNat else s.time.base

/-- PTP time in 2^-56 ns at an instant of the device time base, in 2^-16 ns, near the present one. -/
def State.ptpAt (s : State) (base16 : Int) : Int :=
  s.path.ptp.val + ((s.ptpSource : Int) - s.time.base + base16 - s.path.ptp.at_) * (2 ^ 40 + toS 32 (s.rd (P.ptp 0) R.ptpRate))

/-- PTP time in 2^-56 ns. -/
def State.ptpVal (s : State) : Int := s.ptpAt s.time.base

/-- PTP time in 2^-16 ns. -/
def State.ptp16 (s : State) : Int := s.ptpVal / 2 ^ 40

/-- PTP time in ns. -/
def State.ptpNs (s : State) : Int := s.ptpVal / 2 ^ 56

/-- Restart the counter's line at the present instant, before a change of rate, source or value. -/
def State.ptpRebase (s : State) (step : Int) : State :=
  { s with path := { s.path with ptp := { s.path.ptp with val := s.ptpVal + step * 2 ^ 56, at_ := s.ptpSource } } }

/-- A time in 2^-16 ns as NS, SEC, FRAC (12 bytes). -/
def stampBytes (t : Int) : Bytes :=
  let v := t.toNat
  leBytes 4 (v / 65536 % 1000000000) ++ leBytes 6 (v / 65536 / 1000000000) ++ leBytes 2 (v % 65536)

/-- A stamp's time in 2^-16 ns. -/
def stampVal (b : Bytes) : Nat := (fieldLE b 4 6 * 1000000000 + fieldLE b 0 4) * 65536 + fieldLE b 10 2

/-- Picoseconds in 2^-16 ns. -/
def ps16 (ps : Nat) : Nat := ps * 65536 / 1000

/-! ## Ports -/

/-- What carries the PTP message of a parsed packet: UDP over IPv4 or IPv6, or Ethernet. -/
def ptpKind (key : Bytes) : Nat := if byteAt key 105 ≠ 0 && byteAt key 21 = 17 then byteAt key 20 else 2

/-- Rate of a port in Gb/s by its SPEED. -/
def State.portRate (s : State) (p : Nat) : Nat :=
  match s.rd (P.port p) R.portCfgSpeed with
  | 1 => 100 | 2 => 200 | 3 => 400 | 4 => 800 | _ => 0

/-- The port's PORT page is READY and not gated. -/
def State.portReady (s : State) (p : Nat) : Bool := p < 16 && s.portExists p && s.ready (P.port p) && !s.gated (P.port p)

/-- Port p is a remote port (16 R799). -/
def State.portRemote (s : State) (p : Nat) : Bool := s.portReady p && s.rd (P.port p) R.pgStatusState = 0x80

/-- Queues and state of a port. -/
def State.eport (s : State) (p : Nat) : Option EPort := s.path.ports[p]?

/-- s with port p's queues and state changed. -/
def State.modPort (s : State) (p : Nat) (f : EPort → EPort) : State :=
  { s with path := { s.path with ports := s.path.ports.modify p f } }

/-- s with the packet path's state changed. -/
def State.modPath (s : State) (f : PathSt → PathSt) : State := { s with path := f s.path }

/-! ## Verdict tags (10, The verdict tag) -/

/-- A tag without its ETYPE field, which the egress port gives, most significant byte first. -/
def tagBytes (gen part degr withdrawn unver prov epoch cls score flow : Nat) : Bytes :=
  zeros 2 ++ leBytes 1 (16 + gen % 8) ++ leBytes 1 (part % 16 * 16 + degr * 8 + withdrawn * 4 + unver * 2 + prov) ++
    beBytes 2 epoch ++ leBytes 1 cls ++ [0] ++ beBytes 4 score ++ beBytes 4 flow

/-- The handle a tag or record carries. -/
def flowField (f : Option Nat) : Nat := f.getD 0xFFFFFFFF

/-- The tag of a packet as it stands. -/
def Pkt.tag (p : Pkt) (degraded : Bool) : Bytes :=
  tagBytes p.gen (recPart p.rec_) (b2n degraded) (b2n p.withdrawn) (b2n p.unverdicted) 0 (p.epoch.getD 0) p.cls
    (if p.unverdicted then 0 else p.score) (flowField p.flow)

/-! ## IP edits -/

/-- The frame with the checksum of its IPv4 header at offset o made right. -/
def fixIpv4 (f : Bytes) (o : Nat) : Bytes :=
  let n := byteAt f o % 16 * 4
  let h := putAt ((f.drop o).take n) 10 [0, 0]
  putAt f (o + 10) (beBytes 2 (0xFFFF - onesSum h))

/-- MARK: the DSCP of the outermost IP header (13 R622). -/
def markDscp (f : Bytes) (ip : Option (Nat × Nat)) (dscp : Nat) : Bytes :=
  match ip with
  | none => f
  | some (o, k) =>
    if k = 4 then fixIpv4 (putAt f (o + 1) (leBytes 1 (dscp % 64 * 4 + byteAt f (o + 1) % 4))) o
    else
      let tc := dscp % 64 * 4 + (byteAt f o % 16 * 16 + byteAt f (o + 1) / 16) % 4
      putAt f o (leBytes 1 (byteAt f o / 16 * 16 + tc / 16) ++ leBytes 1 (tc % 16 * 16 + byteAt f (o + 1) % 16))

/-! ## A packet's end -/

/-- The packet's generation counter falls and its record goes, unless its item is still outstanding (11 R533). -/
def State.pktLeave (s : State) (k : Nat) : State :=
  match s.pkt k with
  | none => s
  | some p =>
    if p.stage ≠ 4 || p.copies ≠ 0 then s
    else
      let s1 := if p.gen < 8 then (s.genDrain p.gen (-1)).modPkt k (fun x => { x with gen := 8 + x.gen }) else s
      if p.item.isSome || p.tail = 0 then s1
      else s1.modPath (fun t => { t with pkts := adel t.pkts k })

/-- The packet is dropped, or all its copies are under way. -/
def State.pktDone (s : State) (k : Nat) : State := (s.modPkt k (fun x => { x with stage := 4 })).pktLeave k

/-- One copy of packet k has left, or is gone. -/
def State.copyGone (s : State) (k : Nat) : State := (s.modPkt k (fun x => { x with copies := x.copies - 1 })).pktLeave k

/-! ## Egress queues (10 R446, R447) -/

/-- Bytes queued at a port. -/
def EPort.bytes (e : EPort) : Nat := sumN (e.queues.map (fun q => sumN (q.map (fun x => x.frame.length + 4))))

/-- Put a frame into a TC queue, its copy counted on its packet; a full buffer drops it. -/
def State.enqueue (s : State) (port tc : Nat) (e : EgrEnt) : State :=
  match s.eport port with
  | none => s
  | some ep =>
    if 4 * 2 ^ 20 < ep.bytes + e.frame.length + 4 then s.countP (P.port port) R.txQueueDrop e.part
    else
      let s1 := s.modPort port (fun x => { x with queues := x.queues.modify (tc % 8) (· ++ [e]) })
      match e.pkt with
      | none => s1
      | some k => s1.modPkt k (fun x => { x with copies := x.copies + 1 })

/-- Drop count of an egress port, pipe or block that is not READY (08 R382). -/
def State.notReadyDrop (s : State) (die : Nat) : State := s.count (P.iod die) R.iodNotreadyDrop

/-- The traffic class of a packet at an egress port (R446). -/
def State.pktTc (s : State) (p : Pkt) (port : Nat) : Nat :=
  if (byteAt p.rec_ 7).testBit 3 then byteAt p.rec_ 7 % 8
  else if byteAt p.key 19 % 4 ≠ 0 then s.rd (P.port port) R.portPcpTc / 2 ^ (3 * (byteAt p.key 12 / 32)) % 8
  else 0

/-- Send one copy of packet k to port: into its TC queue, to a remote port over the fabric, or dropped where the port
is not READY (R382). flood: a flood skips such a port without a count. -/
def State.sendCopy (s : State) (k port : Nat) (flood : Bool) : State :=
  match s.pkt k with
  | none => s
  | some p =>
    if !s.portReady port then (if flood then s else s.notReadyDrop (port / 4))
    else if s.portRemote port then s.modPkt k (fun x => { x with remote := x.remote ++ [port], copies := x.copies + 1 })
    else
      let tag := if byteAt p.key 19 / 4 % 4 ≠ 0 then [] else p.tag s.degraded
      s.enqueue port (s.pktTc p port) ⟨some k, p.frame, tag, (byteAt p.rec_ 0).testBit 2,
        if p.tail = 1 then 0 else s.portRate p.port, p.tsReq, p.ptp.map (fun o => (o, ptpKind p.key)), stampVal p.ts, false, p.verdict.isSome && p.release = 1 && p.early, 0, recPart p.rec_⟩

/-! ## Slow-path copies (11) -/

/-- Bytes of a die's slow-path buffer. -/
def State.slowUsed (s : State) (d : Nat) : Nat :=
  sumN ((s.path.slow.filter (fun (x : Nat × SlowEnt) => ((s.pkt x.2.pkt).map (fun p => decide (p.die = d))).getD false)).map
    (fun x => x.2.frame.length))

/-- A verdict-stage reason of packet k counts when its tail is good (R542); a parse reason counts with its tail. -/
def State.slowReason (s : State) (k : Nat) (p : Pkt) (reason : Nat) : State :=
  if reason < 0x10 || 0x20 ≤ reason then s
  else if p.tail = 1 then s.count (P.slowpath p.die) (R.spReasonCount reason)
  else s.modPkt k (fun x => { x with reasons := x.reasons ++ [reason] })

/-- A slow-path copy of packet k for partition part (R544, R548: a full 1 MiB buffer drops it). -/
def State.sendSlow (s : State) (k part reason : Nat) : State :=
  match s.pkt k with
  | none => s
  | some p =>
    let s := s.slowReason k p reason
    if 2 ^ 20 < s.slowUsed p.die + p.frame.length then s.count (P.slowpath p.die) R.spDmaDrop
    else
      let e : SlowEnt := ⟨k, part, reason, p.frame, p.tag s.degraded, p.tail ≠ 0⟩
      (s.modPath (fun t => { t with slow := aput t.slow t.nextSlow e, nextSlow := t.nextSlow + 1 })).modPkt k
        (fun x => { x with copies := x.copies + 1 })

/-- At the tail of packet k its slow copies become deliverable, in the order of tails (R549). A bad tail leaves only
a copy that a verdict mirrored before the tail, with WITHDRAWN in its tag (R544, R659). -/
def State.slowTail (s : State) (k : Nat) (good : Bool) : State :=
  let mine := (s.path.slow.filter (fun (x : Nat × SlowEnt) => decide (x.2.pkt = k) && !x.2.ready)).map (·.2)
  let s0 := match s.pkt k with
    | some p => if good then s.each p.reasons (fun t r => t.count (P.slowpath p.die) (R.spReasonCount r)) else s
    | none => s
  let s1 := (s0.modPkt k (fun x => { x with reasons := [] })).modPath (fun t => { t with
    slow := t.slow.filter (fun (x : Nat × SlowEnt) => !(decide (x.2.pkt = k) && !x.2.ready)) })
  s1.each mine (fun t e =>
    if good then t.modPath (fun u => { u with slow := aput u.slow u.nextSlow { e with ready := true }, nextSlow := u.nextSlow + 1 })
    else if e.reason = 0x13 then
      let tag := putAt e.tag 3 (leBytes 1 (byteAt e.tag 3 ||| 4))
      t.modPath (fun u => { u with slow := aput u.slow u.nextSlow { e with ready := true, tag := tag }, nextSlow := u.nextSlow + 1 })
    else t.copyGone k)

/-! ## Holding (13 R636 to R642) -/

/-- Cells held or reserved on a die, and by a partition there. -/
def State.holdOcc (s : State) (d : Nat) : Nat :=
  sumN ((s.path.pkts.filter (fun (x : Nat × Pkt) => x.2.held && decide (x.2.die = d))).map (fun x => x.2.cells))
def State.holdPart (s : State) (d p : Nat) : Nat :=
  sumN ((s.path.pkts.filter (fun (x : Nat × Pkt) => x.2.held && decide (x.2.die = d) && decide (recPart x.2.rec_ = p))).map
    (fun x => x.2.cells))

/-- The cells packet p keeps: of a whole PORT_MAX_FRAME until its tail, of its length afterwards (R641). -/
def State.cellsOf (s : State) (p : Pkt) : Nat :=
  if p.tail = 0 then ceilDiv (s.rd (P.port p.port) R.portMaxFrame) 256 else ceilDiv p.frame.length 256

/-- Packet k leaves the hold buffer: its cells are free, its epoch's counter falls, and the packets held behind it
have its own predecessor ahead of them. -/
def State.unhold (s : State) (k : Nat) : State :=
  match s.pkt k with
  | none => s
  | some p =>
    if !p.held then s
    else
      let s1 := s.modPath (fun t => { t with pkts := t.pkts.map (fun (x : Nat × Pkt) =>
        if x.1 = k then (x.1, { x.2 with held := false, ahead := none, cells := 0 })
        else if x.2.ahead = some k then (x.1, { x.2 with ahead := p.ahead }) else x) })
      match p.epoch with
      | some e => s1.drainBy e (-1)
      | none => s1

/-! ## Flow writes of a packet (12 R574 to R577; 13 R654) -/

/-- The write of masked bytes to the flow of handle h by work of die d, with no tail to wait for (R577). -/
def State.flowStoreNow (s : State) (d h : Nat) (key : Option Bytes) (src : Bytes) (mask : Nat) : State :=
  let idx := h % 2 ^ 28
  let c := s.flowCtx d idx
  if ctxValid c && ctxPart c = h / 2 ^ 28 % 16 && (match key with | some k => decide (c.take 48 = k) | none => true) then
    s.setCtx d idx (storeBytes c src mask)
  else s.staleCommit d

/-- The write for an item's own packet k: into its tail-pending slot before the commit, at once after it, nowhere
after a bad tail or without a slot (R574 to R576). -/
def State.flowStoreFor (s : State) (k h : Nat) (src : Bytes) (mask : Nat) : State :=
  match s.pkt k with
  | none => s
  | some p =>
    if !p.tp then s
    else if p.tail = 2 then s.count (P.flow p.die) R.flowWriteWithdrawn
    else if p.committed then s.flowStoreNow p.die h (some p.fkey) src mask
    else s.modPkt k (fun x => { x with
      tpBytes := (List.range 128).map (fun i => if mask.testBit i then BitVec.ofNat 8 (byteAt src i) else BitVec.ofNat 8 (byteAt x.tpBytes i))
      tpMask := x.tpMask ||| mask })

/-! ## Commit at the later of tail and lookup (12 R572) -/

/-- The tail is good and the lookup done: commit, learn. -/
def State.settle (s : State) (k : Nat) : State :=
  match s.pkt k with
  | none => s
  | some p =>
    if p.tail = 1 && 1 ≤ p.stage && !p.committed then ((s.commit k).learnFrom p).modPkt k (fun x => { x with committed := true }) else s

end Sys2Proof.Machine
end

