-- ==== Sys2Proof/Machine/Packets.lean ====
section
/-! DEFINITION. Machine/Packets.lean: a packet from its first byte to its disposition: reception, lookup, trigger,
items, tails, holding, verdicts, threshold trackers and rate buckets (10 to 13). -/

namespace Sys2Proof.Machine

open Host (Outcome)

/-! ## Reception (11 R501 to R519) -/

/-- A tag with the port's ETHERTYPE stands directly after the source address. -/
def State.hasTag (s : State) (port : Nat) (f : Bytes) : Bool :=
  28 ≤ f.length && u16be f 12 = s.rd (P.port port) R.portTagEthertype

/-- A frame enters the parser of its port's pipe (port 62: pipe 0 of I0) and becomes packet nextPkt (R501, R508). -/
def State.receive (s : State) (port : Nat) (frame : Bytes) (tagSeen : Bool) (tail tsReq : Nat) (late16 : Nat) : State :=
  let pipe := if port < 16 then pipeOf port else 0
  let die := pipe / 2
  let g := s.rules.cur
  match s.genSet g with
  | none => s
  | some gs =>
    let w := s.rules.parse gs g port frame tagSeen
    let act := byteAt gs.reasons (4 * w.reason) % 4
    let classify := w.reason = 0 || act = 2
    let k := s.path.nextPkt
    let rv := s.rules.rangeVec g w.key
    let key1 := if classify then putAt w.key 112 (leBytes 8 rv) else w.key
    let win := if classify then bestCand (s.rules.cands pipe gs g key1) else none
    let cls := if classify then (win.map (·.cls)).getD gs.defaultClass else 0
    let s1 := (s.count (P.parse pipe) R.parsePkts).progress (P.parse pipe)
    let s2 := if !classify then s1 else match win with
      | none => s1.count (P.classp pipe) R.classDefault
      | some c => s1.count (P.classp pipe) (if c.exact then R.classExactWin else R.classTernaryWin)
    let p : Pkt := { port := port, die := die, pipe := pipe, frame := frame, ts := stampBytes (s.ptpAt ((s.time.base : Int) - late16) / 2 ^ 40),
                     t := (s.time.base - late16) / 65536, gen := g, key := putAt key1 120 (leBytes 1 cls), reason := w.reason, cls := cls,
                     rec_ := (if classify then s.classRec g cls else zeros 64), ip := w.ip, ptp := w.ptp,
                     stage := (if classify then 0 else 4), fkey := [], flow := none, resv := none, ordinal := 0, ctx := zeros 128,
                     tp := false, tpMask := 0, tpBytes := zeros 128, epoch := none, stampAt := 0, fired := false, head := false,
                     item := none, queued := false, reasons := [], held := false, ahead := none, cells := 0, tail := 0, committed := false, verdict := none,
                     early := false, release := 0, fwd := [], moveDrop := false, copies := 0, withdrawn := false, remote := [],
                     actions := zeros 8, score := 0, unverdicted := true, tsReq := tsReq, fabric := false }
    let s3 := (s2.modPath (fun t => { t with pkts := aput t.pkts k p, nextPkt := k + 1 })).genDrain g 1
    if tail = 0 then s3 else s3.modPkt k (fun x => { x with tail := 1, head := true })

/-- Count a received frame (R452 counts its own). -/
def State.rxCount (s : State) (port n : Nat) : State :=
  (((s.count (P.port port) R.rxFrames).countN (P.port port) R.rxBytes n).sentinel (P.port port) 0).progress (P.port port)

/-- A pause of n quanta of 512 bit times at the port's rate ends then (device ns, rounded up). -/
def State.pauseEnd (s : State) (port quanta : Nat) : Nat := s.ns + ceilDiv (quanta * 512) (max 1 (s.portRate port))

/-- A PAUSE frame (R449, R452, R453). -/
def State.takePause (s : State) (port quanta : Nat) : State :=
  let s1 := (s.rxCount port 64).count (P.port port) R.rxPause
  if !s1.on (P.port port) R.portPausePauseEn then s1
  else (s1.modPort port (fun e => { e with paused := if quanta = 0 then 0 else s.pauseEnd port quanta })).wr (P.port port)
    R.portStatusPaused (b2n (quanta ≠ 0))

/-- A PFC frame (R450): the TC that PORT_PCP_TC gives for each enabled priority. -/
def State.takePfc (s : State) (port enables : Nat) (quanta : List Nat) : State :=
  let s1 := (s.rxCount port 64).count (P.port port) R.rxPfc
  if !s1.on (P.port port) R.portPausePfcEn then s1
  else s1.each (bitList enables 8) (fun t i =>
    let tc := t.rd (P.port port) R.portPcpTc / 2 ^ (3 * i) % 8
    let q := quanta.getD i 0
    let m := t.rd (P.port port) R.portStatusPfcPaused
    (t.modPort port (fun e => { e with pfc := e.pfc.set tc (if q = 0 then 0 else t.pauseEnd port q) })).wr (P.port port)
      R.portStatusPfcPaused (putBits m tc 1 (b2n (q ≠ 0))))

/-- The port can take frames now: READY, its own, and not stopped by a reset or THERMTRIP. -/
def State.rxOpen (s : State) (port : Nat) : Bool :=
  s.portReady port && !s.portRemote port && !s.rst.stopped && s.on (P.port port) R.pgCtrlEnable

/-- Once packet k has its class, the counts of its frame carry the class partition (18, Tenant filtering). -/
def State.rxShare (s : State) (port k n : Nat) (stripped : Bool) : State :=
  match s.pkt k with
  | none => s
  | some x =>
    if x.stage ≠ 0 then s
    else
      let q := recPart x.rec_
      let s1 := (s.shareN (P.port port) R.rxFrames 1 q).shareN (P.port port) R.rxBytes n q
      if stripped then s1.shareN (P.port port) R.tagStripped 1 q else s1

/-- FRAME_RECEIVE: the frame from DMAC on, without its FCS. -/
def frameReceive (port : Nat) (frame : Bytes) (s : State) : State :=
  if !s.rxOpen port then s
  else if u16be frame 12 = 0x8808 && u16be frame 14 = 1 then s.takePause port (u16be frame 16)
  else if u16be frame 12 = 0x8808 && u16be frame 14 = 0x101 then
    s.takePfc port (u16be frame 16) ((List.range 8).map (fun i => u16be frame (18 + 2 * i)))
  else
    let p := P.port port
    let s1 := s.rxCount port (frame.length + 4)
    if frame.length + 4 < 64 then s1.count p R.rxRunt
    else if s.rd p R.portMaxFrame < frame.length + 4 then s1.count p R.rxOversize
    else if u16be frame 12 = 0x8808 then s1
    else
      let die := port / 4
      let pipe := pipeOf port
      if !(s.ready (P.parse pipe) && s.ready (P.classp pipe) && s.ready (P.flow die)) then s1.notReadyDrop die
      else
        let tagged := s.hasTag port frame
        let mode := s.rd p R.portTagTagRx
        let late := ps16 (s.rd p R.portTsLatRx)
        let k := s1.path.nextPkt
        if tagged && mode = 2 then s1.count p R.tagRxDrop
        else if tagged && mode = 1 then
          ((s1.count p R.tagStripped).receive port (frame.take 12 ++ frame.drop 28) false 0 0 late).rxShare port k (frame.length + 4) true
        else (s1.receive port frame tagged 0 0 late).rxShare port k (frame.length + 4) false

/-- FRAME_RECEIVE. -/
def execFrameReceive (port : Nat) (frame : Bytes) (s : State) : Outcome State Fault Refusal := .next (frameReceive port frame s)

/-- PAUSE_FRAME: R449. -/
def pauseFrame (port quanta : Nat) (s : State) : State := if s.rxOpen port then s.takePause port (quanta % 65536) else s

/-- PAUSE_FRAME. -/
def execPauseFrame (port quanta : Nat) (s : State) : Outcome State Fault Refusal := .next (pauseFrame port quanta s)

/-- PFC_FRAME: R450. -/
def pfcFrame (port enables : Nat) (quanta : List Nat) (s : State) : State :=
  if s.rxOpen port then s.takePfc port (enables % 256) (quanta.map (· % 65536)) else s

/-- PFC_FRAME. -/
def execPfcFrame (port enables : Nat) (quanta : List Nat) (s : State) : Outcome State Fault Refusal :=
  .next (pfcFrame port enables quanta s)

/-! ## Flow lookup (12 R563 to R574) -/

/-- Tail-pending slots in use on die d (R579). -/
def State.tpUsed (s : State) (d : Nat) : Nat :=
  (s.path.pkts.filter (fun (x : Nat × Pkt) => decide (x.2.die = d) && x.2.tp && (!(x.2.committed || x.2.tail = 2) || x.2.item.isSome))).length

/-- Packets of entry idx between lookup and commit. -/
def State.busyCount (s : State) (idx : Nat) : Nat := (s.path.pkts.filter (fun (x : Nat × Pkt) => x.2.busyOn idx)).length

/-- The home's record of remote lookups of entry idx by die d (17 R849). -/
def State.streak (s : State) (idx d : Nat) : State :=
  let l := s.pwr.streaks
  let n := match l.find? (fun x => x.1 = idx) with | some (_, e, n) => if e = d then n + 1 else 1 | none => 1
  if s.on P.pwr R.reelCfg && (s.rd P.pwr R.reelCfg).testBit 17 then
    { s with pwr := { s.pwr with streaks := (idx, d, n) :: l.filter (fun x => x.1 ≠ idx) } }
  else s

/-- A lookup from the home itself ends a streak of remote ones (17 R849: a lookup from any other die resets it). -/
def State.noStreak (s : State) (idx : Nat) : State :=
  { s with pwr := { s.pwr with streaks := s.pwr.streaks.filter (fun x => x.1 ≠ idx) } }

/-- Uncorrectable entries among the ways read from HBM (R615). -/
def State.eccWays (s : State) (d : Nat) (ways : List Nat) : State :=
  if s.flowSplit then s
  else s.each (ways.filter (fun x => (s.holderOf x).isNone && s.poisoned (s.flowAddr x) 128)) (fun t x => t.flowEccAt d x)

/-- The lookup of key fk for packet p: counters, the entry or reservation it gets, the context it sees. The mark
resv = 2^32 says that both buckets were full (R568). -/
def State.lookupKey (s0 : State) (k : Nat) (p : Pkt) (fk : Bytes) : State × Pkt :=
  let d := p.die
  let part := ctxPart fk
  let fl := P.flow d
  let ways := waysOf s0.flowBuckets fk
  let s := s0.eccWays d ways
  let miss := fun (t : State) => (t.count fl R.flowMisses).sentinel fl 1
  match s.findKey d fk with
  | some idx =>
    let c := s.flowCtx d idx
    let n := satN 32 (fieldLE c 68 4 + s.busyCount idx + 1)
    let p1 := { p with fkey := fk, flow := some (flowHandle idx part), ctx := c, ordinal := n }
    let touch := fun (t : State) (h : Nat) => (t.modCache h (fun m => amod m idx (fun l => { l with used := t.tab.clock }))).modTab
      (fun b => { b with clock := b.clock + 1 })
    match s.holderOf idx with
    | some h =>
      if h = d || s.flowSplit then (touch (((s.count fl R.flowHits).sentinel fl 0).noStreak idx) d, p1)
      else (touch (((miss s).count fl R.flowRemote).streak idx d) h, p1)
    | none => ((miss s).cacheLine (ctxHome c) idx c false, p1)
  | none =>
    let join := fun (idx : Nat) (t : State) =>
      let r := (t.resvAt idx).getD ⟨fk, []⟩
      let n := satN 32 (t.busyCount idx + 1)
      (t.modTab (fun b => { b with resv := aput b.resv idx { r with pkts := r.pkts ++ [k] } }),
        { p with fkey := fk, flow := some (flowHandle idx part), resv := some idx, ctx := padTo 128 fk, ordinal := n })
    match s.findResv fk with
    | some idx => join idx (miss s)
    | none =>
      match ways.find? (fun x => s.freeWay d x) with
      | none => ((miss s).draw, { p with fkey := fk, resv := some (2 ^ 32), ordinal := s.drawn (2 ^ 32) })
      | some idx =>
        if s.maxFlows part ≤ s.flowCount part then
          (((miss s).count fl R.flowLimitMiss).draw, { p with fkey := fk, ordinal := s.drawn (2 ^ 32) })
        else join idx ((miss s).addFlow part 1)

/-- FLOW_LOOKUP. A packet without a flow gets a free ordinal: the spec gives it none (log entry 45). -/
def flowLookup (k : Nat) (s : State) : State :=
  match s.pkt k with
  | none => s
  | some p =>
    if p.stage ≠ 0 then s
    else
      let fk := recFlowKey p.rec_
      let r := if fk = 0 || byteAt p.rec_ 0 % 2 = 0 then (s.draw, { p with ordinal := s.drawn (2 ^ 32) })
        else s.lookupKey k p (flowKeyOf (recPart p.rec_) fk p.key)
      let wants := r.2.flow.isSome && recTrigger p.rec_ ≠ 0
      let room := s.tpUsed p.die < 16384
      let p1 := { r.2 with stage := 1, tp := wants && room }
      let s1 := r.1.modPkt k (fun _ => p1)
      (s1.when (wants && !room) (fun t => t.count (P.flow p.die) R.flowTpFull)).settle k

/-- FLOW_LOOKUP. -/
def execFlowLookup (pkt : Nat) (s : State) : Outcome State Fault Refusal := .next (flowLookup pkt s)

/-! ## The trigger stage (13 R618 to R626, R635 to R642) -/

/-- The trigger fires on this packet (R624, R625), and whether it would need a flow it lacks. -/
def Pkt.fires (p : Pkt) : Bool × Bool :=
  let tr := recTrigger p.rec_
  let n := fieldLE p.rec_ 8 2
  let m := fieldLE p.rec_ 10 2
  let w := fieldLE p.rec_ 12 4
  if tr = 0 then (false, false)
  else if tr = 1 then (true, false)
  else if tr = 3 && n = 0 then (true, false)
  else if p.flow.isNone then (false, true)
  else if tr = 2 || tr = 3 then (decide (p.ordinal ≤ n), false)
  else if tr = 4 then
    let c := p.ctx
    let first := fieldLE c 64 4
    let d := fun (a : Nat) => (a + 2 ^ 32 - first) % 2 ^ 32 / w
    (fieldLE c 68 4 ≠ 0 && d (fieldLE c 60 4) < d (p.t / 65536 % 2 ^ 32), false)
  else if tr = 5 then (p.ordinal % m = 0, false)
  else (false, false)

/-- The input queue of class record r has a bound task of its partition on its model slot, and the slot a model under
epoch e (R626). -/
def State.taskFor (s : State) (r : Bytes) (e : Nat) : Bool :=
  (s.servingBank (byteAt r 5) e).isSome &&
  (match aget s.fe.tasks (byteAt r 6) with
    | some t => t.part = recPart r && t.mslot = byteAt r 5
    | none => false)

/-- Work can run at all: the front end and some cluster are READY (08 R382). -/
def State.canInfer (s : State) : Bool := s.ready P.fe && (List.range 16).any (fun n => s.ready (P.cl n))

/-- The last held packet of the same flow (R637). -/
def State.heldAhead (s : State) (p : Pkt) : Option Nat :=
  match p.flow with
  | none => none
  | some h => ((s.path.pkts.filter (fun (x : Nat × Pkt) => x.2.held && x.2.flow = some h)).getLast?).map (·.1)

/-- TRIGGER_STAGE: stamp, trigger, hold. -/
def triggerStage (k : Nat) (s : State) : State :=
  match s.pkt k with
  | none => s
  | some p =>
    if p.stage ≠ 1 || p.fabric then s
    else if byteAt p.rec_ 0 % 2 = 0 then (s.count (P.trig p.die) R.trigInvalidClass).pktDone k
    else
      let e := s.epoch
      let tg := P.trig p.die
      let f := if p.reason = 0 && s.ready tg then p.fires else (false, false)
      let s1 := s.when f.2 (fun t => t.count tg R.trigNoFlow)
      let wantItem := f.1 && recMode p.rec_ ≠ 0 && s.canInfer
      let fire := wantItem && s.taskFor p.rec_ e
      let s2 := s1.when (wantItem && !fire) (fun t => t.count tg R.trigNoTask)
      let p1 := { p with stage := 2, epoch := some e, stampAt := s.ns, fired := fire }
      let ahead := s.heldAhead p
      let wantHold := (fire && recMode p.rec_ = 2) || ahead.isSome
      let s3 := if fire then s2.drainBy e 1 else s2
      if !wantHold then s3.modPkt k (fun _ => p1)
      else if !s.ready (P.hold p.die) then (s3.modPkt k (fun _ => p1)).count (P.iod p.die) R.iodHoldBypass
      else
        let cells := s.cellsOf p
        let part := recPart p.rec_
        let hp := P.hold p.die
        if 262144 < s.holdOcc p.die + cells || s.rd hp (R.holdLimit part) < s.holdPart p.die part + cells then
          ((s3.modPkt k (fun _ => p1)).count hp R.holdFullBypass).cause hp 8
        else
          let s4 := (s3.modPkt k (fun _ => { p1 with held := true, ahead := ahead, cells := cells })).drainBy e 1
          let s5 := s4.wr hp R.holdOccPeak (max (s4.rd hp R.holdOccPeak) (s4.holdOcc p.die))
          s5.when (!fire) (fun t => t.count hp R.holdFollowers)

/-- TRIGGER_STAGE. -/
def execTriggerStage (pkt : Nat) (s : State) : Outcome State Fault Refusal := .next (triggerStage pkt s)

/-- HEAD_POINT: the first 128 bytes are in; a shorter frame has its HEAD point with its tail (R628). -/
def headPoint (k : Nat) (s : State) : State :=
  match s.pkt k with
  | none => s
  | some p => if p.frame.length + 4 < 128 && p.tail = 0 then s else s.modPkt k (fun x => { x with head := true })

/-! ## Items (R627 to R634) -/

/-- The item of packet p with the given reference (13, Input-queue items). -/
def Pkt.itemBytes (p : Pkt) (id : Nat) : Bytes :=
  let atHead := recTrigger p.rec_ = 3
  let fr := if atHead then p.frame.take 128 else p.frame
  let content := if (byteAt p.rec_ 2).testBit 6 then padTo 224 fr else padTo 128 p.key ++ padTo 96 fr
  padTo 256 (leBytes 4 id ++
    leBytes 1 (p.die % 4 + 4 * b2n p.held + 8 * b2n atHead + 16 * b2n p.flow.isSome + 32 * b2n (p.tail = 1)) ++ leBytes 1 p.cls ++
    leBytes 2 (p.epoch.getD 0) ++ leBytes 1 (p.gen % 8 + 16 * recPart p.rec_) ++ leBytes 1 (p.port % 64) ++
    leBytes 2 (if p.tail = 0 then 0 else p.frame.length) ++ leBytes 4 (flowField p.flow) ++ leBytes 4 p.ordinal ++ padTo 12 p.ts ++ content)

/-- The packet no longer counts as one that fires: its item is not queued. -/
def State.noItem (s : State) (k : Nat) (p : Pkt) : State :=
  let s1 := s.modPkt k (fun x => { x with fired := false })
  match p.epoch with
  | some e => s1.drainBy e (-1)
  | none => s1

/-- Put an item into input queue iq where a credit is left: the trace says so. -/
def State.pushItem (s : State) (iq : Nat) (it : Item) : Option State :=
  match aget s.fe.iqs iq with
  | none => none
  | some q =>
    if 2 ^ q.log2 ≤ q.items.length then none
    else some ({ s with fe := { s.fe with iqs := aput s.fe.iqs iq { q with items := q.items ++ [it] } } }.trace (96 + it.die) 0x2A it.part
      [(16, 4, it.id), (20, 1, iq), (22, 2, it.epoch), (24, 4, it.flow)])

/-- ITEM_QUEUE: the item of a fired packet is due (R624, R628). -/
def itemQueue (k : Nat) (s : State) : State :=
  match s.pkt k with
  | none => s
  | some p =>
    let due := if recTrigger p.rec_ = 3 then p.head && (128 ≤ p.frame.length + 4 || p.tail = 1) else p.tail = 1
    if !p.fired || p.stage < 2 || p.queued || !due || p.tail = 2 then s
    else
      let id := s.fe.nextItem
      let it : Item := ⟨id, p.itemBytes id, p.epoch.getD 0, recPart p.rec_, p.die, some k, p.held && recMode p.rec_ = 2, flowField p.flow,
        p.rec_, p.stampAt, s.ns⟩
      match s.pushItem (byteAt p.rec_ 6) it with
      | some s1 =>
        let s2 := { s1 with fe := { s1.fe with nextItem := (id + 1) % 2 ^ 32 } }
        (s2.modPkt k (fun x => { x with item := some id, queued := true })).count (P.trig p.die) R.trigItems
      | none => (s.noItem k p).count (P.trig p.die) R.trigIqFull

/-- HEAD_POINT. A HEAD item goes when its trigger stage is past. -/
def execHeadPoint (pkt : Nat) (s : State) : Outcome State Fault Refusal := .next (itemQueue pkt (headPoint pkt s))

/-- ITEM_QUEUE. -/
def execItemQueue (pkt : Nat) (s : State) : Outcome State Fault Refusal := .next (itemQueue pkt s)

/-! ## Tails -/

/-- Scores of packet k that waited for its tail go to the trackers' queue, or nowhere (R671, R661). -/
def State.scoresOf (s : State) (k : Nat) (good : Bool) : State :=
  let mine := s.path.scoreWait.filter (fun x => x.1 = k)
  s.modPath (fun t => { t with
    scoreWait := t.scoreWait.filter (fun x => x.1 ≠ k)
    scores := if good then t.scores ++ mine.map (fun x => x.2) else t.scores })

/-- TAIL_GOOD. -/
def tailGood (k : Nat) (s : State) : State :=
  match s.pkt k with
  | none => s
  | some p =>
    if p.tail ≠ 0 then s
    else
      let s1 := s.modPkt k (fun x => { x with tail := 1, head := true, cells := if x.held then ceilDiv x.frame.length 256 else 0 })
      let s2 := s1.when (p.reason ≠ 0) (fun t => t.count (P.slowpath p.die) (R.spReasonCount p.reason))
      let s3 := ((s2.settle k).slowTail k true).scoresOf k true
      if p.reason ≠ 0 && p.stage = 4 then
        -- a reason's action: SLOW to its ring, DROP (R540)
        let ent := ((s.genSet (p.gen % 8)).map (fun g => (g.reasons.drop (4 * p.reason)).take 4)).getD []
        if byteAt ent 0 % 4 = 0 then (s3.sendSlow k (byteAt ent 1 % 16) p.reason).pktLeave k else s3.pktLeave k
      else s3.pktLeave k

/-- TAIL_GOOD. -/
def execTailGood (pkt : Nat) (s : State) : Outcome State Fault Refusal := .next (tailGood pkt s)

/-- Copies of packet k in egress queues that have not started go; copies that have started end with a forced bad FCS
(10 R455 to R457, 13 R658, R659). The second part says whether one had started under a model's verdict. -/
def State.badTailEgress (s : State) (k : Nat) : State × Bool :=
  (List.range 16).foldl (fun (r : State × Bool) port =>
    match r.1.eport port with
    | none => r
    | some ep =>
      let mine := fun (e : EgrEnt) => decide (e.pkt = some k) && e.left = 0
      let n := sumN (ep.queues.map (fun q => (q.filter mine).length))
      let s1 := (List.replicate n ()).foldl (fun t _ => t.copyGone k)
        (r.1.modPort port (fun x => { x with queues := x.queues.map (fun q => q.filter (fun e => !mine e)) }))
      match ep.cur with
      | some c =>
        if c.ent.pkt = some k && c.cut then
          (((s1.countP (P.port port) R.txFcsForced c.ent.part).sentinel (P.port port) 4), r.2 || c.ent.early)
        else (s1, r.2)
      | none => (s1, r.2)) (s, false)

/-- TAIL_BAD. -/
def tailBad (k : Nat) (s : State) : State :=
  match s.pkt k with
  | none => s
  | some p =>
    if p.tail ≠ 0 then s
    else
      let s0 := s.when (p.port < 16) (fun t => (t.count (P.port p.port) R.rxFcsErr).sentinel (P.port p.port) 2)
      let s1 := (s0.leaveResv k p).modPkt k (fun x => { x with tail := 2, head := true })
      let s2 := s1.when (p.tpMask ≠ 0) (fun t => t.count (P.flow p.die) R.flowWriteWithdrawn)
      let s3 := if p.fired && !p.queued then s2.noItem k p else s2
      let s4 := (s3.unhold k).modPkt k (fun x => { x with tpMask := 0, remote := [], copies := x.copies - x.remote.length })
      let e := s4.badTailEgress k
      let vp := P.verdict p.die
      let s5 := if e.2 then ((e.1.modPkt k (fun x => { x with withdrawn := true })).countP vp R.verdictWithdrawn (recPart p.rec_)).cause vp 8 else e.1
      ((s5.slowTail k false).scoresOf k false).pktDone k

/-- TAIL_BAD. -/
def execTailBad (pkt : Nat) (s : State) : Outcome State Fault Refusal := .next (tailBad pkt s)

/-! ## Verdicts (R648 to R658) -/

/-- The SCORE of a verdict record, s32, and SCORE_VALID. -/
def vrScore (r : Bytes) : Nat := fieldLE r 8 4
def vrValid (r : Bytes) : Bool := byteAt r 12 % 2 = 1

/-- The tracker of a class on a die, as it stands: the reset values of the VERDICT page where never touched. -/
def freshTracker : Tracker := ⟨false, false, 0, 0, 0, -2147483648, 2147483647, 0, 0, 0, 0, 0⟩
def State.tracker (s : State) (d c : Nat) : Tracker := (aget s.path.trk (d * 256 + c)).getD freshTracker
def State.setTracker (s : State) (d c : Nat) (t : Tracker) : State :=
  s.modPath (fun x => { x with trk := aput x.trk (d * 256 + c) t })

/-- A record's threshold test selects BELOW: USE_THRESHOLD and SCORE at most θ (R662 step 2). -/
def State.belowTheta (s : State) (d c : Nat) (r : Bytes) : Bool :=
  actBit r 6 && decide (toS 32 (vrScore r) * 65536 ≤ (s.tracker d c).theta)

/-- The action set a verdict record stands for on die d: its own, or the class's BELOW. -/
def State.verdictSet (s : State) (d c : Nat) (clsRec r : Bytes) : Bytes := if s.belowTheta d c r then recBelow clsRec else r.take 8

/-- The latency bin of a time in ns. -/
def latBin (t : Nat) : Nat := if t < 1000 then 0 else min 7 (Nat.log2 (t / 1000) + 1)

/-- VERDICT_ARRIVE: the oldest verdict on its way to the die. -/
def verdictArrive (die : Nat) (s : State) : State :=
  match s.path.verdicts.find? (fun v => v.die = die) with
  | none => s
  | some v =>
    let s0 := s.modPath (fun t => { t with verdicts := t.verdicts.erase v })
    let vp := P.verdict die
    if !(s.ready vp && s.ready (P.rate die)) then s0
    else
      let s1 := s0.countP vp (R.verdictLat (latBin (s.ns - v.stampAt))) v.part
      let pk := s.pkt v.pkt
      let tail := (pk.map (·.tail)).getD 1
      let isHeld := (pk.map (fun p => p.held && p.release = 0)).getD false
      let s2 :=
        if isHeld && v.held then
          (s1.modPkt v.pkt (fun x => { x with verdict := some v.rec_, early := x.tail = 0, release := 1 })).countP vp R.verdictApplied v.part
        else s1.when (v.held && tail ≠ 2) (fun t => t.countP vp R.verdictLate v.part)
      let s2 := s2.trace (96 + die) 0x2B v.part [(16, 4, v.item), (20, 1, b2n (isHeld && v.held) + 2 * b2n (!isHeld && v.held && tail ≠ 2)),
        (24, 4, vrScore v.rec_)]
      -- TO_FLOW (R654, R655)
      let act := s.verdictSet die v.cls v.clsRec v.rec_
      let store := putAt (leBytes 1 (byteAt act 0 % 32) ++ (act.drop 1).take 5) 6 (leBytes 2 v.epoch)
      let s3 := s2.when (actBit v.rec_ 5 && v.flow ≠ 0xFFFFFFFF && (pk.isNone || tail ≠ 2 || !v.held)) (fun t =>
        let src := putAt (zeros 128) 52 store
        if pk.isSome then t.flowStoreFor v.pkt v.flow src (2 ^ 48 + 255 * 2 ^ 52) else t.flowStoreNow die v.flow none src (2 ^ 48 + 255 * 2 ^ 52))
      -- the tracker (R671, R661)
      let withdrawn := (pk.map (·.withdrawn)).getD false
      s3.when (vrValid v.rec_ && !withdrawn) (fun t =>
        if v.tailGood || tail ≠ 0 then t.modPath (fun x => { x with scores := x.scores ++ [(die, v.cls, vrScore v.rec_)] })
        else t.modPath (fun x => { x with scoreWait := x.scoreWait ++ [(v.pkt, die, v.cls, vrScore v.rec_)] }))

/-- VERDICT_ARRIVE. -/
def execVerdictArrive (die : Nat) (s : State) : Outcome State Fault Refusal := .next (verdictArrive die s)

/-- HOLD_DEADLINE: R643. -/
def holdDeadline (k : Nat) (s : State) : State :=
  match s.pkt k with
  | none => s
  | some p =>
    if p.held && p.fired && recMode p.rec_ = 2 && p.release = 0 && p.stampAt + recBudget p.rec_ * 1000 ≤ s.ns then
      (s.modPkt k (fun x => { x with release := 2 })).count (P.hold p.die) R.holdExpired
    else s

/-- HOLD_DEADLINE. -/
def execHoldDeadline (pkt : Nat) (s : State) : Outcome State Fault Refusal := .next (holdDeadline pkt s)

/-- A packet's item is gone without a verdict: it is released as if its deadline had passed (R646). -/
def State.noVerdict (s : State) (k : Nat) : State :=
  match s.pkt k with
  | none => s
  | some p =>
    if p.held && p.release = 0 then
      (s.modPkt k (fun x => { x with release := 3 })).countP (P.verdict p.die) R.verdictNone (recPart p.rec_)
    else s

/-- An item is no longer outstanding: its epoch's counter falls and its packet's record may go (05 R236). -/
def State.itemGone (s : State) (it : Item) : State :=
  let s1 := s.drainBy it.epoch (-1)
  match it.pkt with
  | none => s1
  | some k => (s1.modPkt k (fun x => { x with item := none })).pktLeave k

/-! ## The verdict stage (R662 to R665) -/

/-- The packet may leave its trigger stage or the hold buffer now (R638, R639, R656). -/
def State.mayLeave (s : State) (p : Pkt) : Bool :=
  p.stage = 2 &&
  (!p.held || (p.ahead.isNone && (p.release ≠ 0 || !(p.fired && recMode p.rec_ = 2)))) &&
  (match p.verdict with
    | some r => if p.release = 1 then p.tail = 1 || !actBit (s.verdictSet p.die p.cls p.rec_ r) 4 else true
    | none => true) &&
  (p.release ≠ 1 || p.verdict.isSome)

/-- What a chosen set is and does: the set, the score, UNVERDICTED, and a delivery or drop in its place (none, drop,
slow with a reason). -/
structure Choice where
  acts : Bytes
  score : Nat
  unver : Bool
  /-- 0 carry out the set, 1 drop, else the slow-path reason -/
  instead : Nat
  deriving DecidableEq, Repr

/-- Step 1 and 2 of R662: the action set, with its counters. -/
def State.choose (s : State) (p : Pkt) : State × Choice :=
  let d := p.die
  let dflt : Choice := ⟨recDefault p.rec_, 0, true, 0⟩
  if !(s.ready (P.verdict d) && s.ready (P.rate d)) then (s, dflt)
  else match p.release, p.verdict with
    | 1, some r => (s, ⟨s.verdictSet d p.cls p.rec_ r, vrScore r, false, 0⟩)
    | 2, _ => (s, if recExpire p.rec_ = 0 then dflt else { dflt with instead := if recExpire p.rec_ = 1 then 1 else 0x11 })
    | 3, _ => (s, if recExpire p.rec_ = 0 then dflt else { dflt with instead := if recExpire p.rec_ = 1 then 1 else 0x12 })
    | _, _ =>
      let c := match p.flow with | some h => s.flowCtx d (h % 2 ^ 28) | none => zeros 128
      let own := ctxValid c && c.take 48 = p.fkey && (byteAt c 48).testBit 2 && some (fieldLE c 58 2) = p.epoch
      if own then (s.count (P.trig d) R.trigFlowVerdict, ⟨padTo 8 ((c.drop 52).take 6), 0, false, 0⟩)
      else (s.count (P.trig d) R.trigUnverdicted, dflt)

/-- A bucket of a die, as it stands; all zero where never written. -/
def State.bucket (s : State) (d b : Nat) : Bucket := (aget s.path.buckets (d * 65536 + b)).getD ⟨0, 0, 0, 0, 0, 0, 0⟩
def State.setBucket (s : State) (d b : Nat) (x : Bucket) : State :=
  s.modPath (fun t => { t with buckets := aput t.buckets (d * 65536 + b) x })

/-- Meter n bytes at t ns: the bucket afterwards and whether it conforms (R666). -/
def meter (b : Bucket) (t n : Nat) : Bucket × Bool :=
  let cap := b.burst * 8000000
  let tok := min (b.tokens + b.rate * (t - b.last)) cap
  let need := n * 8000000
  if need ≤ tok then ({ b with tokens := tok - need, last := t }, true)
  else ({ b with tokens := tok, last := t, count := (b.count + 1) % 2 ^ 32 }, false)

/-- Step 3: the packet is metered; it may become a drop, a slow-path delivery or a marked packet (R667). -/
def State.meterPkt (s : State) (k : Nat) (p : Pkt) (c : Choice) : State × Choice :=
  if !actBit c.acts 4 || c.instead ≠ 0 then (s, c)
  else
    let d := p.die
    let b := actBucket c.acts
    let r := meter (s.bucket d b) s.ns (fieldLE p.key 62 2)
    let s1 := s.setBucket d b r.1
    if r.2 then (s1.count (P.rate d) R.rateConform, c)
    else
      let s2 := s1.count (P.rate d) R.rateExceed
      match r.1.exceed with
      | 0 => (s2, { c with instead := 1 })
      | 2 => (s2, { c with instead := 0x14 })
      | _ => (s2.modPkt k (fun x => { x with frame := markDscp x.frame x.ip r.1.dscp }), c)

/-- The entry of a packet's unicast destination in its die's station table. -/
def State.stMet (s : State) (p : Pkt) : Option Nat :=
  let dmac := p.key.take 6
  if byteAt dmac 0 % 2 = 1 || !s.ready (P.station p.die) then none else stFind (s.stCopy p.die) (stationKey dmac (u16be p.key 12))

/-- A lookup that met a parity error is over (12 R616). -/
def State.parityMet (s : State) (p : Pkt) : State :=
  match s.stMet p with
  | some i => s.modTab (fun t => { t with parityMiss := t.parityMiss.filter (· ≠ (p.die, i)) })
  | none => s

/-- The destinations the station table gives a packet on die d: one port, or a flood (08 R381); a packet off the
fabric goes to the port it names (16 R802). -/
def State.bridge (s : State) (p : Pkt) : List Nat × Bool :=
  if p.fabric then (p.fwd, false) else
  match ((s.stMet p).filter (fun i => !s.tab.parityMiss.contains (p.die, i))).bind (fun i => aget (s.stCopy p.die) i) with
  | some e => ([stPort e % 64], false)
  | none => ((List.range 16).filter (fun q => q ≠ p.port && s.portReady q), true)

/-- The source is a static station of another port (12 R596). -/
def State.moveBlocked (s : State) (p : Pkt) : Bool :=
  let l := s.stCopy p.die
  !p.fabric && s.rd (P.station 0) R.stationCfgMoveAction = 2 && s.ready (P.station p.die) && p.port < 16 &&
  (match (stFind l (stationKey ((p.key.drop 6).take 6) (u16be p.key 12))).bind (fun i => aget l i) with
    | some e => stFlag e 1 && stPort e % 64 ≠ p.port
    | none => false)

/-- Step 6 and the end of the stage: carry out a choice on packet k. -/
def State.carryOut (s : State) (k : Nat) (c : Choice) : State :=
  match s.pkt k with
  | none => s
  | some p =>
    let part := recPart p.rec_
    let go := fun (t : State) =>
      if c.instead = 1 then t
      else if c.instead ≠ 0 then t.sendSlow k part c.instead
      else match actDisp c.acts with
        | 0 =>
          let b := t.bridge p
          (t.parityMet p).each b.1 (fun u q => u.sendCopy k q b.2)
        | 1 => t.sendCopy k (actRedirect c.acts) false
        | 2 => t
        | _ => t.sendSlow k part 0x10
    ((go s).unhold k).pktDone k

/-- Steps 3 to 6 of R662 on a chosen set. -/
def State.applyChoice (s : State) (k : Nat) (p : Pkt) (c : Choice) : State :=
  let s1 := s.modPkt k (fun x => { x with actions := c.acts, score := c.score, unverdicted := c.unver })
  if s1.moveBlocked p then ((s1.count (P.station p.die) R.stationMoveDrop).unhold k).pktDone k
  else
    let r := if s1.ready (P.rate p.die) then s1.meterPkt k p c else (s1, c)
    let s2 := if actBit c.acts 3 && c.instead = 0 then
        r.1.modPkt k (fun x => { x with frame := markDscp x.frame x.ip (actDscp c.acts) }) else r.1
    let s3 := if actBit c.acts 2 && c.instead = 0 then
        (if actMirror c.acts = 62 then s2.sendSlow k (recPart p.rec_) 0x13 else s2.sendCopy k (actMirror c.acts) false)
      else s2
    s3.carryOut k r.2

/-- VERDICT_STAGE. -/
def verdictStage (k : Nat) (s : State) : State :=
  match s.pkt k with
  | none => s
  | some p =>
    if p.fabric || !s.mayLeave p then s
    else
      let r := s.choose p
      r.1.applyChoice k p r.2

/-- VERDICT_STAGE. -/
def execVerdictStage (pkt : Nat) (s : State) : Outcome State Fault Refusal := .next (verdictStage pkt s)

/-! ## Threshold trackers (R669 to R673) -/

/-- One update of θ by a score (R669). -/
def track (x : Tracker) (score : Int) : Tracker :=
  let d : Int := if x.theta < score * 65536 then (x.gain : Int) * (65536 - (x.target : Int)) else -((x.gain : Int) * (x.target : Int))
  let t0 := x.theta + d
  let t1 := clampI t0 (x.anchor - (x.slew : Int) * 65536) (x.anchor + (x.slew : Int) * 65536)
  let t2 := clampI t1 (x.lo * 65536) (x.hi * 65536)
  { x with theta := t2, clamped := if t2 ≠ t0 then (x.clamped + 1) % 2 ^ 32 else x.clamped }

/-- TRACKER_UPDATE: the oldest final score of the class on the die. -/
def trackerUpdate (die cls : Nat) (s : State) : State :=
  match s.path.scores.find? (fun x => x.1 = die && x.2.1 = cls) with
  | none => s
  | some x =>
    let s0 := s.modPath (fun t => { t with scores := t.scores.erase x })
    let tr := s.tracker die cls
    let sc := toS 32 x.2.2
    if !tr.enable then s0
    else
      let tr1 := if tr.theta < sc * 65536 then { tr with above := (tr.above + 1) % 2 ^ 32 } else { tr with below := (tr.below + 1) % 2 ^ 32 }
      let held := tr.freeze || (s.rd P.pwr R.pwrLoopFreeze).testBit 3
      s0.setTracker die cls (if held then tr1 else track tr1 sc)

/-- TRACKER_UPDATE. -/
def execTrackerUpdate (die cls : Nat) (s : State) : Outcome State Fault Refusal := .next (trackerUpdate die cls s)

/-- TRACKER_ANCHOR: a millisecond boundary has passed since the anchors of the die were last taken (R670). -/
def trackerAnchor (die : Nat) (s : State) : State :=
  if s.ns / 1000000 ≤ s.path.anchorAt / 1000000 then s
  else
    let s1 := s.modPath (fun t => { t with trk := t.trk.map (fun (x : Nat × Tracker) =>
      if x.1 / 256 = die then (x.1, { x.2 with anchor := x.2.theta }) else x) })
    -- every die has had its boundary once the last present one has
    if die + 1 = s.part.code.ioDies then s1.modPath (fun t => { t with anchorAt := s.ns }) else s1

/-- TRACKER_ANCHOR. -/
def execTrackerAnchor (die : Nat) (s : State) : Outcome State Fault Refusal := .next (trackerAnchor die s)

/-- TRK_INIT: a write of the register on the tracker TRK_SEL names (R673). -/
def trkInit (die theta : Nat) (s : State) : State :=
  let vp := P.verdict die
  if s.part.code.ioDies ≤ die || s.gated vp then s
  else
    let c := s.rd vp R.trkSel
    let v := toS 32 theta * 65536
    s.setTracker die c { s.tracker die c with theta := v, anchor := v }

/-- TRK_INIT. -/
def execTrkInit (die theta : Nat) (s : State) : Outcome State Fault Refusal := .next (trkInit die theta s)

/-! ## Rate buckets -/

/-- A write of 4 bytes at offset off of RATE_DATA into the bucket RATE_SEL names (R668): RATE, BURST, EXCEED and
EXCEED_DSCP may be written. A reserved EXCEED alone is discarded (06 R269). -/
def rateDataWrite (die off data : Nat) (s : State) : State :=
  let rp := P.rate die
  if s.part.code.ioDies ≤ die || s.gated rp then s
  else
    let i := s.rd rp R.rateSel
    let b := s.bucket die i
    let refill := fun (x : Bucket) => { x with tokens := x.burst * 8000000, last := s.ns }
    if off = 0 then s.setBucket die i (refill { b with rate := data % 2 ^ 32 })
    else if off = 4 then s.setBucket die i (refill { b with burst := data % 2 ^ 32 })
    else if off = 24 then
      let s1 := if data % 4 = 3 then s.illegal rp else s
      s1.setBucket die i { b with exceed := if data % 4 = 3 then b.exceed else data % 4, dscp := data / 256 % 64 }
    else s

/-- RATE_DATA_WRITE. -/
def execRateDataWrite (die off data : Nat) (s : State) : Outcome State Fault Refusal := .next (rateDataWrite die off data s)

end Sys2Proof.Machine
end

