-- ==== Sys2Proof/Machine/Maps.lean ====
section
/-! DEFINITION. Machine/Maps.lean: shard maps: announcements, publication, adoption (15 Shard maps and coverage; 16
Shard maps and search routing). -/

namespace Sys2Proof.Machine

open Host (Outcome)

/-- s with the search state changed. -/
def State.modNse (s : State) (g : NseSt → NseSt) : State := { s with nse := g s.nse }

/-- OWNER of a channel. -/
def chanOwner (d : Bytes) : Nat := fieldLE d 7 1 % 16

/-- The owner of channel ch, where it is defined here. -/
def State.chanPart (s : State) (ch : Nat) : Option Nat := (aget s.nse.channels ch).map chanOwner

/-- The map held of channel ch. -/
def State.shardMap (s : State) (ch : Nat) : Option ShardMap := aget s.nse.maps ch

/-- The generation held, 0 for none: the next one published is one above it. -/
def State.mapGen (s : State) (ch : Nat) : Nat := ((s.shardMap ch).map (·.gen)).getD 0

/-- Entries of a map. -/
def State.mapEnts (s : State) (ch : Nat) : List MapEnt := ((s.shardMap ch).map (·.ents)).getD []

/-- Put an entry in its place by shard. -/
def putEnt : List MapEnt → MapEnt → List MapEnt
  | [], e => [e]
  | x :: l, e => if e.shard < x.shard then e :: x :: l else if e.shard = x.shard then e :: l else x :: putEnt l e

/-- Adopt a generation of a channel (R817), with the cause MAP_CHANGE. -/
def State.adopt (s : State) (ch : Nat) (m : ShardMap) : State :=
  (s.modNse (fun n => { n with maps := aput n.maps ch m, rx := adel n.rx ch })).cause (P.nse 0) 9

/-- The PUBLISH frames of a map: fragment f carries the entries of shards 1024 f to 1024 f + 1023. -/
def publishBodies (ch : Nat) (m : ShardMap) : List MBody :=
  let n := (m.ents.foldl (fun b e => max b e.shard) 0) / 1024 + 1
  (List.range n).map (fun f => .publish ch m.gen f n (m.ents.filter (fun e => e.shard / 1024 = f)))

/-- Publish a new generation of a channel with these entries: this device adopts it too. -/
def State.publish (s : State) (ch : Nat) (ents : List MapEnt) : State :=
  let m : ShardMap := ⟨(s.mapGen ch + 1) % 65536, ents⟩
  ((s.adopt ch m).count P.fab R.fabMapPub).each (publishBodies ch m) (fun t b => t.flood b)

/-- Port by which a member that has no route yet reaches its manager: the first whose peer names that manager. -/
def State.mgrPort (s : State) : Option Nat :=
  s.upPorts.find? (fun p => match (s.fport p).bind (·.peer), s.fab.mgr with
    | some h, some m => h.mgrId ≠ 0xFF && h.mgrSerial = m.serial
    | _, _ => false)

/-- Send a body to the manager; a device without a route leaves it to its link peer (R782). -/
def State.toManager (s : State) (b : MBody) : State :=
  let fr := s.mkFrame s.mgrId b
  match (s.hopFor fr).or s.mgrPort with
  | some p => s.fabQueue p fr
  | none => s.count P.fab R.fabNorouteDrop

/-! ## The manager's side (15 R734, R735; 16 R818) -/

/-- Entries of a channel after one announcement, and how many shards that excludes (R734): a shape other than that of
the channel's first announced shard, and the higher of two holders. -/
def takeAnnounce (shapes : List (Nat × Nat)) (ents : List MapEnt) (a : Announce) : List MapEnt × Nat :=
  let e : MapEnt := ⟨a.shard, a.device, 1, a.vectors⟩
  if (match aget shapes a.channel with | some x => decide (x ≠ a.shape) | none => false) then (ents, 1)
  else match ents.find? (fun x => x.shard = a.shard) with
    | none => (putEnt ents e, 0)
    | some o => if o.device = a.device then (putEnt ents e, 0) else if o.device < a.device then (ents, 1) else (putEnt ents e, 1)

/-- The shape that counts for a channel from its first announced shard on. -/
def State.noteShape (s : State) (a : Announce) : State :=
  if (aget s.nse.shapes a.channel).isSome then s else s.modNse (fun n => { n with shapes := aput n.shapes a.channel a.shape })

/-- This device publishes maps: it is manager, or alone. -/
def State.ownsMaps (s : State) : Bool := s.role = 2 || s.role = 0

/-- A manager that has claimed and not published yet (R818). -/
def State.collecting (s : State) : Bool := s.role = 2 && s.fab.claimAt.isSome && !s.fab.published

/-- An announcement reaches the owner of the maps. -/
def State.announced (s : State) (a : Announce) : State :=
  if s.collecting then s.modNse (fun n => { n with announced := n.announced ++ [a] })
  else
    let s1 := s.noteShape a
    let r := takeAnnounce s1.nse.shapes (s1.mapEnts a.channel) a
    let s2 := s1.countN P.fab R.fabShardReject r.2
    if r.1 = s1.mapEnts a.channel then s2 else s2.publish a.channel r.1

/-- A shard is withdrawn: only that removes it from the map (R735). -/
def State.withdrawn (s : State) (d ch sh : Nat) : State :=
  let es := s.mapEnts ch
  let es1 := es.filter (fun e => !(e.shard = sh && e.device = d))
  let s1 := s.modNse (fun n => { n with
    announced := n.announced.filter (fun a => !(a.device = d && a.channel = ch && a.shard = sh))
    shapes := if es1 = [] then adel n.shapes ch else n.shapes })
  if es1 = es then s1 else s1.publish ch es1

/-- The shards of device d become UNAVAILABLE (R735). -/
def State.holderGone (s : State) (d : Nat) : State :=
  (s.nse.maps.filter (fun (x : Nat × ShardMap) => x.2.ents.any (fun e => e.device = d && e.state = 1))).foldl (fun t (x : Nat × ShardMap) =>
    t.publish x.1 (x.2.ents.map (fun e => if e.device = d then { e with state := 2 } else e))) s

/-- POST_CLAIM_PUBLISH: 1 ms after its CLAIM, the manager publishes each channel; shards not announced since are
UNAVAILABLE (R818). -/
def postClaimPublish (s : State) : State :=
  match s.fab.claimAt with
  | none => s
  | some t0 =>
    if s.role ≠ 2 || s.fab.published || s.ns < t0 + 1000000 then s
    else
      let as_ := s.nse.announced
      let s1 := (s.modFab (fun f => { f with published := true })).modNse (fun n => { n with announced := [] })
      let s2 := s1.each as_ State.noteShape
      let chs := (List.range 256).filter (fun c => (s.shardMap c).isSome || as_.any (fun a => a.channel = c))
      s2.each chs (fun t c =>
        let base := (t.mapEnts c).map (fun e => { e with state := 2 })
        let r := (as_.filter (fun a => a.channel = c)).foldl (fun (r : List MapEnt × Nat) a =>
          let x := takeAnnounce t.nse.shapes r.1 a
          (x.1, r.2 + x.2)) (base, 0)
        (t.countN P.fab R.fabShardReject r.2).publish c r.1)

/-- POST_CLAIM_PUBLISH. -/
def execPostClaimPublish (s : State) : Outcome State Fault Refusal := .next (postClaimPublish s)

/-! ## Holders (15 R719; 16 R818) -/

/-- The shape fields of a channel descriptor: KIND, METRIC, FORMAT, DIMS, DEGREE. -/
def descShape (d : Bytes) : Nat :=
  fieldLE d 0 1 / 2 % 2 + 2 * (fieldLE d 1 1 % 4) + 8 * (fieldLE d 2 1 % 16) + 128 * (fieldLE d 4 2 % 2048) + 262144 * (fieldLE d 6 1 % 128)

/-- Descriptor of a channel. -/
def State.channel (s : State) (ch : Nat) : Option Bytes := aget s.nse.channels ch

/-- Announce a held shard to the manager, or to this device alone (R719); a quarantined device holds no shards. -/
def State.announceShard (s : State) (h : Shard) : State :=
  let shape := descShape ((s.channel h.channel).getD [])
  if h.check || h.leaving.isSome || s.quarantined then s
  else if s.ownsMaps then s.announced ⟨s.rd P.fab R.fabStatusDeviceId, h.channel, h.shard, h.vectors, shape⟩
  else if s.role = 3 then s.toManager (.announce h.channel h.shard h.vectors shape)
  else s

/-- Announce every held shard (R818). -/
def State.announceAll (s : State) : State := s.each s.nse.shards State.announceShard

/-- R789: alone, the device publishes its own maps: other holders' shards are UNAVAILABLE, its own AVAILABLE at ID 0. -/
def State.aloneMaps (s : State) (old : Nat) : State :=
  s.nse.maps.foldl (fun t (x : Nat × ShardMap) =>
    t.publish x.1 (x.2.ents.map (fun e => if e.device = old then { e with device := 0, state := 1 } else { e with state := 2 }))) s

/-! ## Frames -/

/-- MAP_ANNOUNCE: a member in good standing announces a shard to the manager. -/
def execMapAnnounce (port : Nat) (frame : MFrame) (s : State) : Outcome State Fault Refusal :=
  .next (s.fabFor port frame (fun t =>
    match frame.body with
    | .announce ch sh v shape =>
      if t.role = 2 && !t.fab.quarantined.contains frame.src then t.announced ⟨frame.src, ch, sh, v, shape⟩ else t
    | _ => t))

/-- MAP_WITHDRAW (R720). -/
def execMapWithdraw (port : Nat) (frame : MFrame) (s : State) : Outcome State Fault Refusal :=
  .next (s.fabFor port frame (fun t =>
    match frame.body with
    | .withdraw ch sh => if t.role = 2 then t.withdrawn frame.src ch sh else t
    | _ => t))

/-- A fragment of a generation; all of them held, the generation is adopted, unless a later one is held (R817). -/
def State.takePublish (s : State) (ch gen f n : Nat) (ents : List MapEnt) : State :=
  let old := match s.shardMap ch with | some m => m.gen = gen || seqLater 16 m.gen gen | none => false
  if old then s
  else
    let r := match aget s.nse.rx ch with
      | some r => if r.gen = gen && r.frags = n then r else ⟨gen, n, [], []⟩
      | none => ⟨gen, n, [], []⟩
    let r1 : MapRx := if r.got.contains f then r else { r with got := f :: r.got, ents := ents.foldl putEnt r.ents }
    if r1.got.length = n then s.adopt ch ⟨gen, r1.ents⟩ else s.modNse (fun x => { x with rx := aput x.rx ch r1 })

/-- MAP_PUBLISH (R817). -/
def execMapPublish (port : Nat) (frame : MFrame) (s : State) : Outcome State Fault Refusal :=
  .next (s.fabFor port frame (fun t =>
    match frame.body with
    | .publish ch gen f n ents => if t.role = 2 then t else t.takePublish ch gen f n ents
    | _ => t))

/-- MAP_FETCH: the manager answers with its current generation (R817). -/
def execMapFetch (port : Nat) (frame : MFrame) (s : State) : Outcome State Fault Refusal :=
  .next (s.fabFor port frame (fun t =>
    match frame.body, t.shardMap (match frame.body with | .fetch ch => ch | _ => 256) with
    | .fetch ch, some m => if t.role = 2 then t.each (publishBodies ch m) (fun u b => u.unicast frame.src b) else t
    | _, _ => t))

/-- Fetch the manager's current map of a channel (15 R740); the manager holds it. -/
def State.fetchMap (s : State) (ch : Nat) : State :=
  let s1 := s.countO (P.nse 0) R.nseMapFetch 1 (s.chanPart ch)
  if s1.role = 3 || s1.role = 4 then s1.toManager (.fetch ch) else s1

end Sys2Proof.Machine
end

