-- ==== Sys2Proof/Machine/Quadrille.lean ====
section
/-! DEFINITION. Machine/Quadrille.lean: roles and quarantine, EPOCH_COMMIT FABRIC, the steps of Quadrille, its failures,
rejoin (16 R752 to R755, R803 to R816). -/

namespace Sys2Proof.Machine

open Host (Outcome)

/-! ## Roles and quarantine (R752 to R755) -/

/-- Set the role, with its causes. -/
def State.setRole (s : State) (r : Nat) : State :=
  if s.rd P.fab R.fabStatusRole = r then s
  else
    let s1 := (s.wr P.fab R.fabStatusRole r).cause P.fab 8
    if r = 4 then s1.cause P.fab 9 else if r = 1 then s1.cause P.fab 10 else s1

/-- This device's UP links as it reports them (R772): port, peer serial, peer ID, peer port. -/
def State.ownLinks (s : State) : List (Nat × Nat × Nat × Nat) :=
  s.upPorts.filterMap (fun p => ((s.fport p).bind (·.peer)).map (fun h => (p, h.serial, h.id, h.port)))

/-- The manager learns device d's links. -/
def State.takeLinks (s : State) (d : Nat) (l : List (Nat × Nat × Nat × Nat)) : State :=
  let new := (l.filter (fun x => x.2.2.1 < 64)).map (fun x => (d, x.1, x.2.2.1, x.2.2.2))
  let links := s.fab.links.filter (fun x => x.1 ≠ d && x.2.2.1 ≠ d) ++ new
  if links = s.fab.links then s else s.modFab (fun f => { f with links := links, linksDirty := true })

/-- Report neighbours and standing to the manager (R772; log entry 60). -/
def State.report (s : State) : State :=
  if s.role = 2 then s.takeLinks s.myId s.ownLinks
  else if s.role = 3 || s.role = 4 then s.toManager (.neighbours s.myId s.role s.ownLinks)
  else s

/-- The fabric epoch; alone, the device's own. -/
def State.fabEpoch (s : State) : Nat := if s.role = 0 then s.epoch else s.rd P.fabEpoch R.qEpochsFabric

/-- s with the fabric epoch. -/
def State.setFabEpoch (s : State) (e : Nat) : State := s.wr P.fabEpoch R.qEpochsFabric e

/-- Set the quarantine reasons of a member: [0] DIGEST, [1] BEHIND. One that enters or leaves QUARANTINE reports it; one
that leaves announces its shards again (R753 to R755). -/
def State.setQ (s : State) (r : Nat) : State :=
  if s.rd P.fab R.fabStatusQReason = r then s
  else
    let s1 := s.wr P.fab R.fabStatusQReason r
    if s.role = 3 && r ≠ 0 then (s1.setRole 4).report
    else if s.role = 4 && r = 0 then ((s1.setRole 3).report).announceAll
    else s1

/-- The BEHIND reason follows the fabric epoch as a member learns it. -/
def State.behind (s : State) (b : Bool) : State := s.setQ (putBits (s.rd P.fab R.fabStatusQReason) 1 1 (b2n b))

/-- The manager takes device d out: it is quarantined, its shards are UNAVAILABLE (R735, R813, R814). -/
def State.quarantineDev (s : State) (d : Nat) : State :=
  (s.modFab (fun f => { f with quarantined := if f.quarantined.contains d then f.quarantined else f.quarantined ++ [d] })).holderGone d

/-- Device d is in good standing again. -/
def State.restoreDev (s : State) (d : Nat) : State := s.modFab (fun f => { f with quarantined := f.quarantined.filter (· ≠ d) })

/-! ## The commit in progress -/

/-- The new epoch of a commit. -/
def Quad.newEpoch (q : Quad) : Nat := (q.expect + 1) % 65536

/-- s with the commit in progress and Q_STATE, the FAB_EPOCH page following. -/
def State.setQuad (s : State) (q : Quad) (st : Nat) : State :=
  let s1 := s.modFab (fun f => { f with quad := some q })
  ((((((s1.wr P.fabEpoch R.qState st).wr P.fabEpoch R.qCommitId q.commitId).wr P.fabEpoch R.qEpochsNew q.newEpoch).wr P.fabEpoch
    R.qFlipTime q.flip).wr P.fabEpoch R.qPart q.parts).wr P.fabEpoch R.qArmed q.armed).wr P.fabEpoch R.qFlipped q.flipped

/-- No commit is in progress. -/
def State.noQuad (s : State) : State := (s.modFab (fun f => { f with quad := none })).wr P.fabEpoch R.qState 0

/-- A mask without device d. -/
def dropBit (m d : Nat) : Nat := if m.testBit d then m - 2 ^ d else m

/-- The STAGED banks' digests of selected slots, zero for RETIRE_PENDING (Steps, STAGE). -/
def State.stageDigests (s : State) (mask : Nat) : List (Nat × Bytes) :=
  (maskSlots mask).map (fun n => (n, match (s.mslot n).inState 2 with | some b => padTo 48 ((s.mslot n).bank b).digest | none => zeros 48))

/-- Digests of the LIVE banks of a slot set. -/
def liveDigests (l : List (Nat × MSlot)) : List (Nat × Bytes) :=
  l.filterMap (fun (x : Nat × MSlot) => (x.2.inState 3).map (fun b => (x.1, padTo 48 (x.2.bank b).digest)))

/-- COMMIT_ABORTED reason of a failed check (R805). -/
def failReason (st : Nat) : Nat := if st = St.badSlot then 2 else if st = St.noResource then 7 else 1

/-- Retire the commit's entry with COMMIT_ABORTED: reason and device (0x3F: none). -/
def State.commitAborted (s : State) (q : Quad) (reason id : Nat) : State :=
  let d := reason + id % 64 * 256
  let s1 := ((s.noQuad).wr P.fabEpoch R.qLastAbort d).count P.fabEpoch R.qAborts
  match q.entry with
  | some i => s1.finish 0 i St.commitAborted d
  | none => s1

/-- The other participants. -/
def State.others (s : State) (q : Quad) : List Nat := (bitList q.parts 64).filter (· ≠ s.myId)

/-- The manager aborts (R812): ABORT to every participant, and its own disarming. -/
def State.quadAbort (s : State) (q : Quad) (reason id : Nat) : State :=
  (s.each (s.others q) (fun t d => t.unicast d (.abort q.commitId reason))).commitAborted q reason id

/-- The commit retires (R811) once every participant left has sent FLIPPED. -/
def State.quadRetire (s : State) (q : Quad) : State :=
  if q.parts &&& q.flipped ≠ q.parts then s
  else
    let s1 := s.noQuad.count P.fabEpoch R.qCommits
    match q.entry with
    | some i => s1.finish 0 i St.success (q.newEpoch + 65536 * (bitList q.excluded 64).length)
    | none => s1

/-- FLIP goes out once every participant left is ARMED (R808). -/
def State.quadSendFlip (s : State) (q : Quad) : State :=
  if q.parts &&& q.armed ≠ q.parts then s
  else (s.each (s.others q) (fun t d => t.unicast d (.flip q.commitId))).setQuad { q with go := true } 4

/-- A whole µs of fabric time at or after now plus n ns. -/
def State.usAfter (s : State) (n : Nat) : Nat := ((s.fab16 + n * 65536 + 65535999) / 65536000).toNat * 1000

/-- ARM goes out once every participant left has sent STAGE OK with equal digests (R806); the manager journals its own
ARMED record (R807). -/
def State.quadSendArm (s : State) (q : Quad) : State :=
  if q.parts &&& q.staged ≠ q.parts then s
  else
    let own := (aget q.digests s.myId).getD []
    match (s.others q).find? (fun d => aget q.digests d ≠ some own) with
    | some d => s.quadAbort q 3 d
    | none =>
      let flip := max (roundUp q.asked 1000) (s.usAfter (s.rd P.fab R.fabCfg1ArmLeadUs * 1000))
      let q1 := { q with flip := flip, armed := 2 ^ s.myId, staged := q.staged }
      let s1 := (s.journalArm 1 q.mask q.newEpoch flip).setQuad q1 3
      (s1.each (s1.others q1) (fun t d => t.unicast d (.arm q.commitId flip))).quadSendFlip q1

/-- The manager goes on as far as replies allow. -/
def State.quadAdvance (s : State) : State :=
  match s.fab.quad with
  | none => s
  | some q => if !q.manager then s else if q.flip = 0 then s.quadSendArm q else if !q.go then s.quadSendFlip q else s.quadRetire q

/-- A participant fails before FLIP (R812, R813). -/
def State.quadFail (s : State) (reason d : Nat) : State :=
  match s.fab.quad with
  | none => s
  | some q =>
    if !q.manager || q.go || !q.parts.testBit d then s
    else if s.on P.fab R.fabCfg0CommitPolicy && d ≠ s.myId &&
        (bitList q.excluded 64).length < s.rd P.fab R.fabCfg0ExcludeMax then
      let q1 := { q with parts := dropBit q.parts d, excluded := q.excluded + 2 ^ d }
      ((((s.setQuad q1 (s.rd P.fabEpoch R.qState)).count P.fabEpoch R.qExcluded).quarantineDev d)).quadAdvance
    else s.quadAbort q reason d

/-- An election begins (R815, R781): before the flip edge a commit ends, on the manager with reason ELECTION. -/
def State.quadElection (s : State) : State :=
  match s.fab.quad with
  | none => s
  | some q =>
    if q.flip ≠ 0 && (q.flip : Int) * 65536 ≤ s.fab16 then s
    else if q.entry.isSome then s.commitAborted q 6 0x3F
    else s.noQuad

/-- This device flips (R246, R247, R809): slots, epoch, journal, fabric epoch. -/
def State.quadFlip (s : State) (q : Quad) : State := (((s.flipTo q.mask q.newEpoch).journalFlipped).setFabEpoch q.newEpoch)

/-! ## The command -/

/-- A fresh commit. -/
def newQuad (manager : Bool) (id expect mask : Nat) (entry : Option Nat) : Quad :=
  { manager := manager, commitId := id, expect := expect, mask := mask, flip := 0, asked := 0, parts := 0, staged := 0, armed := 0, flipped := 0,
    msgFlip := 0, excluded := 0, digests := [], go := false, ownMsg := false, entry := entry, proposeAt := 0, nowAt := 0, seq := 0 }

/-- EPOCH_COMMIT FABRIC (0x55 MODE 1): R803, R804; R780 during an election; R816 in QUARANTINE. -/
def epochCommitFabric (i : Nat) (s : State) : State :=
  s.withCmd 0 i 0x55 (fun t e =>
    let mask := e.fld 16 32
    let expect := e.fld 48 2
    if (e.fld 50 1) % 2 ≠ 1 then s
    else if t.fab.quad.isSome then s
    else if t.role = 1 then t.finish 0 i St.election 0
    else if t.role = 3 then t.finish 0 i St.badParam 50
    else match t.commitCheck expect mask with
      | some (st, d) => t.finish 0 i st d
      | none =>
        if t.role = 0 then
          let e1 := (t.epoch + 1) % 65536
          (((t.journalArm 0 mask e1 t.fns).flipTo mask e1).journalFlipped).finish 0 i St.success e1
        else if t.role = 4 then
          if t.rd P.fab R.fabStatusQReason ≠ 2 then t.finish 0 i St.commitAborted (3 + 0x3F00)
          else
            (t.setQuad (newQuad false 0 expect mask (some i)) 5).toManager
              (.rejoin (t.rd P.dev R.devSerial) (liveDigests (t.slotsAfter mask t.fabEpoch)))
        else
          let id := (t.rd P.fabEpoch R.qCommitId + 1) % 2 ^ 32
          let ds := (t.fab.ids.map (fun (x : Nat × Nat) => x.2)).filter (fun d => d ≠ t.myId && t.reachable d && !t.fab.quarantined.contains d)
          let q := { newQuad true id expect mask (some i) with
            asked := e.fld 52 8
            parts := sumN ((t.myId :: ds).map (fun d => 2 ^ d))
            staged := 2 ^ t.myId
            digests := [(t.myId, t.stageDigests mask)]
            proposeAt := t.ns }
          ((t.setQuad q 1).each ds (fun u d => u.unicast d (.propose id expect mask))).quadAdvance)

/-- EPOCH_COMMIT_FABRIC. -/
def execEpochCommitFabric (i : Nat) (s : State) : Outcome State Fault Refusal := .next (epochCommitFabric i s)

/-! ## Steps on a participant -/

/-- A frame of Quadrille from the manager to a member in good standing. -/
def State.quadWorker (s : State) (fr : MFrame) : Bool := s.role = 3 && fr.src = s.mgrId

/-- QUAD_PROPOSE: the checks of R241 to R243 on itself, and STAGE (R805). -/
def execQuadPropose (port : Nat) (frame : MFrame) (s : State) : Outcome State Fault Refusal :=
  .next (s.fabFor port frame (fun t =>
    match frame.body with
    | .propose id expect mask =>
      if !t.quadWorker frame then t
      else match t.commitCheck expect mask with
        | some (st, _) => t.noQuad.toManager (.stage id (failReason st) [])
        | none => (t.setQuad (newQuad false id expect mask none) 2).toManager (.stage id 0 (t.stageDigests mask))
    | _ => t))

/-- QUAD_ARM: the ARMED journal record, then ARMED (R807); MSG_FLIP while TIME_DEGRADED. -/
def execQuadArm (port : Nat) (frame : MFrame) (s : State) : Outcome State Fault Refusal :=
  .next (s.fabFor port frame (fun t =>
    match frame.body, t.fab.quad with
    | .arm id flip, some q =>
      if !t.quadWorker frame || q.commitId ≠ id || q.flip ≠ 0 then t
      else match t.commitCheck q.expect q.mask with
        | some (st, _) => t.noQuad.toManager (.armed id (failReason st) false)
        | none =>
          ((t.journalArm 1 q.mask q.newEpoch flip).setQuad { q with flip := flip, ownMsg := t.degraded } 3).toManager (.armed id 0 t.degraded)
    | _, _ => t))

/-- QUAD_FLIP: in time up to FLIP_TIME − 2 µs (R809). -/
def execQuadFlip (port : Nat) (frame : MFrame) (s : State) : Outcome State Fault Refusal :=
  .next (s.fabFor port frame (fun t =>
    match frame.body, t.fab.quad with
    | .flip id, some q =>
      if t.quadWorker frame && q.commitId = id && q.flip ≠ 0 && t.fab16 ≤ ((q.flip : Int) - 2000) * 65536 then t.setQuad { q with go := true } 4
      else t
    | _, _ => t))

/-- FLIP_TIME_REACHED: fabric time is at least FLIP_TIME (R809, R810). The manager also sends FLIP_NOW. -/
def flipTimeReached (s : State) : State :=
  match s.fab.quad with
  | none => s
  | some q =>
    if q.flip = 0 || s.fab16 < (q.flip : Int) * 65536 then s
    else if q.manager then
      if !q.go || q.flipped.testBit s.myId then s
      else
        let q1 := { q with flipped := q.flipped + 2 ^ s.myId, nowAt := s.ns }
        (((s.quadFlip q).setQuad q1 4).each (bitList (q.msgFlip &&& q.parts) 64) (fun t d => t.unicast d (.flipNow q.commitId))).quadAdvance
    else if q.go && q.ownMsg then s
    else if q.go && !s.degraded then ((s.quadFlip q).noQuad).toManager (.flipped q.commitId q.newEpoch)
    else s.noQuad.count P.fabEpoch R.qDisarmed

/-- FLIP_TIME_REACHED. -/
def execFlipTimeReached (s : State) : Outcome State Fault Refusal := .next (flipTimeReached s)

/-- QUAD_FLIP_NOW: a participant that sent MSG_FLIP flips (R810); one that has flipped already answers again. -/
def execQuadFlipNow (port : Nat) (frame : MFrame) (s : State) : Outcome State Fault Refusal :=
  .next (s.fabFor port frame (fun t =>
    match frame.body with
    | .flipNow id =>
      if !t.quadWorker frame then t
      else match t.fab.quad with
        | some q => if q.commitId = id && q.ownMsg && q.flip ≠ 0 then ((t.quadFlip q).noQuad).toManager (.flipped id q.newEpoch) else t
        | none => if t.rd P.fabEpoch R.qCommitId = id && t.rd P.fabEpoch R.qEpochsNew = t.epoch then t.toManager (.flipped id t.epoch) else t
    | _ => t))

/-- QUAD_ABORT: the participant disarms (R812). -/
def execQuadAbort (port : Nat) (frame : MFrame) (s : State) : Outcome State Fault Refusal :=
  .next (s.fabFor port frame (fun t =>
    match frame.body, t.fab.quad with
    | .abort id _, some q => if t.quadWorker frame && q.commitId = id && !q.manager then t.noQuad else t
    | _, _ => t))

/-! ## Steps on the manager -/

/-- The manager's commit, where this frame's commit ID and sender belong to it. -/
def State.quadOf (s : State) (fr : MFrame) (id : Nat) : Option Quad :=
  match s.fab.quad with
  | some q => if q.manager && q.commitId = id && q.parts.testBit fr.src then some q else none
  | none => none

/-- QUAD_STAGE (R805, R806). -/
def execQuadStage (port : Nat) (frame : MFrame) (s : State) : Outcome State Fault Refusal :=
  .next (s.fabFor port frame (fun t =>
    match frame.body with
    | .stage id reason ds =>
      match t.quadOf frame id with
      | none => t
      | some q =>
        if q.flip ≠ 0 || q.staged.testBit frame.src then t
        else if reason ≠ 0 then t.quadFail reason frame.src
        else (t.setQuad { q with staged := q.staged + 2 ^ frame.src, digests := aput q.digests frame.src ds } 1).quadAdvance
    | _ => t))

/-- QUAD_ARMED: one that arrives by FLIP_TIME − 20 µs counts (R808). -/
def execQuadArmed (port : Nat) (frame : MFrame) (s : State) : Outcome State Fault Refusal :=
  .next (s.fabFor port frame (fun t =>
    match frame.body with
    | .armed id reason msg =>
      match t.quadOf frame id with
      | none => t
      | some q =>
        if q.flip = 0 || q.go || q.armed.testBit frame.src then t
        else if reason ≠ 0 then t.quadFail reason frame.src
        else if ((q.flip : Int) - 20000) * 65536 < t.fab16 then t
        else (t.setQuad { q with armed := q.armed + 2 ^ frame.src, msgFlip := q.msgFlip + (if msg then 2 ^ frame.src else 0) } 3).quadAdvance
    | _ => t))

/-- QUAD_FLIPPED (R811). -/
def execQuadFlipped (port : Nat) (frame : MFrame) (s : State) : Outcome State Fault Refusal :=
  .next (s.fabFor port frame (fun t =>
    match frame.body with
    | .flipped id _ =>
      match t.quadOf frame id with
      | none => t
      | some q => if !q.go || q.flipped.testBit frame.src then t else (t.setQuad { q with flipped := q.flipped + 2 ^ frame.src } 4).quadAdvance
    | _ => t))

/-- STAGE_TIMEOUT: STAGE_TIMEOUT_US without a reply (R812). -/
def stageTimeout (s : State) : State :=
  match s.fab.quad with
  | none => s
  | some q =>
    if !q.manager || q.flip ≠ 0 || s.ns < q.proposeAt + s.rd P.fab R.fabCfg3 * 1000 then s
    else s.each ((bitList q.parts 64).filter (fun d => !q.staged.testBit d)) (fun t d => t.quadFail 4 d)

/-- STAGE_TIMEOUT. -/
def execStageTimeout (s : State) : Outcome State Fault Refusal := .next (stageTimeout s)

/-- ARM_LATE: an ARMED is missing at FLIP_TIME − 20 µs (R808). -/
def armLate (s : State) : State :=
  match s.fab.quad with
  | none => s
  | some q =>
    if !q.manager || q.flip = 0 || q.go || s.fab16 ≤ ((q.flip : Int) - 20000) * 65536 then s
    else s.each ((bitList q.parts 64).filter (fun d => !q.armed.testBit d)) (fun t d => t.quadFail 8 d)

/-- ARM_LATE. -/
def execArmLate (s : State) : Outcome State Fault Refusal := .next (armLate s)

/-- FLIP_NOW_REPEAT: every 10 µs until FLIPPED arrives (R810). -/
def flipNowRepeat (s : State) : State :=
  match s.fab.quad with
  | none => s
  | some q =>
    let due := bitList (q.msgFlip &&& q.parts) 64 |>.filter (fun d => !q.flipped.testBit d)
    if !q.manager || !q.flipped.testBit s.myId || due = [] || s.ns < q.nowAt + 10000 then s
    else (s.setQuad { q with nowAt := s.ns } 4).each due (fun t d => t.unicast d (.flipNow q.commitId))

/-- FLIP_NOW_REPEAT. -/
def execFlipNowRepeat (s : State) : Outcome State Fault Refusal := .next (flipNowRepeat s)

/-- FLIPPED_TIMEOUT: 100 µs after FLIP_TIME the participants without FLIPPED are quarantined (R814). -/
def flippedTimeout (s : State) : State :=
  match s.fab.quad with
  | none => s
  | some q =>
    if !q.manager || !q.flipped.testBit s.myId || s.fab16 < ((q.flip : Int) + 100000) * 65536 then s
    else
      let late := (bitList q.parts 64).filter (fun d => !q.flipped.testBit d)
      let q1 := { q with parts := q.parts &&& q.flipped, excluded := q.excluded + sumN (late.map (fun d => 2 ^ d)) }
      ((s.setQuad q1 4).each late State.quarantineDev).quadAdvance

/-- FLIPPED_TIMEOUT. -/
def execFlippedTimeout (s : State) : Outcome State Fault Refusal := .next (flippedTimeout s)

/-! ## Rejoin (R816) -/

/-- The manager's answer to REJOIN: the digests equal the fabric epoch's slot set. -/
def State.answerRejoin (s : State) (d : Nat) (ds : List (Nat × Bytes)) : State :=
  let ok := s.epoch = s.fabEpoch && ds = liveDigests s.mods.slots
  (if ok then s.restoreDev d else s).unicast d (.rejoinReply ok s.fabEpoch)

/-- The reply reaches the device: it flips to the fabric epoch value, or gives up. -/
def State.rejoined (s : State) (q : Quad) (ok : Bool) (e1 : Nat) : State :=
  if ok then
    let s1 := ((((s.journalArm 1 q.mask e1 s.fns).flipTo q.mask e1).journalFlipped).setFabEpoch e1).noQuad.count P.fabEpoch R.qRejoins
    let s2 := s1.behind false
    match q.entry with
    | some i => s2.finish 0 i St.success e1
    | none => s2
  else s.commitAborted q 3 0x3F

/-- QUAD_REJOIN: the request on the manager, the reply on the device. -/
def execQuadRejoin (port : Nat) (frame : MFrame) (s : State) : Outcome State Fault Refusal :=
  .next (s.fabFor port frame (fun t =>
    match frame.body, t.fab.quad with
    | .rejoin _ ds, _ => if t.role = 2 then t.answerRejoin frame.src ds else t
    | .rejoinReply ok e1, some q =>
      if t.role = 4 && t.rd P.fabEpoch R.qState = 5 && frame.src = t.mgrId then t.rejoined q ok e1 else t
    | _, _ => t))

end Sys2Proof.Machine
end

