-- ==== Sys2Proof/Machine/Carry.lean ====
section
/-! DEFINITION. Machine/Carry.lean: packets over the fabric (16 R800 to R802; 13 R665). -/

namespace Sys2Proof.Machine

open Host (Outcome)

/-- The DATA frame of packet p to remote port r: its header fields, the frame without FCS or tag (R800). -/
def State.dataFrame (s : State) (p : Pkt) (r : Nat) : MFrame :=
  { s.mkFrame (s.rd P.fab (R.fabRportDevice r)) (.data p.frame) with
    epoch := p.epoch.getD s.epoch
    gen := p.gen % 8
    part := recPart p.rec_
    flags := b2n p.unverdicted + 2 * b2n s.degraded
    cls := p.cls
    egress := s.rd P.fab (R.fabRportRport r)
    actions := leNat p.actions
    score := if p.unverdicted then 0 else p.score
    flow := flowField p.flow }

/-- DATA_SEND: after its good tail a packet leaves for its remote ports, one frame a call. -/
def dataSend (k : Nat) (s : State) : State :=
  match s.pkt k with
  | none => s
  | some p =>
    match p.remote with
    | [] => s
    | r :: rest =>
      if p.tail ≠ 1 then s
      else ((s.modPkt k (fun x => { x with remote := rest })).fabRoute (s.dataFrame p r)).copyGone k

/-- DATA_SEND. -/
def execDataSend (pkt : Nat) (s : State) : Outcome State Fault Refusal := .next (dataSend pkt s)

/-- An epoch that counts as resident for a packet off the fabric: a resident one, or one armed under Quadrille (R801). -/
def State.carriedOk (s : State) (e : Nat) : Bool :=
  s.resident e || (match s.fab.quad with | some q => q.flip ≠ 0 && q.newEpoch = e | none => false)

/-- The packet a DATA frame carries, as this device sees it: parsed for its tags and headers only (log entry 62). -/
def State.carried (s : State) (fr : MFrame) (payload : Bytes) : Pkt :=
  let g := s.rules.cur
  let d := if fr.egress < 16 && s.portExists fr.egress then fr.egress / 4 else 0
  let w := match s.genSet g with | some gs => some (s.rules.parse gs g 63 payload false) | none => none
  { port := 63, die := d, pipe := 2 * d, frame := payload, ts := zeros 14, t := s.ns, gen := 8 + fr.gen % 8,
    key := (w.map (·.key)).getD (zeros 128), reason := 0, cls := fr.cls, rec_ := s.classRec g fr.cls, ip := w.bind (·.ip), ptp := w.bind (·.ptp),
    stage := 4, fkey := [], flow := if fr.flow = 0xFFFFFFFF then none else some fr.flow, resv := none, ordinal := 0, ctx := zeros 128,
    tp := false, tpMask := 0, tpBytes := zeros 128, epoch := some fr.epoch, stampAt := 0, fired := false, head := false, item := none, queued := false, reasons := [],
    held := false, ahead := none, cells := 0, tail := 1, committed := true, verdict := none, early := false, release := 0, fwd := [],
    moveDrop := false, copies := 0, withdrawn := false, remote := [], actions := leBytes 8 fr.actions, score := fr.score,
    unverdicted := fr.flags % 2 = 1, tsReq := 0, fabric := true }

/-- The tag of a carried packet: the header's fields (R802); none in a PTP message (10 R496). -/
def carriedTag (fr : MFrame) (p : Pkt) : Bytes :=
  if byteAt p.key 19 / 4 % 4 ≠ 0 then []
  else tagBytes fr.gen fr.part (fr.flags / 2 % 2) 0 (fr.flags % 2) 0 fr.epoch fr.cls fr.score fr.flow

/-- DATA at its destination (R801, R802). -/
def State.takeData (s : State) (fr : MFrame) (payload : Bytes) : State :=
  let p := s.carried fr payload
  let e := fr.egress
  let usable := s.portReady e && !s.portRemote e
  if s.carriedOk fr.epoch then
    if usable then
      s.enqueue e (s.pktTc p e) ⟨none, payload, carriedTag fr p, (byteAt p.rec_ 0).testBit 2, 0, 0, none, 0, false, false, 0, recPart p.rec_⟩
    else s.count P.fab R.fabRxNoport
  else
    let s1 := (s.countP (P.verdict p.die) R.epochMismatch (recPart p.rec_)).cause (P.verdict p.die) 9
    let m := recMismatch p.rec_
    if m = 2 then s1
    else
      let dflt : Choice := ⟨recDefault p.rec_, 0, true, if m = 0 then 0x15 else 0⟩
      let forwards := m = 1 && actDisp dflt.acts = 0
      let k := s1.path.nextPkt
      let s2 := (s1.modPath (fun t => { t with
        pkts := aput t.pkts k { p with fwd := if usable then [e] else [], unverdicted := true }
        nextPkt := k + 1 })).when (forwards && !usable) (fun t => t.count P.fab R.fabRxNoport)
      match s2.pkt k with
      | none => s2
      | some p1 => s2.applyChoice k p1 dflt

/-- DATA_RECEIVE. -/
def execDataReceive (port : Nat) (frame : MFrame) (s : State) : Outcome State Fault Refusal :=
  .next (s.fabFor port frame (fun t => match frame.body with | .data b => t.takeData frame b | _ => t))

end Sys2Proof.Machine
end

