-- ==== Sys2Proof/Machine/Clocks.lean ====
section
/-! DEFINITION. Machine/Clocks.lean: the clock system: reference loss and return, switches, deskew, the IOSC trim
loop, the frequency counter, block clock enables (07). -/

namespace Sys2Proof.Machine

open Host (Outcome)

/-! ## Gates (R324 to R327) -/

/-- Present pages with gate ID g of their own. -/
def State.gatePages (s : State) (g : Nat) : List Nat :=
  (pageNumbers.filter (fun n => (match pageAt n with
    | some i => i.gate = some g && i.present s.part.code
    | none => false))).map (· * 0x1000)

/-- Pages that closing gate g would gate: those of the ID and, for a cluster's, its CORE and FOREST pages. -/
def State.gatedBy (s : State) (g : Nat) : List Nat :=
  s.gatePages g ++ (if g < 16 then (List.range 8).map (P.core g) ++ [P.forest g] else [])

/-- The enable bit of gate g set to b. -/
def State.setGate (s : State) (g : Nat) (b : Bool) : State :=
  s.wr P.clk (R.clkEn (g / 32)) (putBits (s.rd P.clk (R.clkEn (g / 32))) (g % 32) 1 (b2n b))

/-- R324. -/
def gateClose (g : Nat) (s : State) : State :=
  if s.gatePages g = [] || !s.gateOpenBit g then s
  else if (s.gatedBy g).all (fun p => !s.on p R.pgCtrlEnable && !s.busy p) then s.setGate g false
  else (s.perr P.clk 0x0100).sentinel P.clk 5

/-- GATE_CLOSE. -/
def execGateClose (g : Nat) (s : State) : Outcome State Fault Refusal := .next (gateClose g s)

/-- R325, R326; interrupt causes kept while the gate was closed assert again (06 R287). -/
def gateOpen (g : Nat) (s : State) : State :=
  if s.gatePages g = [] then s
  else (s.gatedBy g).foldl (fun f p => fun (t : State) => t.withGroup p f) (fun t => t.setGate g true) s

/-- GATE_OPEN. -/
def execGateOpen (g : Nat) (s : State) : Outcome State Fault Refusal := .next (gateOpen g s)

/-! ## The reference (R328 to R336) -/

/-- CLK_STATE. -/
def State.clkState (s : State) : Nat := s.rd P.clk R.clkStateState

/-- The root stands at 800 MHz: PG_STATUS shows 0x80 or 0x81 with DEGRADED, and READY stays (R331). -/
def State.slowRoot (s : State) (st : Nat) : State :=
  ((s.wr P.clk R.clkStateState st).setState P.clk (if st = 3 then 0x80 else 0x81)).setDegraded P.clk true

/-- COAST: R329, R335. -/
def State.coast (s : State) : State :=
  let t := s.ns
  let s1 := s.slowRoot 3
  { s1 with clk := { s1.clk with coastSince := t } }

/-- RELOCK towards a reference: 0 REFCLK, 1 IOSC (R332). -/
def State.relock (s : State) (src : Nat) : State :=
  let s1 := s.slowRoot 4
  { s1 with clk := { s1.clk with relockTo := src } }

/-- R328, R329, R335. On IOSC the loss is recorded and the root stays. -/
def refclkLoss (s : State) : State :=
  let s0 := { s with pins := { s.pins with refclk := false } }
  if !s.on P.clk R.clkStateRefOk then s0
  else
    let s1 := ((((s0.wr P.clk R.clkStateRefOk 0).wr P.clk R.clkFlagsRefLost 1).cause P.clk 8)).sentinel P.clk 0
    if s.clkState = 2 || (s.clkState = 4 && s.clk.relockTo = 0) then s1.coast else s1

/-- REFCLK_LOSS. -/
def execRefclkLoss (s : State) : Outcome State Fault Refusal := .next (refclkLoss s)

/-- R305, R333. -/
def refReturn (s : State) : State :=
  let t := s.ns
  let s0 := { s with pins := { s.pins with refclk := true } }
  if s.on P.clk R.clkStateRefOk then s0
  else
    let s1 := (s0.wr P.clk R.clkStateRefOk 1).cause P.clk 9
    { s1 with clk := { s1.clk with refOkSince := t } }

/-- REF_RETURN. -/
def execRefReturn (s : State) : Outcome State Fault Refusal := .next (refReturn s)

/-- R332: COAST_DELAY µs after entry, under AUTO_IOSC or AUTO_RETURN. -/
def coastDelayExpiry (s : State) : State :=
  let p := s.rd P.clk R.clkSrcCtrl
  if s.clkState = 3 && (p = 1 || p = 2) && s.clk.coastSince + 1000 * s.rd P.clk R.clkCoastDelay ≤ s.ns then s.relock 1 else s

/-- COAST_DELAY_EXPIRY. -/
def execCoastDelayExpiry (s : State) : Outcome State Fault Refusal := .next (coastDelayExpiry s)

/-- POLICY 2: REF_OK has held for 1 ms, in COAST or on IOSC. -/
def refOkHeld (s : State) : State :=
  if s.rd P.clk R.clkSrcCtrl = 2 && s.on P.clk R.clkStateRefOk && (s.clkState = 3 || s.clkState = 5) &&
    s.clk.refOkSince + 1000000 ≤ s.ns then s.relock 0 else s

/-- REF_OK_HELD. -/
def execRefOkHeld (s : State) : Outcome State Fault Refusal := .next (refOkHeld s)

/-- A software switch to a reference (R332, R334); before the first lock there is no access, and a switch to the
reference in use is none (log entry 17). -/
def switchTo (src : Nat) (s : State) : State :=
  let st := s.clkState
  if st ≤ 1 then s
  else if st = 4 then s.perr P.clk 0x0104
  else if src = 0 && !s.on P.clk R.clkStateRefOk then s.perr P.clk 0x0103
  else if (st = 2 && src = 0) || (st = 5 && src = 1) then s
  else s.relock src

/-- SWITCH_TO_IOSC. -/
def execSwitchToIosc (s : State) : Outcome State Fault Refusal := .next (switchTo 1 s)

/-- SWITCH_TO_REF. -/
def execSwitchToRef (s : State) : Outcome State Fault Refusal := .next (switchTo 0 s)

/-- R332: the root returns to 3.2 GHz. -/
def relockDone (s : State) : State :=
  if s.clkState ≠ 4 then s
  else
    let src := s.clk.relockTo
    let s1 := (s.wr P.clk R.clkStateState (if src = 0 then 2 else 5)).wr P.clk R.clkStateRefSrc src
    (((s1.setState P.clk 3).setDegraded P.clk false).cause P.clk 10).sentinel P.clk 1

/-- RELOCK_DONE. -/
def execRelockDone (s : State) : Outcome State Fault Refusal := .next (relockDone s)

/-- R308: first lock, to REFCLK where it is valid, else to IOSC with REF_LOST; the dividers are released, so
CLK_CK4_COUNT starts from 0 (R312). -/
def pllLock (s : State) : State :=
  if !s.pins.pwrGood || 1 < s.clkState then s
  else
    let ref := s.on P.clk R.clkStateRefOk
    let s1 := (s.wr P.clk R.clkStateState (if ref then 2 else 5)).wr P.clk R.clkStateRefSrc (b2n (!ref))
    let s2 := if ref then s1 else s1.wr P.clk R.clkFlagsRefLost 1
    let s3 := { s2 with time := { s2.time with ck4 := 0 } }
    s3.each (List.range 5) (fun t i => t.wr P.clk (R.deskewStatLock i) (b2n (i < 2 || i - 1 < t.part.code.ioDies)))

/-- PLL_LOCK. -/
def execPllLock (s : State) : Outcome State Fault Refusal := .next (pllLock s)

/-! ## Deskew (R313 to R316) -/

/-- Die index i of the deskew loops receives the root: A0, A1, and I1 to I3 where present. -/
def State.receives (s : State) (i : Nat) : Bool := i < 2 || i - 1 < s.part.code.ioDies

/-- One die's loop: the tap moves by one towards a smaller error, a positive error being a late clock (log entry
18); LOCK, the alarm and the fatal limit follow the error, frozen or not. -/
def deskewDie (i : Nat) (err : Int) (s : State) : State :=
  if !s.receives i then s
  else
    let tap := s.rd P.clk (R.deskewStatTap i)
    let tap1 := if err < 0 then min 319 (tap + 1) else if 0 < err then tap - 1 else tap
    let out := (tap = 0 && 0 < err) || (tap = 319 && err < 0)
    let s1 := if s.on P.clk R.deskewCtrl then s else s.wr P.clk (R.deskewStatTap i) tap1
    let s2 := (s1.wr P.clk (R.deskewStatErr i) (ofS 8 (clampI err (-128) 127))).wr P.clk (R.deskewStatLock i) (b2n (err.natAbs ≤ 8))
    let s3 := if 32 < err.natAbs || out then ((s2.wr P.clk R.clkFlagsDeskewAlarm 1).cause P.clk 11).sentinel P.clk 3 else s2
    if 64 < err.natAbs then s3.raise (plainErr 0x0020 P.clk 0 (if i < 2 then i else i + 1) 0 (ofS 64 (Int.tdiv (5 * err) 4))) else s3

/-- CLK reports READY only while every receiving die locks (R316). -/
def State.clkLockCheck (s : State) : State :=
  if s.ready P.clk && !(List.range 5).all (fun i => !s.receives i || s.on P.clk (R.deskewStatLock i)) then s.leaveReady P.clk else s

/-- R313 to R316: errs holds the phase error of each deskew index, in units of 1.25 ps. -/
def deskewTick (errs : List Int) (s : State) : State :=
  if s.clkState ≤ 1 then s
  else ((List.range 5).foldl (fun t i => match errs[i]? with | some e => deskewDie i e t | none => t) s).clkLockCheck

/-- DESKEW_TICK. -/
def execDeskewTick (errs : List Int) (s : State) : Outcome State Fault Refusal := .next (deskewTick errs s)

/-! ## The IOSC trim loop (R337 to R341) -/

/-- Quotient rounded to nearest, halves away from zero. -/
def roundAway (n : Int) (d : Nat) : Int :=
  if n < 0 then -((2 * n.natAbs + d) / (2 * d) : Nat) else ((2 * n.natAbs + d) / (2 * d) : Nat)

/-- err_u of trim_step, in units of 0.01 ppm. -/
def trimErr (n mode : Nat) : Int :=
  if mode = 2 then roundAway (((n : Int) - 104857600) * 100000000) 104857600 else (n : Int) - 100000000

/-- trim_step. -/
def trimStep (n mode : Nat) (trim stepMax : Int) : Int :=
  let e := trimErr n mode
  if 10000 < e.natAbs then trim
  else clampI (trim + clampI (-(roundAway e 2)) (-stepMax) stepMax) (-3000000) 3000000

/-- TRIM_HOLD and its cause. -/
def State.trimHeld (s : State) : State := (s.wr P.clk R.clkFlagsTrimHold 1).cause P.clk 12

/-- FRAME mode holds on a fabric's manager and on a FRAME_PORT that is not READY (R339). -/
def State.frameHold (s : State) : Bool :=
  s.rd P.clk R.ioscTrimCtrlMode = 2 &&
  (s.rd P.fab R.fabStatusRole = 2 || !s.ready (P.fport (s.rd P.clk R.ioscTrimCtrlFramePort)))

/-- One interval of the trim loop: edges is the count of IOSC edges (R337 to R340). -/
def trimInterval (edges : Nat) (s : State) : State :=
  let mode := s.rd P.clk R.ioscTrimCtrlMode
  if mode ≠ 1 && mode ≠ 2 then s
  else
    let t := s.ns
    let e := trimErr edges mode
    let s0 := { s with clk := { s.clk with trimEdge := t } }
    let s1 := s0.wr P.clk R.ioscTrimErr (ofS 32 e)
    if s.frameHold || 10000 < e.natAbs then s1.trimHeld
    else if s.on P.clk R.ioscTrimCtrlFreeze then s1
    else
      let trim := trimStep edges mode (toS 24 (s.rd P.clk R.ioscTrim)) (s.rd P.clk R.ioscTrimCtrlStepMax)
      (s1.wr P.clk R.ioscTrim (ofS 24 trim)).sentinel P.clk 4

/-- TRIM_INTERVAL. -/
def execTrimInterval (edges : Nat) (s : State) : Outcome State Fault Refusal := .next (trimInterval edges s)

/-- R338: no edge within 1.1 s in PPS mode, no frame mark within 2 µs in FRAME mode. -/
def trimHold (s : State) : State :=
  let mode := s.rd P.clk R.ioscTrimCtrlMode
  let limit := if mode = 1 then 1100000000 else 2000
  if (mode = 1 || mode = 2) && s.clk.trimEdge + limit < s.ns then s.trimHeld else s

/-- TRIM_HOLD. -/
def execTrimHold (s : State) : Outcome State Fault Refusal := .next (trimHold s)

/-- R341; a code beyond ±3% is not accepted (06 R269). -/
def ioscTrimWrite (trim : Nat) (s : State) : State :=
  if s.rd P.clk R.ioscTrimCtrlMode ≠ 0 then s.perr P.clk 0x0101
  else if 3000000 < (toS 24 trim).natAbs then s.illegal P.clk
  else s.wr P.clk R.ioscTrim trim

/-- IOSC_TRIM_WRITE. -/
def execIoscTrimWrite (trim : Nat) (s : State) : Outcome State Fault Refusal := .next (ioscTrimWrite trim s)

/-! ## The frequency counter (R346 to R349) -/

/-- A clock code that the state shows stopped, gated or absent (R349). -/
def State.fmcStopped (s : State) (code : Nat) : Bool :=
  if code = 0 then !s.pins.refclk
  else if code = 8 then s.gated (P.hbm 0)
  else if code = 10 || code = 11 then s.part.code.ioDies ≤ s.rd P.clk R.fmcCtrlLane / 24
  else if code = 12 then (let d := s.rd P.clk R.fmcCtrlDie; 2 ≤ d && s.part.code.ioDies ≤ d - 1)
  else if code = 14 then !s.ready (P.fport (s.rd P.clk R.ioscTrimCtrlFramePort))
  else false

/-- R346, R348: a START while BUSY is refused. -/
def fmcStart (s : State) : State :=
  if s.on P.clk R.fmcStatusBusy then s.perr P.clk 0x0102
  else
    let c := s.time.ck4
    let s1 := (((s.wr P.clk R.fmcStatusBusy 1).wr P.clk R.fmcStatusDone 0).wr P.clk R.fmcStatusNoEdge 0).wr P.clk R.fmcStatusOverflow 0
    { s1 with clk := { s1.clk with fmcAt := c } }

/-- FMC_START. -/
def execFmcStart (s : State) : Outcome State Fault Refusal := .next (fmcStart s)

/-- R346: the window has passed with count prescaled MEAS edges; a stopped MEAS clock gives none. -/
def fmcDone (count : Nat) (s : State) : State :=
  if !s.on P.clk R.fmcStatusBusy || s.fmcStopped (s.rd P.clk R.fmcCtrlRef) || 2 ^ 48 ≤ count then s
  else
    let n := if s.fmcStopped (s.rd P.clk R.fmcCtrlMeas) then 0 else count
    (((s.wr P.clk R.fmcStatusBusy 0).wr P.clk R.fmcStatusDone 1).wr P.clk R.fmcCount n).cause P.clk 13

/-- FMC_DONE. -/
def execFmcDone (count : Nat) (s : State) : Outcome State Fault Refusal := .next (fmcDone count s)

/-- R348: no reference edge within 2^30 CK4 cycles. -/
def fmcNoEdge (s : State) : State :=
  if s.on P.clk R.fmcStatusBusy && s.clk.fmcAt + 2 ^ 30 ≤ s.time.ck4 then
    (s.wr P.clk R.fmcStatusBusy 0).wr P.clk R.fmcStatusNoEdge 1
  else s

/-- FMC_NO_EDGE. -/
def execFmcNoEdge (s : State) : Outcome State Fault Refusal := .next (fmcNoEdge s)

/-- R348: the count would pass 2^48 - 1. -/
def fmcOverflow (s : State) : State :=
  if s.on P.clk R.fmcStatusBusy then (s.wr P.clk R.fmcStatusBusy 0).wr P.clk R.fmcStatusOverflow 1 else s

/-- FMC_OVERFLOW. -/
def execFmcOverflow (s : State) : Outcome State Fault Refusal := .next (fmcOverflow s)

/-! ## Swallowing, as the droop loop commands it (R342 to R345) -/

/-- A new SWALLOW_LEVEL; leaving level 0 starts an episode. -/
def State.swallowTo (s : State) (level : Nat) : State :=
  let was := s.rd P.clk R.clkStateSwallowLevel
  let s1 := s.wr P.clk R.clkStateSwallowLevel level
  if was = 0 && level ≠ 0 then (s1.sentinel P.clk 2).cause P.clk 14 else s1

/-- Sixteenths of the root edges removed at a level. -/
def swallowRate : Nat → Nat
  | 0 => 0 | 1 => 1 | 2 => 2 | 3 => 4 | _ => 8

/-- One CK4 edge: 8 delivered root edges; the undelivered edges swallowed meanwhile are counted (R344, R345). -/
def State.swallowTick (s : State) : State :=
  let r := swallowRate (s.rd P.clk R.clkStateSwallowLevel)
  if r = 0 then s
  else
    let a := s.clk.swallowAcc + 8 * r
    let s1 := s.wr P.clk R.swallowEdges (s.rd P.clk R.swallowEdges + a / (16 - r))
    { s1 with clk := { s1.clk with swallowAcc := a % (16 - r) } }

end Sys2Proof.Machine
end

