-- ==== Sys2Proof/Machine/Power.lean ====
section
/-! DEFINITION. Machine/Power.lean: rails, droop, equalisation, temperatures, the governor, the floor limiter and
the plant (17). -/

namespace Sys2Proof.Machine

open Host (Outcome)

/-- A bit of PWR_LOOP_FREEZE: 0 AVS, 1 DROOP, 2 EQ, 3 TRACK, 4 REEL, 5 GOV (R831). -/
def State.loopFrozen (s : State) (b : Nat) : Bool := (s.rd P.pwr R.pwrLoopFreeze).testBit b

/-! ## Rails (R823 to R827) -/

/-- Rail r is present. -/
def State.railPresent (s : State) (r : Nat) : Bool := (s.rd P.pwr (R.railCfg r)).testBit 0

/-- VSET of a rail, and setting it. -/
def State.vset (s : State) (r : Nat) : Nat := s.rd P.pwr (R.railV r) % 65536
def State.setVset (s : State) (r v : Nat) : State := s.wr P.pwr (R.railV r) (putBits (s.rd P.pwr (R.railV r)) 0 16 v)

/-- R824: every present rail at its nominal voltage. -/
def State.railsNominal (s : State) : State :=
  s.each (List.range 8) (fun t r => if t.railPresent r then t.setVset r (Config.railNominal r) else t)

/-- Sum and number of the first n of a list. -/
def meanOf (l : List Nat) (n : Nat) : Nat := let k := l.take n; if k = [] then 0 else sumN k / k.length

/-- One rail's AVSBus transaction: voltage in mV and current in mA, or no answer. A third failure in succession
counts; in PLATFORM it makes the rail absent and faults PWR (R825, R826). -/
def pollRail (r : Nat) (x : Option (Nat × Nat)) (s : State) : State :=
  if !s.railPresent r then s
  else match x with
    | some (mv, ma) =>
      let s1 := { s with pwr := { s.pwr with railFail := s.pwr.railFail.set r 0 } }
      (s1.wr P.pwr (R.railV r) (putBits (s1.rd P.pwr (R.railV r)) 16 16 mv)).wr P.pwr (R.railI r) ma
    | none =>
      let n := (s.pwr.railFail[r]?).getD 0 + 1
      let s1 := { s with pwr := { s.pwr with railFail := s.pwr.railFail.set r n } }
      if n % 3 ≠ 0 then s1
      else
        let s2 := ((s1.count P.pwr R.avsbusErr).cause P.pwr 9).sentinel P.pwr 3
        if s.ready P.pwr then s2
        else ((s2.wr P.pwr (R.railCfg r) (s2.rd P.pwr (R.railCfg r) &&& 2)).perr P.pwr 0x0100).setFault P.pwr

/-- PWR_TOTAL and PWR_MEAN from the samples of every 100 µs (R827): 10, 100 and 10,000 samples. -/
def State.powerMeans (s : State) : State :=
  let mw := sumN ((List.range 8).map (fun r => if s.railPresent r then
    (s.rd P.pwr (R.railV r) / 65536) * s.rd P.pwr (R.railI r) / 1000 else 0))
  let h := (mw :: s.pwr.hist).take 10000
  let s1 := { s with pwr := { s.pwr with hist := h } }
  (s1.wr P.pwr R.pwrTotal (meanOf h 10)).wr P.pwr R.pwrMean (satN 16 (meanOf h 100 / 1000) + satN 16 (meanOf h 10000 / 1000) * 65536)

/-- R823, R826, R827. -/
def avsbusPoll (reads : List (Option (Nat × Nat))) (s : State) : State :=
  let s1 := (List.range 8).foldl (fun t r => match reads[r]? with | some x => pollRail r x t | none => t) s
  (s1.setDegraded P.pwr (s1.pwr.railFail.any (fun n => 3 ≤ n))).powerMeans

/-- AVSBUS_POLL. -/
def execAvsbusPoll (reads : List (Option (Nat × Nat))) (s : State) : Outcome State Fault Refusal := .next (avsbusPoll reads s)

/-! ## Adaptive voltage (R833 to R837) -/

/-- Die number of CPM m as fault records name dies. -/
def cpmDie (m : Nat) : Nat := if m < 12 then 0 else if m < 24 then 1 else 2 + (m - 24) / 2

/-- CPM m lies on a die the part has. -/
def State.cpmPresent (s : State) (m : Nat) : Bool := m < 24 || (m < 32 && (m - 24) / 2 < s.part.code.ioDies)

/-- The CPMs of rail r's domain. -/
def State.railCpms (s : State) (r : Nat) : List Nat :=
  (List.range 32).filter (fun m => s.cpmPresent m && min (cpmDie m) 2 = r)

/-- A margin seen: MARGIN, and MIN the lowest since the last read, which cleared it. -/
def State.cpmSeen (s : State) (m : Nat) (v : Int) : State :=
  let s1 := s.wr P.pwr (R.cpmMargin m) (ofS 8 (clampI v (-128) 127))
  if s.pwr.cpmRead.contains m || v < toS 8 (s.rd P.pwr (R.cpmMin m)) then
    let s2 := s1.wr P.pwr (R.cpmMin m) (ofS 8 (clampI v (-128) 127))
    { s2 with pwr := { s2.pwr with cpmRead := s2.pwr.cpmRead.filter (· ≠ m) } }
  else s1

/-- A rail's voltage moves to v within its bounds; a step the bounds stop is counted (R834). -/
def State.avsStep (s : State) (r : Nat) (d : Int) : State :=
  let lim := s.rd P.pwr (R.railLimits r)
  let lo := lim % 65536
  let hi := lim / 65536
  let v0 := clampN (s.vset r) lo hi
  let s0 := if v0 = s.vset r then s else s.setVset r v0
  if d = 0 then s0
  else
    let want : Int := (v0 : Int) + d
    if want < lo || (hi : Int) < want then (s0.count P.pwr R.avsAtLimit).cause P.pwr 8
    else ((s0.setVset r want.toNat).count P.pwr R.avsSteps).sentinel P.pwr 0

/-- One adaptive rail at the end of an interval (R833). -/
def avsRail (lows : List Int) (r : Nat) (s : State) : State :=
  let ms := s.railCpms r
  let low := ms.foldl (fun b m => match lows[m]? with | some v => min b v | none => b) (127 : Int)
  let droop := ms.any (fun m => (s.pwr.cpmDroop[m]?).getD false)
  let target : Int := s.rd P.pwr R.avsTarget
  let run := if decide (target + 20 ≤ low) && !droop then (s.pwr.goodRun[r]?).getD 0 + 1 else 0
  let s1 := { s with pwr := { s.pwr with goodRun := s.pwr.goodRun.set r run } }
  if s.loopFrozen 0 then s1
  else s1.avsStep r (if decide (low < target) || droop then 5 else if 10 ≤ run then -5 else 0)

/-- R833 to R835: lows holds the lowest margin of each CPM in the interval. -/
def avsInterval (lows : List Int) (s : State) : State :=
  if !s.ready P.pwr then s
  else
    let s1 := (List.range 32).foldl (fun t m => match lows[m]? with | some v => if t.cpmPresent m then t.cpmSeen m v else t | none => t) s
    let s2 := (List.range 3).foldl (fun t r => avsRail lows r t) s1
    let s3 := if s2.loopFrozen 0 then s2
      else
        let lim := s2.rd P.pwr (R.railLimits 3)
        s2.setVset 3 (clampN (max (s2.vset 0) (s2.vset 1) + 50) (lim % 65536) (lim / 65536))
    { s3 with pwr := { s3.pwr with cpmDroop := s3.pwr.cpmDroop.map (fun _ => false) } }

/-- AVS_INTERVAL. -/
def execAvsInterval (lows : List Int) (s : State) : Outcome State Fault Refusal := .next (avsInterval lows s)

/-- R837. -/
def cpmFatal (cpm : Nat) (margin : Int) (s : State) : State :=
  if s.cpmPresent cpm && decide (margin ≤ 0) then
    (s.cpmSeen cpm margin).raise (plainErr 0x0021 P.pwr 0 (cpmDie cpm) cpm (ofS 64 margin))
  else s

/-- CPM_FATAL. -/
def execCpmFatal (cpm : Nat) (margin : Int) (s : State) : Outcome State Fault Refusal := .next (cpmFatal cpm margin s)

/-! ## Droop (R838 to R840) -/

/-- A new swallowing level, with the time of the step. -/
def State.droopLevel (s : State) (level : Nat) (active : Bool) : State :=
  let t := s.ns
  let s1 := s.swallowTo level
  { s1 with pwr := { s1.pwr with lastStep := t, droopActive := active } }

/-- R838. -/
def droopFlag (cpm : Nat) (s : State) : State :=
  if !s.cpmPresent cpm then s
  else
    let t := s.ns
    let s1 := (s.count P.pwr R.droopFlags).sentinel P.pwr 1
    let s2 := { s1 with pwr := { s1.pwr with cpmDroop := s1.pwr.cpmDroop.set cpm true, lastDroop := t } }
    if s.loopFrozen 1 then s2
    else if s.rd P.clk R.clkStateSwallowLevel = 0 then s2.droopLevel (s.rd P.pwr R.droopCfgLevelInit) true
    else { s2 with pwr := { s2.pwr with droopActive := true } }

/-- DROOP_FLAG. -/
def execDroopFlag (cpm : Nat) (s : State) : Outcome State Fault Refusal := .next (droopFlag cpm s)

/-- 32 undelivered root edges in ns. -/
def State.root32 (s : State) : Nat := if s.clkState = 3 || s.clkState = 4 then 40 else 10

/-- R839. -/
def droopLevelRise (s : State) : State :=
  let l := s.rd P.clk R.clkStateSwallowLevel
  if s.pwr.droopActive && !s.loopFrozen 1 && 0 < l && l < s.rd P.pwr R.droopCfgMaxLevel && s.pwr.lastStep + s.root32 ≤ s.ns then
    let t := s.ns
    let s1 := s.droopLevel (l + 1) true
    { s1 with pwr := { s1.pwr with lastDroop := t } }
  else s

/-- DROOP_LEVEL_RISE. -/
def execDroopLevelRise (s : State) : Outcome State Fault Refusal := .next (droopLevelRise s)

/-- R840. -/
def droopHoldExpiry (s : State) : State :=
  let l := s.rd P.clk R.clkStateSwallowLevel
  if 0 < l && !s.loopFrozen 1 && max s.pwr.lastDroop s.pwr.lastStep + s.rd P.pwr R.droopCfgHoldNs ≤ s.ns then
    s.droopLevel (l - 1) false
  else s

/-- DROOP_HOLD_EXPIRY. -/
def execDroopHoldExpiry (s : State) : Outcome State Fault Refusal := .next (droopHoldExpiry s)

/-! ## Equalisation (R841 to R843) -/

/-- A coefficient one LSB on, within its range: index 0 CTLE, 1 to 12 the DFE taps. -/
def eqRange (k : Nat) : Int × Int := if k = 0 then (0, 31) else (Config.dfeLo k, Config.dfeHi k)

/-- One lane of a die's SERDES page for one period; lane is 24d + l. -/
def eqLane (lane : Nat) (dirs : List Int) (s : State) : State :=
  let sd := P.serdes (lane / 24)
  let l := lane % 24
  if !s.pagePresent sd || !s.on sd (R.laneRxLock l) then s
  else if s.loopFrozen 2 then (s.wr sd (R.laneEqFrozen l) 1).wr sd (R.laneEqAdapting l) 0
  else
    let old := (aget s.pwr.eq lane).getD (List.replicate 13 0)
    let new := (List.range 13).map (fun k =>
      let g := eqRange k
      clampI (old.getD k 0 + clampI (dirs.getD k 0) (-1) 1) g.1 g.2)
    let atEnd := (List.range 13).any (fun k => let g := eqRange k; new.getD k 0 = g.1 || new.getD k 0 = g.2)
    let since := if atEnd then some ((aget s.pwr.eqHeld lane).getD s.ns) else none
    let held := match since with | some t => t + 1000000 ≤ s.ns | none => false
    let s1 := { s with pwr := { s.pwr with
      eq := aput s.pwr.eq lane new
      eqHeld := match since with | some t => aput s.pwr.eqHeld lane t | none => adel s.pwr.eqHeld lane } }
    let s2 := if held && !s1.on sd (R.laneEqAtLimit l) then (s1.count P.pwr R.eqLimit).sentinel P.pwr 2 else s1
    (((s2.wr sd (R.laneEqAtLimit l) (b2n held)).wr sd (R.laneEqCtle l) (new.getD 0 0).toNat).wr sd (R.laneEqFrozen l) 0).wr sd
      (R.laneEqAdapting l) 1

/-- R841, R842: dirs gives for each lane the direction that enlarges its eye, per coefficient. -/
def eqTick (dirs : List (Nat × List Int)) (s : State) : State := dirs.foldl (fun t x => eqLane x.1 x.2 t) s

/-- EQ_TICK. -/
def execEqTick (dirs : List (Nat × List Int)) (s : State) : Outcome State Fault Refusal := .next (eqTick dirs s)

/-! ## Block power-off (R829, R830) -/

/-- Pages of power-off bit b: cluster b, or NSE b - 16. -/
def offPages (b : Nat) : List Nat :=
  if b < 16 then [P.cl b, P.seq b, P.qsu b, P.forest b] ++ (List.range 8).map (P.core b) else [P.nse (b - 16)]

/-- The memories of cluster n zeroed (03 R123): cluster, core and Forest memory. -/
def State.zeroCluster (s : State) (n : Nat) : State :=
  { s with mem := { s.mem with
      cm := s.mem.cm.clear (n * 2 ^ 24) ((n + 1) * 2 ^ 24)
      core := s.mem.core.clear (8 * n * 2 ^ 20) (8 * (n + 1) * 2 ^ 20)
      forest := s.mem.forest.filter (fun r => r.cluster ≠ n) } }

/-- One bit of a write to PWR_OFF. -/
def pwrOffBit (mask b : Nat) (s : State) : State :=
  let cur := s.rd P.pwr R.pwrOff
  if mask.testBit b = cur.testBit b then s
  else if !mask.testBit b then s.wr P.pwr R.pwrOff (cur - 2 ^ b)
  else if s.gateOpenBit (if b < 16 then b else 160 + (b - 16)) then s.perr P.pwr 0x0101
  else
    let s1 := s.each (offPages b) (fun t p => t.resetPage p)
    let s2 := if b < 16 then s1.zeroCluster b else s1
    s2.wr P.pwr R.pwrOff (s2.rd P.pwr R.pwrOff + 2 ^ b)

/-- R829, R830. -/
def pwrOffWrite (mask : Nat) (s : State) : State := (List.range 24).foldl (fun t b => pwrOffBit mask b t) s

/-- PWR_OFF_WRITE. -/
def execPwrOffWrite (mask : Nat) (s : State) : Outcome State Fault Refusal := .next (pwrOffWrite mask s)

/-! ## The floor limiter (R873 to R876) -/

/-- Some input bound to a PUMP output is in loss. -/
def State.pumpInLoss (s : State) : Bool :=
  (List.range 6).any (fun t =>
    let c := s.rd P.plant (R.tachCfg t)
    c.testBit 3 && s.rd P.plant (R.pwmRole (c % 8)) = 1 && (s.rd P.plant R.plantStatusTachLost).testBit t)

/-- Engage the floor limiter (R874). -/
def State.engageFloor (s : State) : State :=
  if s.on P.thm R.thmStatusFloor then s
  else
    let s1 := (((s.wr P.thm R.thmStatusFloor 1).wr P.thm R.govOutDF (min (s.rd P.thm R.govOutCduty) 16)).count P.plant
      R.plantFloorEntries).sentinel P.thm 1
    { (s1.cause P.thm 9) with thm := { (s1.cause P.thm 9).thm with releasing := false } }

/-- PWR_TOTAL in W. -/
def State.watts (s : State) : Nat := s.rd P.pwr R.pwrTotal / 1000

/-- R874, R876. -/
def floorTick (s : State) : State :=
  let df := s.rd P.thm R.govOutDF
  let cd := s.rd P.thm R.govOutCduty
  if s.on P.thm R.thmStatusFloor then
    if !s.on P.plant R.plantStatusPumpLost && !s.on P.thm R.thmStatusAlarm && !s.pumpInLoss then
      { (s.wr P.thm R.thmStatusFloor 0) with thm := { s.thm with releasing := true } }
    else
      let p := s.watts
      let fl := s.rd P.pwr (R.pwrFloor s.part.code)
      if fl < p then s.wr P.thm R.govOutDF (max 1 (df - max (ceilDiv df 4) (ceilDiv (df * (p - fl)) p)))
      else if p * 20 ≤ fl * 19 && df < cd then s.wr P.thm R.govOutDF (df + 1)
      else s
  else if s.thm.releasing then
    if cd ≤ df + 4 then { (s.wr P.thm R.govOutDF 64) with thm := { s.thm with releasing := false } }
    else s.wr P.thm R.govOutDF (df + 4)
  else s

/-- FLOOR_TICK. -/
def execFloorTick (s : State) : Outcome State Fault Refusal := .next (floorTick s)

/-! ## Temperatures (R851 to R858) -/

/-- Sensor i lies on a die the part has. -/
def State.sensorPresent (s : State) (i : Nat) : Bool := i < 40 || (i < 64 && (i - 40) / 6 < s.part.code.ioDies)

/-- Readings that count: sensor number and 1/16 °C, the stacks as 64 + s. -/
def State.temps (s : State) : List (Nat × Int) :=
  (((List.range 64).map (fun i => (i, s.rd P.thm (R.thmSensor i)))) ++
    (List.range s.part.code.stacks).map (fun k => (64 + k, s.rd P.thm (R.thmHbm k)))).filterMap
    (fun (x : Nat × Nat) => if x.2 = 0x8000 then none else some (x.1, toS 16 x.2))

/-- THM_MAX, and the alarm of R854. -/
def State.thermalUpdate (s : State) : State :=
  let l := s.temps
  let m := l.foldl (fun (b : Option (Nat × Int)) x => match b with
    | none => some x
    | some y => if y.2 < x.2 then some x else some y) none
  let s1 := match m with
    | none => (s.wr P.thm R.thmMaxTemp 0x8000).wr P.thm R.thmMaxSensor 0
    | some x => (s.wr P.thm R.thmMaxTemp (ofS 16 x.2)).wr P.thm R.thmMaxSensor x.1
  if l.any (fun x => (s.rd P.thm R.thmAlarm : Int) ≤ x.2) then
    let s2 := if s1.on P.thm R.thmStatusAlarm then s1 else (s1.wr P.thm R.thmStatusAlarm 1).sentinel P.thm 0
    (s2.cause P.thm 8).engageFloor
  else s1

/-- One sensor's reading, none for a failed self-check. -/
def sampleOne (i : Nat) (x : Option Int) (s : State) : State :=
  if !s.sensorPresent i then s
  else match x with
    | some v => s.wr P.thm (R.thmSensor i) (ofS 16 v)
    | none => ((s.wr P.thm (R.thmSensor i) 0x8000).setDegraded P.thm true).sentinel P.thm 5

/-- R851. -/
def thermalSample (temps : List (Option Int)) (s : State) : State :=
  let s1 := (List.range 64).foldl (fun t i => match temps[i]? with | some x => sampleOne i x t | none => t) s
  let hot := (List.range 64).filter (fun i => match temps[i]? with
    | some (some v) => s.sensorPresent i && decide ((s.rd P.thm R.thmTrip : Int) ≤ v)
    | _ => false)
  let run := hot ++ (hot.filter (fun i => s.thm.tripRun.contains i)).map (· + 64)
  ({ s1 with thm := { s1.thm with tripRun := run } }).thermalUpdate

/-- THERMAL_SAMPLE. -/
def execThermalSample (temps : List (Option Int)) (s : State) : Outcome State Fault Refusal := .next (thermalSample temps s)

/-- R852. -/
def hbmTempRead (temps : List Int) (s : State) : State :=
  ((List.range s.part.code.stacks).foldl (fun (t : State) k => match temps[k]? with
    | some v => t.wr P.thm (R.thmHbm k) (ofS 16 v)
    | none => t) s).thermalUpdate

/-- HBM_TEMP_READ. -/
def execHbmTempRead (temps : List Int) (s : State) : Outcome State Fault Refusal := .next (hbmTempRead temps s)

/-- Every PWM output at 100% at once (R856). -/
def State.fullDuty (s : State) : State := s.each (List.range 4) (fun t o => t.wr P.plant (R.pwmDutyOut o) 1000)

/-- R855, R856. -/
def thermtrip (s : State) : State :=
  match s.thm.tripRun.find? (fun i => 64 ≤ i) with
  | none => s
  | some i =>
    if s.pins.thermtrip then s
    else
      let s1 := ({ s with pins := { s.pins with thermtrip := true } }).faultN
      let die := let j := i - 64; if j < 20 then 0 else if j < 40 then 1 else 2 + (j - 40) / 6
      (s1.stopWork.fullDuty).raise (plainErr 0x0022 P.thm 0 die (i - 64) 0)

/-- THERMTRIP. -/
def execThermtrip (s : State) : Outcome State Fault Refusal := .next (thermtrip s)

/-- R854: the clear is discarded while any sensor reads above THM_ALARM - 80. -/
def thmAlarmClear (s : State) : State :=
  if s.temps.any (fun x => decide ((s.rd P.thm R.thmAlarm : Int) - 80 < x.2)) then s else s.wr P.thm R.thmStatusAlarm 0

/-- THM_ALARM_CLEAR. -/
def execThmAlarmClear (s : State) : Outcome State Fault Refusal := .next (thmAlarmClear s)

/-! ## The governor (R859 to R863) -/

/-- The coolant temperature of R871. -/
def State.coolant (s : State) : Int :=
  let best := fun (role : Nat) => ((List.range 8).filter (fun i => bits (s.rd P.plant (R.sensCfg i)) 20 2 = role &&
    s.on P.plant (R.sensValueValid i))).foldl (fun (b : Option Int) i =>
      let v := toS 16 (s.rd P.plant (R.sensValueTemp i))
      match b with | none => some v | some y => some (max y v)) none
  match best 2 with
  | some v => v
  | none => match best 1 with
    | some v => v
    | none => toS 16 (s.rd P.plant R.tCoolDefault)

/-- The feed-forward term u (17, The thermal governor). -/
def State.feedForward (s : State) : Nat :=
  let src := s.rd P.thm R.govFfSrc
  let hold := (List.range s.part.code.ioDies).foldl (fun b d => max b (s.holdOcc d * 1024 / 262144)) 0
  let iq := s.fe.iqs.foldl (fun b q => if q.2.bound.isSome then max b (q.2.items.length * 1024 / 2 ^ q.2.log2) else b) 0
  min 1024 (max (if src.testBit 0 then hold else 0) (if src.testBit 1 then iq else 0))

/-- tpred of gov_tick; divisions of signed values go toward zero (log entry 20). -/
def State.predict (s : State) : Int :=
  let tj := toS 16 (s.rd P.thm R.thmMaxTemp)
  let rr := s.rd P.thm R.govR
  let rmin := rr % 65536
  let rmax := rr / 65536
  let r := if s.on P.plant R.plantCtrl then rmax - (rmax - rmin) * s.rd P.thm R.govOutDuty / 1000 else rmax
  let tss := s.coolant + ((s.watts * r * 16 / 1000 : Nat) : Int)
  let g := s.rd P.thm R.govTime
  let tau : Int := (g % 65536 : Nat)
  let hz : Int := (g / 65536 : Nat)
  tj + Int.tdiv ((tss - tj) * hz) (hz + tau)

/-- cduty of gov_tick. -/
def nextCduty (e : Int) (duty cd cmin p1s p10 pl1 pl2 : Nat) : Nat :=
  if (decide (0 < e) && duty = 1000) || pl1 < p1s || pl2 < p10 then max (cd - 1) cmin
  else if decide (e < -16) && p1s * 20 < pl1 * 19 && p10 * 20 < pl2 * 19 then min (cd + 1) 64
  else cd

/-- R859, R862. -/
def govTick (s : State) : State :=
  if !s.ready P.hk || s.flt.hkStopped then s
  else
    let u := s.feedForward
    let tp := s.predict
    let s1 := ((s.wr P.thm R.govTpred (ofS 16 tp)).wr P.thm R.govFf u).wr P.hk R.hkTicks (s.rd P.hk R.hkTicks + 1)
    let m := s.rd P.pwr R.pwrMean
    let lim := s.rd P.pwr (R.pwrLimits s.part.code)
    let p10 := m % 65536
    let p1s := m / 65536
    let pl1 := lim % 65536
    let pl2 := lim / 65536
    let s2 := if pl1 < p1s then s1.sentinel P.thm 3 else s1
    let s3 := if pl2 < p10 then s2.sentinel P.thm 4 else s2
    let s3 := { s3 with flt := { s3.flt with wdtServiced := s.ns } }
    if s.loopFrozen 5 then s3
    else
      let e := tp - (s.rd P.thm R.thmTarget : Int)
      let imax : Int := s.rd P.thm R.govImax
      let integ := clampI (s.thm.integ + e) (-imax) imax
      let g := s.rd P.thm R.govGain
      let f := s.rd P.thm R.govFfDuty
      let kp : Int := (g % 65536 : Nat)
      let ki : Int := (g / 65536 : Nat)
      let dmin : Int := (f / 65536 : Nat)
      let duty := (clampI (dmin + Int.tdiv (kp * e + ki * integ) 16 + ((f % 65536 * u / 1024 : Nat) : Int)) dmin 1000).toNat
      let cd := s.rd P.thm R.govOutCduty
      let cd1 := nextCduty e duty cd (s.rd P.thm R.govCdutyMin) p1s p10 pl1 pl2
      let s4 := (s3.wr P.thm R.govOutDuty duty).wr P.thm R.govOutCduty cd1
      let s5 := { s4 with thm := { s4.thm with integ := integ } }
      if cd1 < cd then s5.sentinel P.thm 2 else s5

/-- GOV_TICK. -/
def execGovTick (s : State) : Outcome State Fault Refusal := .next (govTick s)

/-! ## Plant (R864 to R873) -/

/-- The duty an output takes at a period boundary (R866, R873). -/
def State.dutyFor (s : State) (o : Nat) : Nat :=
  let role := s.rd P.plant (R.pwmRole o)
  if s.pins.thermtrip then 1000
  else if s.on P.plant R.plantCtrl && (role = 1 || role = 2) then
    (if s.on P.plant R.plantStatusPumpLost then 1000 else s.rd P.thm R.govOutDuty)
  else s.rd P.plant (R.pwmDutySet o)

/-- R865: every output takes its duty, held while PLANT is not READY (08 R360). -/
def pwmPeriod (s : State) : State :=
  if s.pins.thermtrip then s.fullDuty
  else if !s.ready P.plant then s
  else s.each (List.range 4) (fun t o => t.wr P.plant (R.pwmDutyOut o) (t.dutyFor o))

/-- PWM_PERIOD. -/
def execPwmPeriod (s : State) : Outcome State Fault Refusal := .next (pwmPeriod s)

/-- TACH_LOST bit t. -/
def State.setTachLost (s : State) (t : Nat) (b : Bool) : State :=
  let v := s.rd P.plant R.plantStatusTachLost
  if v.testBit t = b then s
  else
    let s1 := s.wr P.plant R.plantStatusTachLost (putBits v t 1 (b2n b))
    if b then s1.cause P.plant 9 else s1

/-- Fields of TACH_CFG_t. -/
def State.tachKind (s : State) (t : Nat) : Bool := (s.rd P.plant (R.tachCfg t)).testBit 5
def State.tachScale (s : State) (t : Nat) : Nat := bits (s.rd P.plant (R.tachCfg t)) 8 12
def State.lossNs (s : State) (t : Nat) : Nat := bits (s.rd P.plant (R.tachCfg t)) 20 12 * 1000000

/-- A flow input below FLOW_MIN is so since now, or since it first was. -/
def State.noteFlow (s : State) (t rate : Nat) : State :=
  let low := s.tachKind t && rate < s.rd P.plant (R.flowMin t)
  let since := if low then some (((s.thm.lowSince[t]?).getD none).getD s.ns) else none
  { s with thm := { s.thm with lowSince := s.thm.lowSince.set t since } }

/-- R867: TACH_RATE from the mean of the last four periods. -/
def tachEdge (t : Nat) (s : State) : State :=
  if 6 ≤ t then s
  else
    let es := (s.ns :: (s.thm.tach[t]?).getD []).take 5
    let s1 := { s with thm := { s.thm with tach := s.thm.tach.set t es } }
    match es.getLast? with
    | none => s1
    | some old =>
      let k := es.length - 1
      let span := s.ns - old
      let unit := if s.tachKind t then 6 * 10 ^ 13 else 60 * 10 ^ 9
      let rate := if k = 0 || span = 0 then s.rd P.plant (R.tachRate t) else unit * k / (span * s.tachScale t)
      let s2 := (s1.wr P.plant (R.tachRate t) (satN 32 rate)).noteFlow t rate
      if s.tachKind t && rate < s.rd P.plant (R.flowMin t) then s2 else s2.setTachLost t false

/-- TACH_EDGE. -/
def execTachEdge (t : Nat) (s : State) : Outcome State Fault Refusal := .next (tachEdge t s)

/-- No edge on input t for LOSS_MS. -/
def State.noEdge (s : State) (t : Nat) : Bool := (((s.thm.tach[t]?).getD []).head?.getD 0) + s.lossNs t ≤ s.ns

/-- R867: the rate reads 0 and the input is in loss. -/
def tachNoEdge (t : Nat) (s : State) : State :=
  if 6 ≤ t || !s.noEdge t then s
  else
    let s1 := ((s.wr P.plant (R.tachRate t) 0).noteFlow t 0).setTachLost t true
    { s1 with thm := { s1.thm with tach := s1.thm.tach.set t (((s1.thm.tach[t]?).getD []).take 1) } }

/-- TACH_NO_EDGE. -/
def execTachNoEdge (t : Nat) (s : State) : Outcome State Fault Refusal := .next (tachNoEdge t s)

/-- Input t's pump is lost (R872). -/
def State.pumpIsLost (s : State) (t : Nat) : Bool :=
  let c := s.rd P.plant (R.tachCfg t)
  let o := c % 8
  c.testBit 3 && s.rd P.plant (R.pwmRole o) = 1 &&
  (if s.tachKind t then
    (match (s.thm.lowSince[t]?).getD none with | some x => x + s.lossNs t ≤ s.ns | none => false)
   else 0 < s.rd P.plant (R.pwmDutyOut o) && s.noEdge t)

/-- R872, R873. -/
def pumpLoss (t : Nat) (s : State) : State :=
  if 6 ≤ t || !s.ready P.plant || !s.pumpIsLost t then s
  else
    let s1 := (((s.setTachLost t true).wr P.plant R.plantStatusPumpLost 1).cause P.plant 8).count P.plant R.plantPumpLoss
    if s1.on P.plant R.plantCtrl then s1.engageFloor else s1

/-- PUMP_LOSS. -/
def execPumpLoss (t : Nat) (s : State) : Outcome State Fault Refusal := .next (pumpLoss t s)

/-- R877. -/
def pumpLostClear (s : State) : State := if s.pumpInLoss then s else s.wr P.plant R.plantStatusPumpLost 0

/-- PUMP_LOST_CLEAR. -/
def execPumpLostClear (s : State) : Outcome State Fault Refusal := .next (pumpLostClear s)

/-- A raw big-endian sensor value in 1/16 °C (R869): FORMAT 0 counts 1/256 °C, FORMAT 1 counts 1/128 °C. -/
def sensTemp (cfg raw : Nat) : Int := Int.fdiv (toS 16 raw) (if cfg.testBit 16 then 8 else 16)

/-- One I3C sensor's read (R869, R870). -/
def sensOne (i : Nat) (x : Option Nat) (s : State) : State :=
  let cfg := s.rd P.plant (R.sensCfg i)
  if bits cfg 20 2 = 0 then s
  else match x with
    | some raw =>
      let s1 := (s.wr P.plant (R.sensValueTemp i) (ofS 16 (sensTemp cfg raw))).wr P.plant (R.sensValueValid i) 1
      { s1 with thm := { s1.thm with i3cFail := s1.thm.i3cFail.set i 0 } }
    | none =>
      let n := (s.thm.i3cFail[i]?).getD 0 + 1
      let s1 := { s with thm := { s.thm with i3cFail := s.thm.i3cFail.set i n } }
      if n ≠ 3 then s1
      else (((s1.wr P.plant (R.sensValueValid i) 0).wr P.plant R.plantStatusSensorLost 1).count P.plant R.i3cNack).cause P.plant 10

/-- R869, R870: SENSOR_LOST falls once no configured sensor is lost. -/
def plantSensorRead (raws : List (Option Nat)) (s : State) : State :=
  let s1 := (List.range 8).foldl (fun t i => match raws[i]? with | some x => sensOne i x t | none => t) s
  if s1.thm.i3cFail.any (fun n => 3 ≤ n) then s1 else s1.wr P.plant R.plantStatusSensorLost 0

/-- PLANT_SENSOR_READ. -/
def execPlantSensorRead (raws : List (Option Nat)) (s : State) : Outcome State Fault Refusal := .next (plantSensorRead raws s)

end Sys2Proof.Machine
end

