-- ==== Sys2Proof/Machine/Faults.lean ====
section
/-! DEFINITION. Machine/Faults.lean: errors as they are detected, the log's failure, FAULT_N, scrub, the
housekeeping watchdog (19). -/

namespace Sys2Proof.Machine

open Host (Outcome)

/-- What the block that finds an error counts: corrected errors (R939), and uncorrectable reads of a stack. -/
def State.countError (s : State) (e : ErrEvent) : State :=
  match pageAt (e.page / 0x1000) with
  | none => s
  | some i =>
    let p := e.page / 0x1000 * 0x1000
    match i.kind with
    | .hbm =>
      if e.code = 0 then s.count p R.hbmCe
      else if e.code = 2 || e.code = 0x25 then
        (s.count p R.hbmUe).wr p R.hbmUeAddr ((stackOf s.part.code e.addr).2 / 64 * 64)
      else s
    | .cl => if e.code = 0 then s.countO p R.clCmCe 1 e.part else if e.code = 2 then s.countO p R.clCmUe 1 e.part else s
    | .core => if e.code = 0 then s.countO p R.coreMemCe 1 e.part else if e.code = 2 then s.countO p R.coreMemUe 1 e.part else s
    | .forest =>
      -- R701: the manual gives no place in Forest memory to a forest, so which one holds the word is free
      let mine := s.mem.forest.filter (fun r => r.cluster = i.inst)
      if e.code = 0 then (s.countO p R.feMemCe 1 e.part).sentinel p 4
      else if e.code = 2 then
        let s1 := ((s.countO p R.feMemUe 1 e.part).cause p 8).draw
        match mine[s.drawn mine.length]? with
        | some r => { s1 with mem := { s1.mem with forest := s1.mem.forest.filter (· ≠ r) } }
        | none => s1
      else s
    | _ => s

/-- A code that R938's table fixes, or 0 for a corrected error. -/
def knownCode (c : Nat) : Bool := c = 0 || faultClass c ≠ 0

/-- An error found by a block: counted, reported by its class (R938 to R942). A housekeeping watchdog or an exception of
that core leaves it stopped (R958). -/
def State.detect (s : State) (e : ErrEvent) : State :=
  let s0 := if e.code = 0x23 then { s with flt := { s.flt with hkStopped := true } } else s
  let s1 := (s0.countError e).raise { e with page := e.page % 2 ^ 26 }
  if faultClass e.code = 3 then s1.settleReady else s1

/-- R949 to R952: kind 0 LOG_UE, 1 WRITE_STUCK, 2 CTRL_FAIL; class and code of the record being written, or 0. -/
def logFailure (kind cls code : Nat) (s : State) : State :=
  if 3 ≤ kind then s
  else
    let first := !s.logFailed
    let f := if kind = 0 then R.logfailStatusLogUe else if kind = 1 then R.logfailStatusWriteStuck else R.logfailStatusCtrlFail
    let s1 := s.wr P.fltAon f 1
    let s2 := if first then ((s1.wr P.fltAon R.logfailFirstClass cls).wr P.fltAon R.logfailFirstCode code).wr P.fltAon R.logfailTime s.fns
      else s1
    (s2.cause P.flt 10).faultN

/-- LOG_FAILURE. -/
def execLogFailure (kind cls code : Nat) (s : State) : Outcome State Fault Refusal := .next (logFailure kind cls code s)

/-- R955: W1C of causes [0] and [3]. -/
def faultNClear (mask : Nat) (s : State) : State :=
  let c := s.rd P.fltAon R.aonFaultNCause
  let c1 := if mask.testBit 0 then putBits c 0 1 0 else c
  let c2 := if mask.testBit 3 then putBits c1 3 1 0 else c1
  (s.wr P.fltAon R.aonFaultNCause c2).faultN

/-- FAULT_N_CLEAR. -/
def execFaultNClear (mask : Nat) (s : State) : Outcome State Fault Refusal := .next (faultNClear mask s)

/-- R971. -/
def landingPendingClear (s : State) : State := s.wr P.fltAon R.aonLandingPending 0

/-- LANDING_PENDING_CLEAR. -/
def execLandingPendingClear (s : State) : Outcome State Fault Refusal := .next (landingPendingClear s)

/-- R943: 100 ms of the device time base without service. -/
def housekeepingWatchdog (s : State) : State :=
  if !s.ready P.hk || s.ns < s.flt.wdtServiced + 100000000 then s
  else
    let s1 := s.wr P.hk R.hkWdtExpired (s.rd P.hk R.hkWdtExpired + 1)
    ({ s1 with flt := { s1.flt with hkStopped := true } }).raise (plainErr 0x0023 P.hk 0 2 0 0)

/-- HOUSEKEEPING_WATCHDOG. -/
def execHousekeepingWatchdog (s : State) : Outcome State Fault Refusal := .next (housekeepingWatchdog s)

/-- A stack-local line in the firmware reserve outside Landing and the epoch journal. -/
def inReserve (stack line : Nat) : Bool := stack = 0 && 0x10100000 ≤ line && line < 0x40000000

/-- R989: kind 0 a line read clean or corrected, 1 a line found uncorrectable, 2 the end of a pass. -/
def hbmScrub (stack line kind : Nat) (s : State) : State :=
  let p := P.hbm stack
  if s.part.code.stacks ≤ stack || 36 * 2 ^ 30 ≤ line || !s.ready p || !s.on p R.hbmScrubCfgEn then s
  else
    let l := line / 64 * 64
    let s1 := s.wr p R.hbmScrubPos (l / 2 ^ 20)
    if kind = 0 then s1.count p R.hbmCe
    else if kind = 2 then s1.count p R.hbmScrubPasses
    else
      let a := physOf s.part.code stack l
      let s2 := ({ s1 with mem := { s1.mem with poison := a :: s1.mem.poison.filter (· ≠ a) } }).count p R.hbmPoisoned
      let code := if inReserve stack l then 0x25 else 1
      s2.raise (plainErr code p (l + stack * 2 ^ 60) (if stack < s.part.code.stacks / 2 then 0 else 1) stack 0)

/-- HBM_SCRUB. -/
def execHbmScrub (stack line kind : Nat) (s : State) : Outcome State Fault Refusal := .next (hbmScrub stack line kind s)

/-- A warm reset is requested: ports stop first (08 R356). -/
def State.requestWarm (s : State) (cause : Nat) : State :=
  if s.rst.warm.isSome then s
  else { s with rst := { s.rst with warm := some cause, warmAt := s.ns, stopped := true } }

end Sys2Proof.Machine
end

