-- ==== Sys2Proof/Machine/Observe.lean ====
section
/-! DEFINITION. Machine/Observe.lean: markers, histograms' set-up, freezes by register and pin, rings, trace
records on their way to memory (18). -/

namespace Sys2Proof.Machine

open Host (Outcome)

/-! ## Freezes (R901 to R906) -/

/-- What a freeze that begins records: time, count, cause FREEZE. -/
def State.freezeNoted (s : State) : State :=
  (((s.wr P.obs R.obsFrozenAt s.fns).count P.obs R.obsFreezes).sentinel P.obs 1).cause P.obs 8

/-- A change f of a freeze source, noted where it begins a freeze. -/
def State.freezeBy (s : State) (f : State → State) : State := if !s.frozen && (f s).frozen then f s.freezeNoted else f s

/-- FREEZE_SW: R903. -/
def execFreezeSw (s : State) : Outcome State Fault Refusal := .next (s.freezeBy (fun t => t.wr P.obs R.obsFreezeSw 1))

/-- FREEZE_IN: R905. -/
def execFreezeIn (s : State) : Outcome State Fault Refusal :=
  .next (s.freezeBy (fun t => { t with pins := { t.pins with freezeIn := true } }))

/-- FREEZE_IN_DEASSERT: R903. -/
def execFreezeInDeassert (s : State) : Outcome State Fault Refusal :=
  .next { s with pins := { s.pins with freezeIn := false } }

/-- A fabric FREEZE or THAW takes effect (R908): a THAW ends a freeze whose ID is not later. -/
def State.applyFreeze (s : State) (m : FreezeMsg) : State :=
  if m.thaw then
    match s.obs.freezeId with
    | none => s
    | some i => if m.id = i || seqLater 32 m.id i then { s with obs := { s.obs with freezeId := none } } else s
  else s.freezeBy (fun t => { t with obs := { t.obs with freezeId := some m.id } })

/-- Messages whose time has come take effect (R908). -/
def State.dueFreezes (s : State) : State :=
  let due := s.obs.freezeWait.filter (fun m => decide (m.at_ ≤ s.fns))
  if due = [] then s
  else ({ s with obs := { s.obs with freezeWait := s.obs.freezeWait.filter (fun m => !decide (m.at_ ≤ s.fns)) } }).each due State.applyFreeze

/-! ## Markers (R897 to R900) -/

/-- The counters of this page stand still (R903). -/
def State.obsFrozen (s : State) : Bool := s.frozen && s.on P.obs R.pgTallyCtrlFreezeEn

/-- Accumulator k. -/
def State.mkAcc (s : State) (k : Nat) : MkAcc := (aget s.obs.acc k).getD ⟨0, 0, 0xFFFFFFFF, 0, 0⟩

/-- Accumulators of a marker value and partition, changed by f. -/
def State.onAccs (s : State) (marker part : Nat) (f : MkAcc → MkAcc) : State :=
  if s.obsFrozen then s
  else s.each (List.range 16) (fun t k =>
    if t.on P.obs (R.markerCfgEn k) && t.rd P.obs (R.markerCfgMarker k) = marker && t.rd P.obs (R.markerCfgPartition k) = part then
      { t with obs := { t.obs with acc := aput t.obs.acc k (f (t.mkAcc k)) } }
    else t)

/-- A pair of length n ns. -/
def MkAcc.pair (a : MkAcc) (n : Nat) : MkAcc :=
  { a with pairs := (a.pairs + 1) % 2 ^ 32, sum := (a.sum + n) % 2 ^ 64, min := if satN 32 n < a.min then satN 32 n else a.min,
           max := if a.max < satN 32 n then satN 32 n else a.max }

/-- A begin or end marker from a source and invocation (R899, R900). -/
def State.marker (s : State) (marker : Nat) (isEnd : Bool) (source inv part : Nat) : State :=
  if !isEnd then { s with obs := { s.obs with open_ := ⟨marker, source, inv, s.fns⟩ :: s.obs.open_ } }
  else match s.obs.open_.findIdx? (fun o => o.marker = marker && o.source = source && o.inv = inv) with
    | none => s.onAccs marker part (fun a => { a with orphans := (a.orphans + 1) % 2 ^ 32 })
    | some i =>
      let t0 := ((s.obs.open_[i]?).map (·.at_)).getD s.fns
      ({ s with obs := { s.obs with open_ := s.obs.open_.eraseIdx i } }).onAccs marker part (fun a => a.pair (s.fns - t0))

/-- R898. -/
def obsSwMark (marker : Nat) (isEnd : Bool) (s : State) : State :=
  (s.trace 80 0x30 0 [(16, 2, marker), (18, 1, b2n isEnd + 2), (20, 2, 0xFFFF), (22, 2, 0xFFFF)]).marker (marker % 65536) isEnd 80 0 0

/-- OBS_SW_MARK. -/
def execObsSwMark (marker : Nat) (isEnd : Bool) (s : State) : Outcome State Fault Refusal := .next (obsSwMark marker isEnd s)

/-- R900: a write to MARKER_CFG_k sets and clears its accumulator. -/
def markerCfgWrite (k marker part : Nat) (en : Bool) (s : State) : State :=
  if 16 ≤ k then s
  else
    let s1 := ((s.wr P.obs (R.markerCfgMarker k) marker).wr P.obs (R.markerCfgPartition k) part).wr P.obs (R.markerCfgEn k) (b2n en)
    { s1 with obs := { s1.obs with acc := adel s1.obs.acc k } }

/-- MARKER_CFG_WRITE. -/
def execMarkerCfgWrite (k marker part : Nat) (en : Bool) (s : State) : Outcome State Fault Refusal :=
  .next (markerCfgWrite k marker part en s)

/-- R896: a write to HIST_CFG_h binds and clears histogram h; a reserved KIND is not accepted (06 R269). -/
def histCfgWrite (h kind index : Nat) (s : State) : State :=
  if 16 ≤ h then s
  else
    let s0 := if 8 ≤ kind then s.illegal P.obs else s.wr P.obs (R.histCfgKind h) kind
    let s1 := s0.wr P.obs (R.histCfgIndex h) index
    { s1 with obs := { s1.obs with bins := s1.obs.bins.filter (fun b => b.1 / 16 ≠ h) } }

/-- HIST_CFG_WRITE. -/
def execHistCfgWrite (h kind index : Nat) (s : State) : Outcome State Fault Refusal := .next (histCfgWrite h kind index s)

/-! ## Rings and budgets (R930 to R935) -/

/-- Writes to a ring may go: device memory, or host memory under the physical function. -/
def State.ringGo (s : State) (base : Nat) : Bool := !spaceHost base || s.dmaOk 0

/-- Write into a ring, counting host bytes. -/
def State.ringWrite (s : State) (base off : Nat) (bs : Bytes) : State :=
  (s.spWrite 0 base off bs).hostSide base bs.length true

/-- A ring's range passes partition 0's firewall, its base being 4 KiB aligned (R934, R935). -/
def State.ringOk (s : State) (base size : Nat) : Bool := spaceAddr base % 4096 = 0 && s.spAdmits true 0 base size true

/-- A SYNC record of source 80 (R916). -/
def State.syncRecord (s : State) : State :=
  let s1 := s.trace 80 0x02 0 [(16, 8, s.time.ck4), (24, 4, s.rd P.dev R.devFwVersion), (28, 1, s.rd P.fab R.fabStatusDeviceId),
    (29, 1, s.gen), (30, 2, s.epoch)]
  { s1 with obs := { s1.obs with syncAt := s.fns } }

/-- CORE_SYNC records of every enabled instruction-trace source, whose program counters are free (R915). -/
def State.coreSyncs (s : State) : State :=
  s.each (bitList (s.rd P.obsTrace R.trCoreEn) 21) (fun t k => (t.trace k 0x10 0 [(16, 4, t.drawn (2 ^ 32))]).draw)

/-- R935: ring 0 tally, 1 trace, 2 tap. -/
def ringEnable (ring : Nat) (s : State) : State :=
  if ring = 0 then
    if s.ringOk (s.rd P.obs R.tallyBase) (2 ^ s.rd P.obs R.tallyCfgLog2 * 2 ^ 18) then s.wr P.obs R.tallyCfgEnable 1
    else s.perr P.obs 0x0100
  else if ring = 1 then
    if s.gated P.obsTrace || s.on P.obsTrace R.trCtrlEnable then s
    else if s.ringOk (s.rd P.obsTrace R.trBase) (2 ^ s.rd P.obsTrace R.trLog2 * 32) then
      ((s.wr P.obsTrace R.trCtrlEnable 1).wr P.obsTrace R.trWr 0).syncRecord.coreSyncs
    else s.perr P.obsTrace 0x0100
  else if ring = 2 then
    if s.gated P.obsTap || s.on P.obsTap R.tapCtrlEnable then s
    else if s.ringOk (s.rd P.obsTap R.tapBase) (2 ^ s.rd P.obsTap R.tapLog2) then
      (s.wr P.obsTap R.tapCtrlEnable 1).wr P.obsTap R.tapWr 0
    else s.perr P.obsTap 0x0100
  else s

/-- RING_ENABLE. -/
def execRingEnable (ring : Nat) (s : State) : Outcome State Fault Refusal := .next (ringEnable ring s)

/-- Rates of the two buckets in 10^-12 bytes a ns (R930). -/
def State.traceRate (s : State) : Nat := s.rd P.obs R.obsBudgetTrace * s.part.code.peakHbm
def State.tapRate (s : State) : Nat := s.rd P.obs R.obsBudgetTap * s.part.code.peakHbm

/-- One bucket after dt ns at a rate, capped at 10 µs of it; tokens are in 10^-12 bytes. -/
def refill (tok : Int) (rate dt : Nat) : Int := if (rate * 10000 : Nat) < tok + (rate * dt : Nat) then (rate * 10000 : Nat) else tok + (rate * dt : Nat)

/-- Both buckets filled up to now. -/
def State.refilled (s : State) : State :=
  let dt := s.ns - s.obs.tokensAt
  { s with obs := { s.obs with traceTokens := refill s.obs.traceTokens s.traceRate dt, tapTokens := refill s.obs.tapTokens s.tapRate dt,
                               tokensAt := s.ns } }

/-- Take n bytes from the trace budget. -/
def State.payTrace (s : State) (n : Nat) : State :=
  { s with obs := { s.obs with traceTokens := s.obs.traceTokens - ((n * 10 ^ 12 : Nat) : Int) } }

/-! ## Trace (R915 to R919, R931) -/

/-- R916. -/
def traceSync (s : State) : State :=
  if s.on P.obsTrace R.trCtrlEnable && s.obs.syncAt + 1000 * s.rd P.obsTrace R.trSyncUs ≤ s.fns then s.syncRecord else s

/-- TRACE_SYNC. -/
def execTraceSync (s : State) : Outcome State Fault Refusal := .next (traceSync s)

/-- R915. -/
def coreSync (source pc : Nat) (s : State) : State :=
  if 20 < source then s
  else
    let s1 := s.trace source 0x10 0 [(16, 4, pc)]
    { s1 with flt := { s1.flt with coreSync := aput s1.flt.coreSync source s.ns } }

/-- CORE_SYNC. -/
def execCoreSync (source pc : Nat) (s : State) : Outcome State Fault Refusal := .next (coreSync source pc s)

/-- R918: one LOSS record once the die's buffer has room. -/
def traceLoss (die : Nat) (s : State) : State :=
  match s.obs.bufs[die]? with
  | none => s
  | some b =>
    if b.lost = 0 || traceRoom ≤ b.recs.length then s
    else
      let lossRec := s.traceBytes 80 0x01 0 (payload [(16, 4, satN 32 b.lost), (20, 1, b.lostSrc), (24, 8, b.lostFirst)])
      { s with obs := { s.obs with bufs := s.obs.bufs.set die { recs := b.recs ++ [lossRec], lost := 0, lostSrc := 0, lostFirst := 0 } } }

/-- TRACE_LOSS. -/
def execTraceLoss (die : Nat) (s : State) : Outcome State Fault Refusal := .next (traceLoss die s)

/-- The trace ring can take one record (R919). -/
def State.traceRingRoom (s : State) : Bool :=
  s.on P.obsTrace R.trCtrlWrap || s.rd P.obsTrace R.trWr - s.rd P.obsTrace R.trRd < 2 ^ s.rd P.obsTrace R.trLog2

/-- R931: the oldest record of a die's buffer is written to the ring. -/
def traceRecordAdmit (die : Nat) (s : State) : State :=
  match s.obs.bufs[die]? with
  | none => s
  | some b =>
    match b.recs with
    | [] => s
    | one :: rest =>
      let s1 := s.refilled
      let base := s.rd P.obsTrace R.trBase
      if !s.on P.obsTrace R.trCtrlEnable || s.gated P.obsTrace || s.rd P.obs R.obsBudgetTrace = 0 || s1.obs.traceTokens ≤ 0 then s1
      else if !s.traceRingRoom then s1.cause P.obsTrace 8
      else if !s.ringGo base then s1.count P.dma R.dmaBmeWait
      else
        let w := s.rd P.obsTrace R.trWr
        let s2 := (s1.ringWrite base (32 * (w % 2 ^ s.rd P.obsTrace R.trLog2)) one).wr P.obsTrace R.trWr (w + 1)
        (({ s2 with obs := { s2.obs with bufs := s2.obs.bufs.set die { b with recs := rest } } }).payTrace 32).sentinel P.obs 2

/-- TRACE_RECORD_ADMIT. -/
def execTraceRecordAdmit (die : Nat) (s : State) : Outcome State Fault Refusal := .next (traceRecordAdmit die s)

/-! ## Tally periods (R881 to R888) -/

/-- The first whole multiple of the period after now, in fabric ns. -/
def State.nextBoundary (s : State) (ms : Nat) : Nat := (s.fns / (ms * 1000000) + 1) * (ms * 1000000)

/-- R885. -/
def tallyPeriodWrite (ms : Nat) (s : State) : State :=
  if ms = 0 || 60000 < ms then s.illegal P.obs
  else
    let s1 := s.wr P.obs R.obsTallyPeriod ms
    { s1 with obs := { s1.obs with nextTally := s.nextBoundary ms } }

/-- TALLY_PERIOD_WRITE. -/
def execTallyPeriodWrite (ms : Nat) (s : State) : Outcome State Fault Refusal := .next (tallyPeriodWrite ms s)

end Sys2Proof.Machine
end

