-- ==== Sys2Proof/Machine/Numbers.lean ====
section
/-! DEFINITION. Machine/Numbers.lean: the fifteen formats, exact values, one rounding, and the functions of ELEMWISE
(03, Numeric semantics; 04, Formats and conversion rules). -/

namespace Sys2Proof.Machine

/-! ## Exact values -/

/-- A value: NaN, an infinity, or a signed fraction n / d (d above 0; a negative zero is neg with n 0). -/
inductive Num where
  | nan
  | inf (neg : Bool)
  | fin (neg : Bool) (n d : Nat)
  deriving DecidableEq, Repr

namespace Num

/-- Positive zero. -/
def zero : Num := .fin false 0 1

/-- A natural number. -/
def ofNat (n : Nat) : Num := .fin false n 1

/-- An integer; 0 is +0. -/
def ofInt (i : Int) : Num := .fin (i < 0) i.natAbs 1

/-- NaN. -/
def isNan : Num → Bool
  | .nan => true
  | _ => false

/-- Zero of either sign. -/
def isZero : Num → Bool
  | .fin _ n _ => n = 0
  | _ => false

/-- The sign. -/
def sign : Num → Bool
  | .nan => false
  | .inf b => b
  | .fin b _ _ => b

/-- The value with the sign changed. -/
def neg : Num → Num
  | .nan => .nan
  | .inf b => .inf !b
  | .fin b n d => .fin (!b) n d

/-- The magnitude. -/
def abs : Num → Num
  | .nan => .nan
  | .inf _ => .inf false
  | .fin _ n d => .fin false n d

/-- Signed numerators of two fractions over one denominator. -/
def common (a b c d : Nat) : Nat × Nat × Nat :=
  if b = d then (a, c, b)
  else if b % d = 0 then (a, c * (b / d), b)
  else if d % b = 0 then (a * (d / b), c, d)
  else (a * d, c * b, b * d)

/-- Order of numbers that are no NaN: a < b. Zeros of either sign are equal (R173). -/
def lt : Num → Num → Bool
  | .nan, _ => false
  | _, .nan => false
  | .inf a, .inf b => a && !b
  | .inf a, .fin _ _ _ => a
  | .fin _ _ _, .inf b => !b
  | .fin a n d, .fin b m e =>
    let x : Int := if a then -((n * e : Nat) : Int) else (n * e : Nat)
    let y : Int := if b then -((m * d : Nat) : Int) else (m * d : Nat)
    x < y

/-- Equality of values: no NaN equals anything. -/
def veq (a b : Num) : Bool := !a.isNan && !b.isNan && !lt a b && !lt b a

end Num

/-- n * 2^e over 1, as a fraction. -/
def scaled (b : Bool) (n : Nat) (e : Int) : Num :=
  if 0 ≤ e then .fin b (n * 2 ^ e.toNat) 1 else .fin b n (2 ^ (-e).toNat)

/-! ## Formats (03, format codes; 04) -/

/-- Bits of a format. -/
def fmtBits : Nat → Nat
  | 0 => 4 | 1 => 4 | 2 => 4 | 3 => 8 | 4 => 8 | 5 => 6 | 6 => 6 | 7 => 8 | 8 => 8
  | 9 => 16 | 10 => 16 | 11 => 16 | 12 => 16 | 13 => 32 | 14 => 32 | _ => 8

/-- Bytes of an element; 0 for the two-to-a-byte formats. -/
def fmtBytes (f : Nat) : Nat := fmtBits f / 8 + (if fmtBits f = 6 then 1 else 0)

/-- An integer format. -/
def fmtInt (f : Nat) : Bool := f = 0 || f = 1 || f = 3 || f = 4 || f = 9 || f = 10 || f = 13

/-- A signed integer format. -/
def fmtSigned (f : Nat) : Bool := f = 0 || f = 3 || f = 9 || f = 13

/-- Least and greatest value of an integer format (R169). -/
def fmtMin (f : Nat) : Int := if fmtSigned f then -(2 ^ (fmtBits f - 1) : Nat) else 0
def fmtMax (f : Nat) : Int := if fmtSigned f then (2 ^ (fmtBits f - 1) : Nat) - 1 else (2 ^ fmtBits f : Nat) - 1

/-- Mantissa bits and bias of a float format. -/
def fmtMant : Nat → Nat
  | 2 => 1 | 5 => 2 | 6 => 3 | 7 => 3 | 8 => 2 | 11 => 10 | 12 => 7 | _ => 23
def fmtBias : Nat → Nat
  | 2 => 1 | 5 => 3 | 6 => 1 | 7 => 7 | 8 => 15 | 11 => 15 | _ => 127

/-- Greatest magnitude code of a finite value. -/
def fmtTop : Nat → Nat
  | 2 => 0x7 | 5 => 0x1F | 6 => 0x1F | 7 => 0x7E | 8 => 0x7B | 11 => 0x7BFF | 12 => 0x7F7F | _ => 0x7F7FFFFF

/-- Magnitude code of infinity. -/
def fmtInf : Nat → Option Nat
  | 8 => some 0x7C | 11 => some 0x7C00 | 12 => some 0x7F80 | 14 => some 0x7F800000 | _ => none

/-- The NaN the device writes (R171). -/
def fmtNan : Nat → Option Nat
  | 7 => some 0x7F | 8 => some 0x7E | 11 => some 0x7E00 | 12 => some 0x7FC0 | 14 => some 0x7FC00000 | _ => none

/-- A finite value that overflows becomes an infinity (R183). -/
def fmtOvInf (f : Nat) : Bool := f = 11 || f = 12 || f = 14

/-- The value of a float code (R170). -/
def decodeF (f code : Nat) : Num :=
  let w := fmtBits f
  let m := fmtMant f
  let neg := code.testBit (w - 1)
  let mag := code % 2 ^ (w - 1)
  if fmtInf f = some mag then .inf neg
  else if fmtTop f < mag then .nan
  else
    let e := mag / 2 ^ m
    let b : Int := fmtBias f
    if e = 0 then scaled neg (mag % 2 ^ m) (1 - b - m) else scaled neg (2 ^ m + mag % 2 ^ m) ((e : Int) - b - m)

/-- The integer an integer code spells. -/
def decodeI (f code : Nat) : Int := if fmtSigned f then toS (fmtBits f) code else (code % 2 ^ fmtBits f : Nat)

/-- floor(log2(n / d)) of a positive fraction. -/
def flog2 (n d : Nat) : Int :=
  let k : Int := (Nat.log2 n : Int) - Nat.log2 d
  if (if 0 ≤ k then decide (n < d * 2 ^ k.toNat) else decide (n * 2 ^ (-k).toNat < d)) then k - 1 else k

/-- n / d to the nearest natural number, ties to even. -/
def rne (n d : Nat) : Nat :=
  let q := n / d
  let r := 2 * (n % d)
  if r < d then q else if d < r then q + 1 else if q % 2 = 0 then q else q + 1

/-- n / d to the nearest natural number, ties away from zero. -/
def rndAway (n d : Nat) : Nat := (2 * n + d) / (2 * d)

/-- Magnitude code of n / d rounded once to a float format, the exponent unbounded above (R180). -/
def roundMag (f n d : Nat) : Nat :=
  if n = 0 then 0
  else
    let lo : Int := 1 - (fmtBias f : Int)
    let e := max (flog2 n d) lo
    let m := fmtMant f
    let s : Int := m - e
    let q := if 0 ≤ s then rne (n * 2 ^ s.toNat) d else rne n (d * 2 ^ (-s).toNat)
    (e - lo).toNat * 2 ^ m + q

/-- Code of a value in a float format, and whether it saturated (R180, R183 to R187). -/
def encodeF (f : Nat) (v : Num) : Nat × Bool :=
  let sgn := fun (b : Bool) (mag : Nat) => (if b then 2 ^ (fmtBits f - 1) + mag else mag)
  match v with
  | .nan => (match fmtNan f with | some c => (c, false) | none => (0, true))
  | .inf b => (match fmtInf f with | some c => (sgn b c, false) | none => (sgn b (fmtTop f), true))
  | .fin b n d =>
    let c := roundMag f n d
    if fmtTop f < c then (sgn b (if fmtOvInf f then (fmtInf f).getD 0 else fmtTop f), true) else (sgn b c, false)

/-- Code of an integer clamped to an integer format, and whether it was clamped (R169). -/
def encodeI (f : Nat) (i : Int) : Nat × Bool :=
  let c := clampI i (fmtMin f) (fmtMax f)
  (ofS (fmtBits f) c, c ≠ i)

/-- round_away of a finite value as an integer. -/
def awayI : Bool → Nat → Nat → Int
  | b, n, d => if b then -(rndAway n d : Int) else (rndAway n d : Int)

/-- Code of a value in an integer format with zero point z (R182, R184, R185). -/
def encodeQ (f : Nat) (z : Int) : Num → Nat × Bool
  | .nan => ((encodeI f z).1, true)
  | .inf b => (ofS (fmtBits f) (if b then fmtMin f else fmtMax f), true)
  | .fin b n d => encodeI f (awayI b n d + z)

/-! ## F32 arithmetic: exact, then one rounding -/

/-- Code of a value in F32. -/
def f32 (v : Num) : Nat := (encodeF 14 v).1

/-- A value rounded once to F32. -/
def r32 (v : Num) : Num := decodeF 14 (f32 v)

/-- The free result of an operation for which the manual states none. -/
def openNum (op : Nat) (a b : Num) : Num := decodeF 14 (Config.openF32 op (f32 a) (f32 b) % 2 ^ 32)

namespace Num

/-- Exact sum. An exact zero is +0 unless both are negative. -/
def add : Num → Num → Num
  | .nan, _ => .nan
  | _, .nan => .nan
  | .inf a, .inf b => if a = b then .inf a else openNum 1 (.inf a) (.inf b)
  | .inf a, .fin _ _ _ => .inf a
  | .fin _ _ _, .inf b => .inf b
  | .fin a n d, .fin b m e =>
    let c := common n d m e
    if a = b then .fin a (c.1 + c.2.1) c.2.2
    else if c.1 = c.2.1 then .fin false 0 1
    else if c.1 < c.2.1 then .fin b (c.2.1 - c.1) c.2.2
    else .fin a (c.1 - c.2.1) c.2.2

/-- Exact difference. -/
def sub (a b : Num) : Num := add a b.neg

/-- Exact product, with the given result for an infinity times zero. -/
def mulWith (bad : Num) : Num → Num → Num
  | .nan, _ => .nan
  | _, .nan => .nan
  | .inf a, .inf b => .inf (a != b)
  | .inf a, .fin b n _ => if n = 0 then bad else .inf (a != b)
  | .fin a n _, .inf b => if n = 0 then bad else .inf (a != b)
  | .fin a n d, .fin b m e => .fin (a != b) (n * m) (d * e)

/-- Exact product. -/
def mul (a b : Num) : Num := mulWith (openNum 2 a b) a b

/-- Product with a scale: IEEE rules (R1024). -/
def scaleBy (a s : Num) : Num := mulWith .nan a s

/-- Exact quotient, with the given result for a division by zero or of infinities. -/
def divWith (bad : Num) : Num → Num → Num
  | .nan, _ => .nan
  | _, .nan => .nan
  | .inf _, .inf _ => bad
  | .inf a, .fin b n _ => if n = 0 then bad else .inf (a != b)
  | .fin a _ _, .inf b => .fin (a != b) 0 1
  | .fin a n d, .fin b m e => if m = 0 then bad else .fin (a != b) (n * e) (d * m)

/-- Exact quotient. -/
def div (a b : Num) : Num := divWith (openNum 3 a b) a b

/-- The greater of two; the first of equals; NaN from a NaN. -/
def maxN (a b : Num) : Num := if a.isNan || b.isNan then .nan else if lt a b then b else a

/-- The less of two; the first of equals; NaN from a NaN. -/
def minN (a b : Num) : Num := if a.isNan || b.isNan then .nan else if lt b a then b else a

end Num

/-- F32 operations, each rounded once (R164). -/
def fadd (a b : Num) : Num := r32 (a.add b)
def fsub (a b : Num) : Num := r32 (a.sub b)
def fmul (a b : Num) : Num := r32 (a.mul b)
def fdiv (a b : Num) : Num := r32 (a.div b)
def ffma (a b c : Num) : Num := r32 ((a.mul b).add c)

/-- A scale is usable (R177). -/
def usable (code : Nat) : Bool := 0x00800000 ≤ code && code ≤ 0x7F7FFFFF

/-! ## Roots, exponentials and logarithms to 320 bits -/

/-- floor(sqrt n), by binary digits: k counts digit pairs. -/
def isqrt : Nat → Nat → Nat
  | 0, _ => 0
  | k + 1, n =>
    let r := 2 * isqrt k (n / 4)
    if (r + 1) * (r + 1) ≤ n then r + 1 else r

/-- sqrt(n / d) of a positive fraction, to more than 64 bits, an inexact root kept off every shorter number. -/
def rootFrac (n d : Nat) : Num :=
  let h := 65 + Nat.log2 d
  let v := n * 2 ^ (2 * h)
  let r := isqrt (Nat.log2 (v / d) / 2 + 1) (v / d)
  .fin false (2 * r + (if r * r * d = v then 0 else 1)) (2 ^ (h + 1))

/-- Binary places of the fixed-point series. -/
def fixP : Nat := 320

/-- Sum of z^(2i + 1) / (2i + 1) for i from i0 over k terms, z and its powers in fixed point. -/
def atanhSum : Nat → Nat → Nat → Nat → Nat
  | 0, _, _, _ => 0
  | k + 1, i, pw, z2 => pw / (2 * i + 1) + atanhSum k (i + 1) (pw * z2 / 2 ^ fixP) z2

/-- ln 2 in fixed point: 2 atanh(1/3). -/
def ln2Fix : Nat := 2 * atanhSum 110 0 (2 ^ fixP / 3) (2 ^ fixP / 9)

/-- Taylor sum of exp in fixed point. -/
def expSum : Nat → Nat → Nat → Nat → Nat
  | 0, _, _, _ => 0
  | k + 1, i, t, r => t + expSum k (i + 1) (t * r / 2 ^ fixP / (i + 1)) r

/-- e^x for a fraction of magnitude at most 300. -/
def expFrac (b : Bool) (n d : Nat) : Num :=
  let x : Int := if b then -((n * 2 ^ fixP / d : Nat) : Int) else ((n * 2 ^ fixP / d : Nat) : Int)
  let k := x / (ln2Fix : Int)
  let r := (x % (ln2Fix : Int)).toNat
  scaled false (expSum 90 0 (2 ^ fixP) r) (k - fixP)

/-- A finite value held within -300 to 300. -/
def hold300 (b : Bool) (n d : Nat) : Bool × Nat × Nat := if 300 * d < n then (b, 300, 1) else (b, n, d)

/-- e^x of a finite value: beyond 300 in magnitude the result lies outside F32's range anyway. -/
def expN (b : Bool) (n d : Nat) : Num :=
  if n = 0 then .fin false 1 1 else let x := hold300 b n d; expFrac x.1 x.2.1 x.2.2

/-- ln of a positive fraction. -/
def lnFrac (n d : Nat) : Num :=
  let k := flog2 n d
  let m := if 0 ≤ k then n * 2 ^ fixP / (d * 2 ^ k.toNat) else n * 2 ^ (-k).toNat * 2 ^ fixP / d
  let one := 2 ^ fixP
  let z := (m - one) * one / (m + one)
  let v : Int := k * ln2Fix + 2 * atanhSum 110 0 z (z * z / one)
  .fin (v < 0) v.natAbs (2 ^ fixP)

/-- 1 / (1 + e^-x) of a finite value. -/
def sigmoidN (b : Bool) (n d : Nat) : Num := Num.divWith .nan (Num.ofNat 1) ((Num.ofNat 1).add (expN (!b) n d))

/-- sqrt(2 / pi) * 2^120, and 0.044715 as a fraction: the constants of the tanh form of GELU. -/
def geluK : Num := .fin false 1060570495623720563770242243560823921 (2 ^ 120)
def geluC : Num := .fin false 44715 1000000

/-- F32 code within 2 ulp of the exact result (R164): the rounded one moved by the free offset, on its own side of
zero and at most to infinity; a result that is exact by its own is not moved. -/
def near2 (func : Nat) (x v : Num) : Num :=
  match v with
  | .nan => .nan
  | .inf b => .inf b
  | .fin b n d =>
    let c := roundMag 14 n d
    let k := c + Config.ulpOffset func (f32 x) % 5 - 2
    decodeF 14 ((if b then 2 ^ 31 else 0) + min k 0x7F800000)

/-- A function of 03 R164's second group on a value: 0x0B EXP, 0x0C LOG, 0x07 SIGMOID, 0x08 TANH, 0x09 GELU, 0x0A SILU,
0x0E RSQRT. -/
def approx (func : Nat) (x : Num) : Num :=
  match x with
  | .nan => .nan
  | .inf b =>
    if func = 0x0B then (if b then Num.zero else .inf false)
    else if func = 0x0C then (if b then openNum func x x else .inf false)
    else if func = 0x07 then (if b then Num.zero else Num.ofNat 1)
    else if func = 0x08 then .fin b 1 1
    else if func = 0x09 || func = 0x0A then (if b then openNum func x x else .inf false)
    else (if b then openNum func x x else Num.zero)
  | .fin b n d =>
    if func = 0x0B then near2 func x (expN b n d)
    else if func = 0x0C then (if n = 0 || b then openNum func x x else near2 func x (lnFrac n d))
    else if func = 0x07 then near2 func x (sigmoidN b n d)
    else if func = 0x08 then
      (if n = 0 then x
       else
        let e := expN false (2 * n) d
        near2 func x (let t := Num.divWith .nan (e.sub (Num.ofNat 1)) (e.add (Num.ofNat 1)); if b then t.neg else t))
    else if func = 0x09 then
      (let u := ((x.add (geluC.mul (x.mul (x.mul x)))).mul geluK).mul (Num.ofNat 2)
       match u with
       | .fin ub un ud => near2 func x (x.mul (sigmoidN ub un ud))
       | _ => .nan)
    else if func = 0x0A then near2 func x (x.mul (sigmoidN b n d))
    else (if n = 0 || b then openNum func x x else near2 func x (rootFrac d n))

/-- e^x in F32. -/
def fexp (x : Num) : Num := approx 0x0B x
/-- 1 / sqrt x in F32. -/
def frsqrt (x : Num) : Num := approx 0x0E x

end Sys2Proof.Machine
end

