-- ==== Sys2Proof/Machine/Operands.lean ====
section
/-! DEFINITION. Machine/Operands.lean: tensors: descriptors, elements, values, conversion into a tensor, and the
operands of an operation (03, Tensor descriptors, Operation descriptor layout; 04). -/

namespace Sys2Proof.Machine

/-! ## Where bytes lie (03 R134; 05 R212) -/

/-- A memory: a partition's device addresses, device physical addresses, a cluster's memory, its core memories. -/
inductive Space where
  | part (p : Nat)
  | phys
  | cm (c : Nat)
  | core (c : Nat)
  deriving DecidableEq, Repr

/-- n bytes at an address of a memory. -/
def State.spaceRead (s : State) (sp : Space) (a n : Nat) : Bytes :=
  match sp with
  | .part p => s.partRead p a n
  | .phys => s.devRead a n
  | .cm c => Memory.read s.mem.cm (c * 2 ^ 24 + a) n
  | .core c => Memory.read s.mem.core (c * 2 ^ 23 + a) n

/-- Write bytes at an address of a memory. -/
def State.spaceWrite (s : State) (sp : Space) (a : Nat) (bs : Bytes) : State :=
  match sp with
  | .part p => s.partWrite p a bs
  | .phys => s.devWrite a bs
  | .cm c => { s with mem := { s.mem with cm := Memory.write s.mem.cm (c * 2 ^ 24 + a) bs } }
  | .core c => { s with mem := { s.mem with core := Memory.write s.mem.core (c * 2 ^ 23 + a) bs } }

/-- The range lies in its memory and, in a partition, within the firewall (03 R136). -/
def State.spaceHas (s : State) (sp : Space) (a n : Nat) (write : Bool) : Bool :=
  match sp with
  | .part p => s.admits p a n write
  | .phys => s.inHbm a n
  | .cm _ => a + n ≤ 2 ^ 24
  | .core _ => a < 2 ^ 23 && a % 2 ^ 20 + n ≤ 2 ^ 20

/-- An uncorrectable error lies in the range. -/
def State.spacePoisoned (s : State) (sp : Space) (a n : Nat) : Bool :=
  match sp with
  | .part p => s.partPoisoned p a n
  | .phys => s.poisoned a n
  | _ => false

/-! ## Tensors -/

/-- A position in a tensor, DIM0 first. -/
structure Ix where
  i0 : Nat
  i1 : Nat
  i2 : Nat
  i3 : Nat
  deriving DecidableEq, Repr

/-- A tensor: its memory, its descriptor's fields, and where its scales lie. -/
structure Tens where
  sp : Space
  base : Nat
  fmt : Nat
  rank : Nat
  qmode : Nat
  d0 : Nat
  d1 : Nat
  d2 : Nat
  d3 : Nat
  s1 : Nat
  s2 : Nat
  s3 : Nat
  zp : Int
  scale : Option (Space × Nat)
  deriving DecidableEq, Repr

/-- A field of a tensor-table entry of 80 bytes. -/
def tf (b : Bytes) (o n : Nat) : Nat := fieldLE b o n

/-- The descriptor is valid by itself (R132, R133, R175, R176, R1025; R174 for the presence of a scale). grain: it is a
multiplier and shift table, whose QMODE is a grain and which names no scale (R199). -/
def tensOk (b : Bytes) (grain : Bool) : Bool :=
  let fmt := tf b 9 1
  let rank := tf b 10 1
  let q := tf b 11 1
  tf b 5 3 = 0 && tf b 8 1 < 3 && fmt < 15 && 1 ≤ rank && rank ≤ 4 && q < 4 && tf b 48 16 = 0 &&
  (List.range 4).all (fun k => if k < rank then 1 ≤ tf b (12 + 4 * k) 4
    else tf b (12 + 4 * k) 4 = 1 && (k = 0 || tf b (24 + 4 * k) 4 = 0)) &&
  (fmtBits fmt ≠ 4 || tf b 12 4 % 2 = 0) &&
  (if grain then tf b 40 2 = 0xFFFF else (q = 0) == (tf b 40 2 = 0xFFFF)) &&
  (tf b 42 2 = 0 || (q = 1 && (fmt = 1 || fmt = 4 || fmt = 10)))

/-- Scale groups of a tensor (04, Values). -/
def groupsOf (b : Bytes) : Nat := if tf b 11 1 = 1 then 1 else if tf b 11 1 = 2 then tf b 16 4 else tf b 12 4

/-- The scale tensor a descriptor names is fit for it (R174). -/
def scaleOk (b sc : Bytes) : Bool := tensOk sc false && tf sc 9 1 = 14 && tf sc 10 1 = 1 && tf sc 12 4 = groupsOf b

/-- The memory and address of a table entry's tensor: KIND 0 EXTERNAL, 1 CONST at cb, 2 SCRATCH at sb (05 R212). -/
def placeOf (part cluster cb sb : Nat) (b : Bytes) : Space × Nat :=
  let base := tf b 0 5
  if tf b 8 1 = 1 then (.cm cluster, base)
  else if tf b 8 1 = 2 then (.core cluster, base)
  else if tf b 64 1 = 1 then (.phys, cb + base)
  else if tf b 64 1 = 2 then (.phys, sb + base)
  else (.part part, base)

/-- The tensor of an entry, its scale tensor looked up in the same table. -/
def tensOf (tab : List Bytes) (part cluster cb sb : Nat) (b : Bytes) : Tens :=
  let pl := placeOf part cluster cb sb
  let w := pl b
  ⟨w.1, w.2, tf b 9 1, tf b 10 1, tf b 11 1, tf b 12 4, tf b 16 4, tf b 20 4, tf b 24 4, tf b 28 4, tf b 32 4, tf b 36 4,
    toS 16 (tf b 42 2), if tf b 11 1 = 0 then none else (tab[tf b 40 2]?).map pl⟩

/-- Bytes of a row along DIM0. -/
def Tens.rowBytes (t : Tens) : Nat := if fmtBits t.fmt = 4 then ceilDiv t.d0 2 else t.d0 * fmtBytes t.fmt

/-- Address of a row. -/
def Tens.rowAt (t : Tens) (i1 i2 i3 : Nat) : Nat := t.base + i1 * t.s1 + i2 * t.s2 + i3 * t.s3

/-- Every position, in order, DIM0 innermost. -/
def ixsOf (d0 d1 d2 d3 : Nat) : List Ix :=
  ((List.range d3).map (fun c => ((List.range d2).map (fun b => ((List.range d1).map (fun a =>
    (List.range d0).map (fun i => (⟨i, a, b, c⟩ : Ix)))).flatten)).flatten)).flatten
def Tens.ixs (t : Tens) : List Ix := ixsOf t.d0 t.d1 t.d2 t.d3

/-- The rows: addresses of their first bytes. -/
def Tens.rows (t : Tens) : List Nat := (ixsOf 1 t.d1 t.d2 t.d3).map (fun x => t.rowAt x.i1 x.i2 x.i3)

/-- Elements. -/
def Tens.count (t : Tens) : Nat := t.d0 * t.d1 * t.d2 * t.d3

/-- Extent of dimension k. -/
def Tens.dim (t : Tens) (k : Nat) : Nat := if k = 0 then t.d0 else if k = 1 then t.d1 else if k = 2 then t.d2 else t.d3

/-- Index along dimension k. -/
def Ix.at_ (x : Ix) (k : Nat) : Nat := if k = 0 then x.i0 else if k = 1 then x.i1 else if k = 2 then x.i2 else x.i3

/-- The position with the index along dimension k replaced. -/
def Ix.put (x : Ix) (k v : Nat) : Ix :=
  if k = 0 then { x with i0 := v } else if k = 1 then { x with i1 := v } else if k = 2 then { x with i2 := v } else { x with i3 := v }

/-- Two tensors have the same extents. -/
def sameDims (a b : Tens) : Bool := a.d0 = b.d0 && a.d1 = b.d1 && a.d2 = b.d2 && a.d3 = b.d3

/-- Two tensors share a byte. -/
def overlaps (a b : Tens) : Bool :=
  a.sp = b.sp && a.rows.any (fun x => b.rows.any (fun y => x < y + b.rowBytes && y < x + a.rowBytes))

/-- The layouts coincide exactly (R138). -/
def coincides (a b : Tens) : Bool :=
  a.sp = b.sp && a.base = b.base && fmtBits a.fmt = fmtBits b.fmt && sameDims a b && a.s1 = b.s1 && a.s2 = b.s2 && a.s3 = b.s3

/-! ## Elements -/

/-- The stored code at a position (R132). -/
def State.code (s : State) (t : Tens) (x : Ix) : Nat :=
  let a := t.rowAt x.i1 x.i2 x.i3
  if fmtBits t.fmt = 4 then
    let v := leNat (s.spaceRead t.sp (a + x.i0 / 2) 1)
    if x.i0 % 2 = 0 then v % 16 else v / 16
  else leNat (s.spaceRead t.sp (a + x.i0 * fmtBytes t.fmt) (fmtBytes t.fmt)) % 2 ^ fmtBits t.fmt

/-- Store a code at a position: a 4-bit one in its half of the byte, a 6-bit one with bits [7:6] zero (R132). -/
def State.putCode (s : State) (t : Tens) (x : Ix) (c : Nat) : State :=
  let a := t.rowAt x.i1 x.i2 x.i3
  if fmtBits t.fmt = 4 then
    let v := leNat (s.spaceRead t.sp (a + x.i0 / 2) 1)
    s.spaceWrite t.sp (a + x.i0 / 2) (leBytes 1 (if x.i0 % 2 = 0 then v / 16 * 16 + c % 16 else c % 16 * 16 + v % 16))
  else s.spaceWrite t.sp (a + x.i0 * fmtBytes t.fmt) (leBytes (fmtBytes t.fmt) (c % 2 ^ fmtBits t.fmt))

/-- The scale group of a position. -/
def Tens.group (t : Tens) (x : Ix) : Nat := if t.qmode = 2 then x.i1 else if t.qmode = 3 then x.i0 else 0

/-- F32 code of a group's scale; 1 under QMODE 0. -/
def State.scaleCode (s : State) (t : Tens) (g : Nat) : Nat :=
  match t.scale with
  | some (sp, a) => if t.qmode = 0 then 0x3F800000 else leNat (s.spaceRead sp (a + 4 * g) 4)
  | none => 0x3F800000

/-- The stored element less its zero point, or the float element, exactly. -/
def Tens.unscaled (t : Tens) (c : Nat) : Num :=
  if fmtInt t.fmt then Num.ofInt (decodeI t.fmt c - t.zp) else decodeF t.fmt c

/-- The exact value of an element (R170, R175, R176, R1024). -/
def State.val (s : State) (t : Tens) (x : Ix) : Num :=
  let u := t.unscaled (s.code t x)
  if t.qmode = 0 then u else u.scaleBy (decodeF 14 (s.scaleCode t (t.group x)))

/-- An element as an F32 step reads it (R178). -/
def State.fval (s : State) (t : Tens) (x : Ix) : Num := r32 (s.val t x)

/-- The integer an element stores. -/
def State.ival (s : State) (t : Tens) (x : Ix) : Int := decodeI t.fmt (s.code t x)

/-- The code that a value becomes in a tensor's group, and whether it is counted as saturated (R179 to R187). -/
def State.conv (s : State) (t : Tens) (x : Ix) (v : Num) : Nat × Bool :=
  let sc := s.scaleCode t (t.group x)
  if t.qmode ≠ 0 && !usable sc then (if fmtInt t.fmt then (encodeI t.fmt t.zp).1 else 0, true)
  else
    let u := if t.qmode = 0 then v else Num.divWith .nan v (decodeF 14 sc)
    if fmtInt t.fmt then encodeQ t.fmt t.zp u else encodeF t.fmt u

/-! ## The work an operation runs in -/

/-- An operation about to run: where it runs, its descriptor, the tensor table it names. -/
structure Work where
  ref : WRef
  desc : Bytes
  part : Nat
  /-- where it runs, and the cluster whose memories its operands lie in (17 R846) -/
  cluster : Nat
  home : Nat
  step : Nat
  slot : Nat
  queue : Nat
  epoch : Nat
  tab : List Bytes
  cb : Nat
  sb : Nat
  deriving DecidableEq, Repr

/-- OUT, IN0, IN1, IN2, AUX: the table index in the k-th operand field. -/
def opSlot (desc : Bytes) (k : Nat) : Nat := fieldLE desc (24 + 2 * k) 2

/-- The k-th operand's table entry. -/
def Work.entry (w : Work) (k : Nat) : Option Bytes := if opSlot w.desc k = 0xFFFF then none else w.tab[opSlot w.desc k]?

/-- The k-th operand. -/
def Work.tens (w : Work) (k : Nat) : Option Tens := (w.entry k).map (tensOf w.tab w.part w.home w.cb w.sb)

/-- A tensor that stands in for an absent operand: nothing reads it. -/
def noTens : Tens := ⟨.phys, 0, 4, 1, 0, 0, 0, 0, 0, 0, 0, 0, 0, none⟩
def Work.out (w : Work) : Tens := (w.tens 0).getD noTens
def Work.in0 (w : Work) : Tens := (w.tens 1).getD noTens
def Work.in1 (w : Work) : Tens := (w.tens 2).getD noTens
def Work.in2 (w : Work) : Tens := (w.tens 3).getD noTens
def Work.aux (w : Work) : Tens := (w.tens 4).getD noTens

/-- A field of the descriptor. -/
def Work.f (w : Work) (o n : Nat) : Nat := fieldLE w.desc o n

/-- An F32 parameter. -/
def Work.fp (w : Work) (o : Nat) : Num := decodeF 14 (w.f o 4)

/-! ## What the encodings of an operation allow (R141 to R144) -/

/-- Number of operands of an ELEMWISE function: 0 for an unassigned code (R152). -/
def funcArity (f : Nat) : Nat :=
  if 0x01 ≤ f ∧ f ≤ 0x0F then 1 else if 0x20 ≤ f ∧ f ≤ 0x27 then 2 else if f = 0x30 ∨ f = 0x31 then 3 else 0

/-- Which of P0, P1 a function uses. -/
def funcP0 (f : Nat) : Bool := f = 5 || f = 6
def funcP1 (f : Nat) : Bool := f = 5

/-- The operation code is assigned (R144). -/
def opAssigned (c : Nat) : Bool := 1 ≤ c && c ≤ 0x1F

/-- Graph-only operations (R131). -/
def opGraphOnly (c : Nat) : Bool := 0x15 ≤ c && c ≤ 0x1B

/-- Operand fields required and allowed, as masks over OUT, IN0, IN1, IN2, AUX. -/
def opSlots (desc : Bytes) : Nat × Nat :=
  let c := fieldLE desc 0 1
  let f := fieldLE desc 40 1
  if c = 0x01 || c = 0x02 then (7, if (fieldLE desc 41 1).testBit 2 then 7 else 15)
  else if c = 0x03 then
    (if funcArity f = 1 then (3, 3) else if funcArity f = 2 then (7, 7) else (15, 15))
  else if c = 0x05 then (3, if f % 2 = 1 then 7 else 15)
  else if c = 0x07 || c = 0x10 then (19, 19)
  else if c = 0x08 || c = 0x09 || c = 0x1F || c = 0x0B || c = 0x12 || c = 0x13 then (7, 7)
  else if c = 0x0D || c = 0x18 then (1, 1)
  else if c = 0x15 then (17, 17)
  else if c = 0x16 || c = 0x17 then (18, 18)
  else if c = 0x19 || c = 0x1A || c = 0x1D then (2, 2)
  else if c = 0x1B || c = 0x1C then (0, 0)
  else (3, 3)

/-- Parameter fields of bytes 40 to 63: offset, bytes, bits allowed. -/
def opFields (desc : Bytes) : List (Nat × Nat × Nat) :=
  let c := fieldLE desc 0 1
  let f := fieldLE desc 40 1
  let all4 := 2 ^ 32 - 1
  let act := fieldLE desc 42 1
  let raw := (fieldLE desc 41 1).testBit 2
  let dense := [(42, 1, if raw then 0 else 0x3F), (44, 4, if !raw && funcP0 act then all4 else 0),
    (48, 4, if !raw && funcP1 act then all4 else 0)]
  if c = 0x01 then [(40, 1, 0xFF), (41, 1, 7)] ++ dense
  else if c = 0x02 then [(40, 1, 0xFF), (41, 1, 6)] ++ dense ++ [(52, 1, 0xFF), (53, 1, 0xFF), (54, 1, 0xFF), (55, 1, 0xFF)]
  else if c = 0x03 then [(40, 1, 0xFF), (44, 4, if funcP0 f then all4 else 0), (48, 4, if funcP1 f then all4 else 0)]
  else if c = 0x04 || c = 0x0D then [(44, 4, all4)]
  else if c = 0x05 then [(40, 1, 1), (44, 4, all4)]
  else if c = 0x06 then [(40, 1, 7), (41, 1, 3)]
  else if c = 0x07 then [(40, 1, 0xFF), (41, 1, 1)]
  else if c = 0x1E then [(40, 1, 3), (41, 1, 0xFF), (42, 1, 0xFF)]
  else if c = 0x09 || c = 0x1F || c = 0x10 then [(40, 1, 1)]
  else if c = 0x0A || c = 0x18 || c = 0x19 || c = 0x1B then [(40, 1, 0xFF)]
  else if c = 0x0B || c = 0x0F then [(40, 1, 3)]
  else if c = 0x12 || c = 0x1D then [(40, 2, 0xFFFF)]
  else if c = 0x13 then [(40, 1, 7), (42, 2, 0xFFFF), (44, 1, 0xFF), (45, 1, 0x1F)]
  else if c = 0x14 then [(40, 2, 0xFF), (42, 1, 0x7F), (43, 1, 3), (44, 2, 0x7FF), (46, 2, 0x1FFF)]
  else if c = 0x16 then [(40, 16, 2 ^ 128 - 1)]
  else if c = 0x1A then [(40, 1, 1), (42, 2, 0xFFFF)]
  else if c = 0x1C then [(40, 2, 0xFFFF), (42, 1, 1)]
  else []

/-- An enumerated parameter with an unassigned code, by offset. -/
def opEnumBad (desc : Bytes) : Option Nat :=
  let c := fieldLE desc 0 1
  let f := fieldLE desc 40 1
  if (c = 0x01 || c = 0x02) && funcArity (fieldLE desc 42 1) ≠ 1 && fieldLE desc 42 1 ≠ 0 then some 42
  else if c = 0x03 && funcArity f = 0 then some 40
  else if (c = 0x1E || c = 0x0F) && f % 4 = 3 then some 40
  else if c = 0x13 && 2 ≤ f / 2 % 4 then some 40
  else none

/-- The first of a list of offsets, the least. -/
def leastOf (l : List Nat) : Option Nat := l.foldl (fun b x => match b with | none => some x | some y => some (min x y)) none

/-- The first field of bytes 16 to 63 of an operation descriptor with a reserved encoding (R143); single: a single
operation, whose TT_ADDR and TT_COUNT are fields of its own. -/
def opReserved (desc : Bytes) (single : Bool) : Option Nat :=
  let fs := opFields desc
  let covered := fun (o : Nat) => fs.any (fun (x : Nat × Nat × Nat) => x.1 ≤ o && o < x.1 + x.2.1)
  leastOf (
    (if single then (if bits (fieldLE desc 16 8) 1 5 ≠ 0 then [16] else []) else (if fieldLE desc 16 8 ≠ 0 then [16] else [])) ++
    ((List.range 5).filter (fun k => !(opSlots desc).2.testBit k && opSlot desc k ≠ 0xFFFF)).map (fun k => 24 + 2 * k) ++
    (if single && fieldLE desc 34 2 ≠ 0 then [34] else []) ++
    (if (if single then 128 ≤ fieldLE desc 36 1 else fieldLE desc 36 1 ≠ 0) then [36] else []) ++
    ((List.range 3).map (· + 37)).filter (fun o => fieldLE desc o 1 ≠ 0) ++
    ((List.range 24).map (· + 40)).filter (fun o => !covered o && fieldLE desc o 1 ≠ 0) ++
    (fs.filter (fun (x : Nat × Nat × Nat) => (fieldLE desc x.1 x.2.1) &&& x.2.2 ≠ fieldLE desc x.1 x.2.1)).map (·.1) ++
    (match opEnumBad desc with | some o => [o] | none => []))

/-- The first parameter outside its stated range, or operand missing or not in the table of n entries (R141 to R144). -/
def opParamBad (desc : Bytes) (n : Nat) : Option Nat :=
  let c := fieldLE desc 0 1
  let b := fun (o : Nat) => fieldLE desc o 1
  let out := fun (o v lo hi : Nat) => if v < lo || hi < v then [o] else []
  leastOf (
    ((List.range 5).filter (fun k => (opSlots desc).1.testBit k && opSlot desc k = 0xFFFF)).map (fun k => 24 + 2 * k) ++
    ((List.range 5).filter (fun k => opSlot desc k ≠ 0xFFFF && n ≤ opSlot desc k)).map (fun k => 24 + 2 * k) ++
    (if c = 0x01 || c = 0x02 then
      (let p := b 40 % 16 * (b 40 / 16)
       if p = 1 || p = 2 || p = 4 || p = 8 then [] else [40]) else []) ++
    (if c = 0x02 then out 52 (b 52) 1 16 ++ out 53 (b 53) 1 8 ++ out 54 (b 54) 1 8 ++ out 55 (b 55) 0 15 else []) ++
    (if c = 0x05 && !Num.lt Num.zero (decodeF 14 (fieldLE desc 44 4)) then [44] else []) ++
    (if c = 0x07 then out 40 (b 40) 1 64 else []) ++
    (if c = 0x1E then out 41 (b 41) 1 64 ++ out 42 (b 42) 1 64 else []) ++
    (if c = 0x0A && !(List.range 4).all (fun d => (List.range 4).any (fun k => b 40 / 4 ^ k % 4 = d)) then [40] else []) ++
    (if c = 0x12 then out 40 (fieldLE desc 40 2) 1 1024 else []) ++
    (if c = 0x13 then out 44 (b 44) 1 64 else []) ++
    (if c = 0x14 then out 42 (b 42) 1 64 ++ out 46 (fieldLE desc 46 2) 0 4096 else []) ++
    (if c = 0x16 && (fieldLE desc 40 16 % 2 ^ 52 ≠ 0 || (fieldLE desc 40 16).testBit 102) then [40] else []) ++
    (if c = 0x1A && fieldLE desc 42 2 = 0 then [42] else []))

/-! ## What the tensors of an operation must be -/

/-- The first requirement of a list that does not hold: requirement, offset of the field at fault. -/
def firstBad (l : List (Bool × Nat)) : Option Nat := (l.find? (fun x => !x.1)).map (·.2)

/-- Tensors valid by themselves, with fit scale tensors (R1025, R174): the operand field at fault. -/
def Work.tensBad (w : Work) : Option Nat :=
  firstBad ((List.range 5).map (fun k =>
    ((match w.entry k with
      | none => true
      | some b =>
        let grain := w.f 0 1 = 0x10 && k = 4
        tensOk b grain && (grain || tf b 11 1 = 0 || (match w.tab[tf b 40 2]? with | some sc => scaleOk b sc | none => false))), 24 + 2 * k)))

/-- A list of requirements. -/
def reqs (l : List (Bool × Nat)) : List (Bool × Nat) := l

/-- Shape and format requirements of the operation (R137, R138, R144 to R163, R189, R192, R199, R1026, R1029): the
field at fault. Field offsets: OUT 24, IN0 26, IN1 28, IN2 30, AUX 32. -/
def Work.shapeBad (w : Work) : Option Nat :=
  let c := w.f 0 1
  let o := w.out
  let a := w.in0
  let b := w.in1
  let d := w.in2
  let x := w.aux
  let has := fun (k : Nat) => (w.tens k).isSome
  let int := fun (t : Tens) => fmtInt t.fmt && t.fmt ≠ 13
  let flt16 := fun (t : Tens) => !fmtInt t.fmt && t.fmt ≠ 14
  let idx := fun (t : Tens) => (t.fmt = 13 || t.fmt = 10) && t.qmode = 0 && t.zp = 0
  let al64 := fun (t : Tens) => t.base % 64 = 0 && t.s1 % 64 = 0 && t.s2 % 64 = 0 && t.s3 % 64 = 0
  let item := fun (t : Tens) => t.fmt = 4 && t.rank = 1 && t.d0 = 256 && t.qmode = 0
  let dense := fun (bias : Nat) => reqs [
    ((int a && int b) || (flt16 a && flt16 b) || (a.fmt = 14 && b.fmt = 14), 28),
    (al64 o, 24), (al64 a, 26), (al64 b, 28), (!has 3 || al64 d, 30),
    (!has 3 || (d.rank = 1 && d.d0 = bias && (d.fmt = 11 || d.fmt = 12 || d.fmt = 14 || (d.fmt = 13 && int a))), 30),
    (!(w.f 41 1).testBit 2 || o.fmt = (if int a then 13 else 14), 24)]
  let inPlace := c = 0x03 || c = 0x0C || c = 0x10
  let noOverlap := (List.range 4).map (fun k =>
    (!has 0 || !has (k + 1) || !overlaps o ((w.tens (k + 1)).getD noTens) || c = 0x07 && k = 3 || c = 0x10 && k = 3 ||
      (inPlace && k = 0 && coincides o a), 24))
  firstBad (
    (if c = 0x01 then
      let bt := (w.f 41 1).testBit 0
      dense o.d0 ++ reqs [
        (a.rank = 2 || a.rank = 3, 26), (b.rank = 2 || (b.rank = 3 && a.rank = 3 && b.d2 = a.d2), 28), (o.rank = a.rank, 24),
        (a.d0 ≤ 65535 && a.d1 ≤ 65535, 26), (o.d0 ≤ 65535, 28), (o.d1 = a.d1 && o.d2 = a.d2, 24),
        ((if bt then b.d0 else b.d1) = a.d0, 28), ((if bt then b.d1 else b.d0) = o.d0, 28),
        (a.qmode ≠ 3, 26), (b.qmode ≠ (if bt then 3 else 2), 28)]
    else if c = 0x02 then
      let kw := w.f 52 1
      let st := w.f 53 1
      let di := w.f 54 1
      let pl := w.f 55 1
      let n : Int := ((a.d1 + pl : Nat) : Int) - (di * (kw - 1) + 1 : Nat)
      dense o.d0 ++ reqs [
        (a.rank = 2, 26), (b.rank = 3, 28), (o.rank = 2, 24), (b.d2 = kw, 28), (b.d1 = a.d0, 28), (b.d0 = o.d0, 28),
        (a.d0 ≤ 65535 && a.d1 ≤ 65535, 26), (o.d0 ≤ 65535, 28),
        (0 ≤ n, 52), ((o.d1 : Int) = n / (st : Int) + 1, 24), (a.qmode ≤ 1, 26), (b.qmode ≤ 1, 28)]
    else if c = 0x03 then
      let fits := fun (t : Tens) => (List.range 4).all (fun k => t.dim k = o.dim k || t.dim k = 1)
      reqs [(fits a, 26), (!has 2 || fits b, 28), (!has 3 || fits d, 30)]
    else if c = 0x04 then
      reqs [(a.fmt = 11 || a.fmt = 12 || a.fmt = 14 || (fmtInt a.fmt && a.qmode ≠ 0), 26), (sameDims o a, 24)]
    else if c = 0x05 then
      reqs [(sameDims o a, 24), (2 ≤ a.d0 && a.d0 ≤ 65535, 26), (!has 2 || (b.rank = 1 && b.d0 = a.d0), 28),
       (!has 3 || (d.rank = 1 && d.d0 = a.d0), 30)]
    else if c = 0x06 then
      let ax := w.f 41 1
      reqs [((List.range 4).all (fun k => o.dim k = if k = ax then 1 else a.dim k), 24),
       (!(w.f 40 1 = 4 || w.f 40 1 = 5) || o.fmt = 13 || o.fmt = 10, 24)]
    else if c = 0x07 then
      reqs [(a.d0 ≤ 65535, 26), (w.f 40 1 ≤ a.d0, 40), (o.d0 = w.f 40 1 && o.d1 = a.d1 && o.d2 = a.d2 && o.d3 = a.d3, 24),
       (sameDims x o, 32), (idx x, 32), (!overlaps x a && !overlaps x o, 32)]
    else if c = 0x1E then
      let n : Int := (a.d1 : Int) - (w.f 41 1 : Nat)
      reqs [(a.rank = 2, 26), (o.rank = 2, 24), (o.d0 = a.d0, 24), (0 ≤ n, 41), ((o.d1 : Int) = n / (w.f 42 1 : Nat) + 1, 24)]
    else if c = 0x08 then
      reqs [(a.rank = 2 && a.d1 ≤ 2 ^ 31, 26), (b.rank = 1 && idx b, 28), (o.rank = 2 && o.d0 = a.d0 && o.d1 = b.d0, 24), (o.fmt = a.fmt, 24)]
    else if c = 0x09 then
      reqs [(o.rank = 2 && o.d1 ≤ 2 ^ 31, 24), (b.rank = 1 && idx b, 28), (a.rank = 2 && a.d0 = o.d0 && a.d1 = b.d0, 26), (o.fmt = a.fmt, 26)]
    else if c = 0x1F then
      reqs [(a.rank = 2 && a.d1 ≤ 2 ^ 31, 26), (b.rank = 2 && idx b && b.d0 ≤ 256, 28), (o.rank = 2 && o.d0 = a.d0 && o.d1 = b.d1, 24)]
    else if c = 0x0A then
      reqs [(o.fmt = a.fmt, 24), ((List.range 4).all (fun k => o.dim k = a.dim (w.f 40 1 / 4 ^ k % 4)), 24)]
    else if c = 0x0B then
      let ax := w.f 40 1
      reqs [(o.fmt = a.fmt, 24), (b.fmt = a.fmt, 28), ((List.range 4).all (fun k => k = ax || a.dim k = b.dim k), 28),
       ((List.range 4).all (fun k => o.dim k = if k = ax then a.dim k + b.dim k else a.dim k), 24)]
    else if c = 0x0C then reqs [(sameDims o a, 24)]
    else if c = 0x0E then reqs [(o.fmt = a.fmt, 24), (sameDims o a, 24)]
    else if c = 0x0F then
      let g := w.f 40 1
      reqs [(o.fmt = 14, 24), (o.rank = 1 && o.d0 = (if g = 0 then 1 else if g = 1 then a.d1 else a.d0), 24)]
    else if c = 0x10 then
      let dyn := (w.f 40 1).testBit 0
      let gq := if x.qmode = 1 then 1 else if x.qmode = 2 then a.d1 else if x.qmode = 3 then a.d0 else 0
      reqs [(fmtInt o.fmt, 24), (a.fmt = 13 || a.fmt = 9, 26), (sameDims o a, 24), (x.fmt = 13 && x.rank = 2 && x.d0 = 2, 32),
       (x.d1 = gq && 1 ≤ x.qmode, 32)] ++
      (if dyn then reqs [(a.qmode = 1 || a.qmode = 2, 26), ((o.fmt = 0 || o.fmt = 3 || o.fmt = 9) && o.qmode = 2, 24), (x.qmode = 2, 32)] else [])
    else if c = 0x11 then
      reqs [(o.fmt = 11 || o.fmt = 12 || o.fmt = 14, 24), (fmtInt a.fmt && a.qmode ≠ 0, 26), (sameDims o a, 24)]
    else if c = 0x18 then reqs [(item o, 24)]
    else if c = 0x19 then reqs [(item a, 26)]
    else if c = 0x15 then
      reqs [(o.fmt = 4 && o.rank = 1 && o.d0 = 128, 24), (x.fmt = 13 && x.rank = 1 && x.d0 = 1, 32)]
    else if c = 0x16 then
      reqs [(a.fmt = 4 && a.rank = 1 && a.d0 = 128, 26), (x.fmt = 13 && x.rank = 1 && x.d0 = 1, 32)]
    else if c = 0x17 then
      reqs [(a.fmt = 4 && a.rank = 1 && a.d0 = 32, 26), (x.fmt = 13 && x.rank = 1 && x.d0 = 1, 32)]
    else if c = 0x1A then [((a.fmt = 13 || a.fmt = 14) && a.count = 1, 26)]
    else []) ++ noOverlap)

/-- Every byte of the operands lies in its memory and partition (R136), scale tensors too: the operand field at
fault. -/
def State.boundsBad (s : State) (w : Work) : Option Nat :=
  firstBad ((List.range 5).map (fun k =>
    ((match w.entry k with
      | none => true
      | some b =>
        let t := tensOf w.tab w.part w.home w.cb w.sb b
        let wr := k = 0 || (k = 4 && (w.f 0 1 = 0x07 || w.f 0 1 = 0x10))
        t.rows.all (fun r => s.spaceHas t.sp r t.rowBytes wr) &&
        (match t.scale with
          | none => true
          | some (sp, a) => s.spaceHas sp a (4 * groupsOf b) (k = 0 && w.f 0 1 = 0x10 && (w.f 40 1).testBit 0))), 24 + 2 * k)))

/-- The first row of an operand, or its scale tensor, that its partition's firewall refuses (09 R422). -/
def State.boundsHit (s : State) (w : Work) : Option FwHit :=
  (List.range 5).findSome? (fun k =>
    match w.entry k with
    | none => none
    | some b =>
      let t := tensOf w.tab w.part w.home w.cb w.sb b
      let wr := k = 0 || (k = 4 && (w.f 0 1 = 0x07 || w.f 0 1 = 0x10))
      let one := fun (sp : Space) (a n : Nat) (y : Bool) => match sp with
        | .part p => if s.spaceHas sp a n y then none else some (p, a, y)
        | _ => none
      (t.rows.findSome? (fun r => one t.sp r t.rowBytes wr)).or
        (t.scale.bind (fun x => one x.1 x.2 (4 * groupsOf b) (k = 0 && w.f 0 1 = 0x10 && (w.f 40 1).testBit 0))))

/-- Every HBM stack that the operands touch is READY (08 R382). -/
def State.stacksUp (s : State) (w : Work) : Bool :=
  (List.range 5).all (fun k => match w.tens k with
    | none => true
    | some t => t.rows.all (fun r => match t.sp with
      | .part p => s.partStacksReady p r t.rowBytes false
      | .phys => s.stacksReady r t.rowBytes
      | _ => true))

/-- An uncorrectable error lies in what the operation reads (R122, 19 R1020). -/
def State.readsPoison (s : State) (w : Work) : Bool :=
  (List.range 4).any (fun k => match w.tens (k + 1) with
    | none => false
    | some t => t.rows.any (fun r => s.spacePoisoned t.sp r t.rowBytes))

end Sys2Proof.Machine
end

