-- ==== Sys2Proof/Machine/Flags.lean ====
section
/-! DEFINITION. Machine/Flags.lean: what an operation gives, and every count and flag its retirement changes: CL, CORE
and QSU counters (03; 04 R187), the operation table (18 R892 to R894). -/

namespace Sys2Proof.Machine

/-- What an operation does: elements and bytes it writes, elements saturated, NaN results, indices out of range, the
work counted in the operation table, and the status that ends it, with none of that, where it fails. -/
structure OpOut where
  puts : List (Tens × Ix × Nat)
  raws : List (Space × Nat × Bytes)
  sat : Nat
  nan : Nat
  oob : Nat
  work : Nat
  fail : Option Nat
  deriving DecidableEq, Repr

/-- Nothing. -/
def OpOut.none_ : OpOut := ⟨[], [], 0, 0, 0, 0, none⟩

/-- An element of a result: its code, saturating additions and conversions, NaN. -/
structure Elem where
  code : Nat
  sat : Nat
  nan : Bool
  deriving DecidableEq, Repr

/-- A result with one element for each position of a tensor. -/
def outOf (t : Tens) (work : Nat) (f : Ix → Elem) : OpOut :=
  let es := t.ixs.map (fun x => (x, f x))
  ⟨es.map (fun (e : Ix × Elem) => (t, e.1, e.2.code)), [], sumN (es.map (fun (e : Ix × Elem) => e.2.sat)),
    (es.filter (fun (e : Ix × Elem) => e.2.nan)).length, 0, work, none⟩

/-- A result given row by row along DIM0. -/
def outRows (t : Tens) (work : Nat) (f : Ix → List Elem) : OpOut :=
  let es := ((ixsOf 1 t.d1 t.d2 t.d3).map (fun x => (List.range t.d0).zipWith (fun i e => (x.put 0 i, e)) (f x))).flatten
  ⟨es.map (fun (e : Ix × Elem) => (t, e.1, e.2.code)), [], sumN (es.map (fun (e : Ix × Elem) => e.2.sat)),
    (es.filter (fun (e : Ix × Elem) => e.2.nan)).length, 0, work, none⟩

/-- Bytes of a tensor's elements. -/
def Tens.bytes (t : Tens) : Nat := t.d1 * t.d2 * t.d3 * t.rowBytes

/-- The element that a value becomes in OUT by the conversion rules, a NaN result noted (R166, R187). -/
def State.elem (s : State) (t : Tens) (x : Ix) (v : Num) : Elem :=
  let c := s.conv t x v
  ⟨c.1, b2n c.2, v.isNan⟩

/-- Free codes where OUT is undefined. -/
def State.undefOut (s : State) (t : Tens) : OpOut :=
  { OpOut.none_ with
    puts := (List.range t.ixs.length).zipWith (fun n x => (t, x, Config.free (s.free + n) % 2 ^ fmtBits t.fmt)) t.ixs
    fail := some St.execFault }

/-- Write what an operation gives. -/
def State.putAll (s : State) (o : OpOut) : State :=
  (s.each o.puts (fun t (p : Tens × Ix × Nat) => t.putCode p.1 p.2.1 p.2.2)).each o.raws
    (fun t (r : Space × Nat × Bytes) => t.spaceWrite r.1 r.2.1 r.2.2)

/-! ## Opcode classes (18, Operations by class and format) -/

/-- CLASS of an opcode. -/
def opClass (c : Nat) : Nat :=
  if c = 0x01 || c = 0x02 then 0
  else if (0x03 ≤ c && c ≤ 0x07) || c = 0x1E then 1
  else if c = 0x08 || c = 0x09 || c = 0x1F || c = 0x0A || c = 0x0B || c = 0x0E || c = 0x0D then 2
  else if c = 0x0C || (0x0F ≤ c && c ≤ 0x11) then 3
  else if c = 0x12 || c = 0x13 then 4
  else if c = 0x14 then 5
  else if 0x15 ≤ c && c ≤ 0x17 then 6
  else 7

/-- Format of a step (R893). -/
def Work.format (w : Work) : Nat :=
  let c := w.f 0 1
  if (c = 0x01 || c = 0x02) && fmtBits w.in0.fmt < fmtBits w.in1.fmt then w.in1.fmt
  else match w.tens 1, w.tens 0 with
    | some t, _ => t.fmt
    | none, some t => t.fmt
    | none, none => 15

/-- Add a retired step to the operation table (R892), unless it stands still (R903). -/
def State.opCell (s : State) (w : Work) (work : Nat) : State :=
  if s.obsFrozen then s
  else
    let k := w.part % 16 * 128 + opClass (w.f 0 1) * 16 + w.format % 16
    let c := (aget s.obs.ops k).getD (0, 0)
    { s with obs := { s.obs with ops := aput s.obs.ops k ((c.1 + 1) % 2 ^ 64, (c.2 + work) % 2 ^ 64) } }

/-! ## Array counters (03, Tiling rules) -/

/-- Kt: 256 when both operands are 4-bit formats (03, Clusters and array cores). -/
def ktOf (a b : Nat) : Nat := if fmtBits a = 4 && fmtBits b = 4 then 256 else 128

/-- P: cycles of a row (R118). -/
def rowCycles (a b : Nat) : Nat :=
  if a = 14 || b = 14 || a = 13 || b = 13 then 16 else if fmtBits a = 16 || fmtBits b = 16 then 2 else 1

/-- Part r of n rows in k equal ranges. -/
def rangeLen (n k r : Nat) : Nat := min (ceilDiv n k) (n - r * ceilDiv n k)

/-- The READY core that runs tile range r on cluster c: its own, or in turn the lowest-numbered READY ones (R126). -/
def State.coreFor (s : State) (c r : Nat) : Option Nat :=
  let up := (List.range 8).filter (fun k => s.ready (P.core c k))
  if up.contains r then some r
  else
    let lost := ((List.range 8).filter (fun k => !up.contains k)).findIdx? (· = r)
    up[(lost.getD 0) % up.length]?

/-- Count a dense step: MACs, and streaming cycles and weight tiles of each core (R118, R126, Tiling rules). m rows, kts
tiles along K, n columns, batches run apart. -/
def State.countDense (s : State) (w : Work) (m n kts batches macs p : Nat) : State :=
  let ms := max 1 (w.f 40 1 % 16)
  let ns := max 1 (w.f 40 1 / 16)
  let s0 := s.countPN (P.cl w.cluster) R.clMac macs w.part
  s0.each (List.range (ms * ns)) (fun t r =>
    let mr := rangeLen m ms (r / ns)
    let tn := rangeLen (ceilDiv n 128) ns (r % ns)
    match t.coreFor w.cluster r with
    | none => t
    | some c =>
      if mr = 0 || tn = 0 then t
      else
        let tiles := tn * kts * batches
        let busy := tiles * p * mr
        ((t.countPN (P.cl w.cluster) R.clArrayBusy busy w.part).countPN (P.core w.cluster c) R.coreBusy busy w.part).countPN
          (P.core w.cluster c) R.coreTiles tiles w.part |>.progress (P.core w.cluster c))

/-- The step runs on the QSU. -/
def onQsu (c : Nat) : Bool := c = 0x0C || (0x0F ≤ c && c ≤ 0x11)

/-- Saturations, NaNs and indices of a result, and the elements a QSU step processes (R187, R166, R148). -/
def State.countOut (s : State) (w : Work) (o : OpOut) : State :=
  let cl := P.cl w.cluster
  let q := onQsu (w.f 0 1)
  let s1 := s.when (o.sat ≠ 0) (fun t => if q then t.countPN (P.qsu w.cluster) R.qsuSat o.sat w.part else t.countPN cl R.clSat o.sat w.part)
  let s2 := s1.when (o.nan ≠ 0) (fun t => t.countPN cl R.clNan o.nan w.part)
  let s3 := s2.when (o.oob ≠ 0) (fun t => t.countPN cl R.clOob o.oob w.part)
  s3.when q (fun t => (t.countPN (P.qsu w.cluster) R.qsuElems w.in0.count w.part).progress (P.qsu w.cluster))

end Sys2Proof.Machine
end

