-- ==== Sys2Proof/Machine/Image.lean ====
section
/-! DEFINITION. Machine/Image.lean: a graph image as it lies in device memory: header, sections, tables, patches
(05, Image header to Names). Every function takes the physical address a of the image's first byte. -/

namespace Sys2Proof.Machine

/-! ## Header and sections -/

/-- A field of the header. -/
def State.img (s : State) (a o n : Nat) : Nat := leNat (s.devRead (a + o) n)

def State.imgSize (s : State) (a : Nat) : Nat := s.img a 8 8
def State.imgSections (s : State) (a : Nat) : Nat := s.img a 16 2
def State.imgOps (s : State) (a : Nat) : Nat := s.img a 20 2
def State.imgTensors (s : State) (a : Nat) : Nat := s.img a 22 2
def State.imgPatches (s : State) (a : Nat) : Nat := s.img a 24 2
def State.imgClusters (s : State) (a : Nat) : Nat := s.img a 26 1
def State.imgEntries (s : State) (a : Nat) : Nat := s.img a 27 1
def State.imgCm (s : State) (a : Nat) : Nat := s.img a 28 4
def State.imgConst (s : State) (a : Nat) : Nat := s.img a 32 8
def State.imgScratch (s : State) (a : Nat) : Nat := s.img a 40 8
def State.imgCopies (s : State) (a : Nat) : Nat := s.img a 48 1

/-- First and last step of entry point e. -/
def State.imgEntry (s : State) (a e : Nat) : Nat × Nat := (s.img a (64 + 4 * e) 2, s.img a (66 + 4 * e) 2)

/-- The record of section k: TYPE, FLAGS, OFFSET, SIZE. -/
def State.imgRecord (s : State) (a k : Nat) : Nat × Nat × Nat × Nat :=
  let o := 128 + 32 * k
  (s.img a o 2, s.img a (o + 2) 2, s.img a (o + 8) 8, s.img a (o + 16) 8)

/-- Offset and size of the section of a type; 0 and 0 where there is none. -/
def State.imgSection (s : State) (a typ : Nat) : Nat × Nat :=
  match ((List.range (s.imgSections a)).map (s.imgRecord a)).find? (fun (x : Nat × Nat × Nat × Nat) => x.1 = typ) with
  | some x => (x.2.2.1, x.2.2.2)
  | none => (0, 0)

/-- Op-table entry n (80 bytes). -/
def State.imgOp (s : State) (a n : Nat) : Bytes := s.devRead (a + (s.imgSection a 1).1 + 80 * n) 80

/-- The dependencies of an op-table entry (R210). -/
def State.imgDeps (s : State) (a : Nat) (op : Bytes) : List Nat :=
  let o := (s.imgSection a 2).1
  (List.range (fieldLE op 65 1 % 128)).map (fun k => s.img a (o + 2 * (fieldLE op 68 4 + k)) 2)

/-- Tensor-table entry n (80 bytes). -/
def State.imgTensor (s : State) (a n : Nat) : Bytes := s.devRead (a + (s.imgSection a 3).1 + 80 * n) 80

/-- Every tensor-table entry. -/
def State.imgTable (s : State) (a : Nat) : List Bytes := (List.range (s.imgTensors a)).map (s.imgTensor a)

/-- Patch record i (16 bytes). -/
def State.imgPatch (s : State) (a i : Nat) : Bytes := s.devRead (a + (s.imgSection a 4).1 + 16 * i) 16

/-- The bytes of NAMES from an offset, up to a zero byte or 256. -/
def State.imgName (s : State) (a o : Nat) : Bytes :=
  (s.devRead (a + (s.imgSection a 5).1 + o) (min 256 ((s.imgSection a 5).2 - o))).takeWhile (fun b => b ≠ 0)

/-- Address of the CONST section. -/
def State.imgConstAt (s : State) (a : Nat) : Nat := a + (s.imgSection a 6).1

/-- Address of scratch copy k. -/
def State.imgScratchAt (s : State) (a k : Nat) : Nat := a + s.imgSize a + k * s.imgScratch a

/-! ## Patches (R216, R217) -/

/-- An 80-byte entry with a patch field replaced. -/
def patchEntry (e pr : Bytes) (v : Nat) : Bytes :=
  leBytes 80 (putBits (leNat (padTo 80 e)) (8 * (fieldLE pr 4 1 % 64) + fieldLE pr 5 1 % 8) (fieldLE pr 6 1 % 128) v)

/-- The op and tensor entries of a run whose first step is first, with patches (index, value) applied. -/
def State.patched (s : State) (a first : Nat) (pv : List (Nat × Nat)) (ops tens : List Bytes) : List Bytes × List Bytes :=
  pv.foldl (fun (acc : List Bytes × List Bytes) (x : Nat × Nat) =>
    let pr := s.imgPatch a x.1
    let i := fieldLE pr 2 2
    if fieldLE pr 0 1 % 2 = 0 then (if i < first then acc else (acc.1.modify (i - first) (fun e => patchEntry e pr x.2), acc.2))
    else (acc.1, acc.2.modify i (fun e => patchEntry e pr x.2))) (ops, tens)

/-! ## Checks of R230, in the order of its reason table: reason and index of the first failure -/

/-- Indices below n where a check fails, the first of them. -/
def firstFail (n : Nat) (ok : Nat → Bool) : Option Nat := (List.range n).find? (fun k => !ok k)

/-- Header fields in range (reasons 0x01 to 0x03). -/
def State.checkHeader (s : State) (a len : Nat) : Option (Nat × Nat) :=
  if s.img a 0 4 ≠ 0x32494751 then some (1, 0)
  else if s.img a 4 2 ≠ 1 || s.img a 18 2 ≠ 128 then some (2, 0)
  else if s.imgSize a ≠ len || s.imgSize a % 64 ≠ 0 || 2 ^ 34 < s.imgSize a || s.imgSections a < 2 || 32 < s.imgSections a ||
    s.imgOps a = 0 || s.imgTensors a = 0 || 8192 < s.imgPatches a || s.imgClusters a = 0 || 16 < s.imgClusters a ||
    s.imgEntries a = 0 || 16 < s.imgEntries a || s.imgScratch a % 64 ≠ 0 || s.imgCopies a = 0 || 64 < s.imgCopies a ||
    s.img a 49 7 ≠ 0 || 2 ^ 25 ≤ s.imgCm a || s.imgSize a < 128 + 32 * s.imgSections a then some (3, 0)
  else none

/-- A section type that 05 defines. -/
def knownSection (t : Nat) : Bool := (1 ≤ t && t ≤ 6) || t = 0xFF

/-- The size a defined section must have; none where its count fixes none. -/
def State.sectionSize (s : State) (a t : Nat) : Option Nat :=
  if t = 1 then some (80 * s.imgOps a) else if t = 3 then some (80 * s.imgTensors a) else if t = 4 then some (16 * s.imgPatches a)
  else if t = 6 then some (s.imgConst a) else if t = 0xFF then some 256 else none

/-- Sections (reason 0x04): inside the image, apart, of known types, each once, of the right size, the needed ones
there, SIG at the end (R207, R208). -/
def State.checkSections (s : State) (a : Nat) : Option (Nat × Nat) :=
  let n := s.imgSections a
  let size := s.imgSize a
  let r := s.imgRecord a
  let bad := firstFail n (fun k =>
    let x := r k
    let t := x.1
    let o := x.2.2.1
    let z := x.2.2.2
    x.2.1 < 2 && s.img a (128 + 32 * k + 4) 4 = 0 && s.img a (128 + 32 * k + 24) 8 = 0 &&
    (knownSection t || x.2.1 % 2 = 0) && o % 64 = 0 && 128 + 32 * n ≤ o && o + z ≤ size &&
    (List.range k).all (fun j =>
      let y := r j
      (o + z ≤ y.2.2.1 || y.2.2.1 + y.2.2.2 ≤ o) && !(knownSection t && y.1 = t)) &&
    (match s.sectionSize a t with | some v => z = v | none => true) && (t ≠ 2 || z % 2 = 0) &&
    (t ≠ 0xFF || (o + z = size && k + 1 = n)))
  match bad with
  | some k => some (4, k)
  | none =>
    let has := fun (t : Nat) => (List.range n).any (fun k => (r k).1 = t)
    let deps := (List.range (s.imgOps a)).any (fun k => fieldLE (s.imgOp a k) 65 1 ≠ 0)
    let named := (List.range (s.imgTensors a)).any (fun k => fieldLE (s.imgTensor a k) 44 4 ≠ 0xFFFFFFFF)
    if has 1 && has 3 && has 0xFF && (!deps || has 2) && (s.imgPatches a = 0 || has 4) && (!named || has 5) && (s.imgConst a = 0 || has 6) then
      none
    else some (4, 0)

/-- An image operation as a Work without memories, for the checks that need none. -/
def imageWork (desc : Bytes) (tab : List Bytes) : Work :=
  { ref := .entry 0 0, desc := desc.take 64, part := 0, cluster := 0, home := 0, step := 0, slot := 0, queue := 0, epoch := 0,
    tab := tab, cb := 0, sb := 0 }

/-- Tensor k of a table serves REQUANT as its multiplier and shift table (04 R199). -/
def grainTensor (ops : List Bytes) (k : Nat) : Bool := ops.any (fun d => fieldLE d 0 1 = 0x10 && opSlot d 4 = k)

/-- Operations (reasons 0x06 and 0x07): assigned codes (R35), R209, encodings, parameters and operands (R143). DEDUCED: an
operand whose descriptor is itself invalid is left to reason 0x08, which would else never name a used tensor. -/
def State.checkOps (s : State) (a : Nat) : Option (Nat × Nat) :=
  let tab := s.imgTable a
  match firstFail (s.imgOps a) (fun k => opAssigned (fieldLE (s.imgOp a k) 0 1)) with
  | some k => some (6, k)
  | none =>
    (firstFail (s.imgOps a) (fun k =>
      let d := s.imgOp a k
      fieldLE d 34 2 = k && fieldLE d 1 15 = 0 && fieldLE d 66 2 = 0 && fieldLE d 72 8 = 0 &&
      fieldLE d 64 1 < 16 && fieldLE d 65 1 < 128 &&
      (opReserved (d.take 64) false).isNone && (opParamBad (d.take 64) tab.length).isNone &&
      ((List.range 5).any (fun j => match tab[opSlot d j]? with | some b => !tensOk b (grainTensor [d] (opSlot d j)) | none => false) ||
        (imageWork d tab).shapeBad.isNone))).map (fun k => (7, k))

/-- Operands that a step writes: OUT, TOPK's indices, REQUANT's table under DYNAMIC. -/
def writesOf (d : Bytes) : List Nat :=
  (if opSlot d 0 ≠ 0xFFFF then [opSlot d 0] else []) ++
  (if (fieldLE d 0 1 = 0x07 || (fieldLE d 0 1 = 0x10 && (fieldLE d 40 1).testBit 0)) && opSlot d 4 ≠ 0xFFFF then [opSlot d 4] else [])

/-- Tensors (reason 0x08): valid descriptors, fit scales, R213, R214. -/
def State.checkTensors (s : State) (a : Nat) : Option (Nat × Nat) :=
  let tab := s.imgTable a
  let ops := (List.range (s.imgOps a)).map (s.imgOp a)
  let written := (ops.map (fun d => writesOf d ++
    (if fieldLE d 0 1 = 0x10 && (fieldLE d 40 1).testBit 0 then [fieldLE ((tab[opSlot d 0]?).getD []) 40 2] else []))).flatten
  (firstFail tab.length (fun k =>
    let b := (tab[k]?).getD []
    let grain := grainTensor ops k
    let t := tensOf tab 0 0 0 0 b
    let inside := fun (size : Nat) => t.rows.all (fun r => r + t.rowBytes ≤ size)
    tensOk b grain && fieldLE b 64 1 < 3 && fieldLE b 65 15 = 0 &&
    (grain || fieldLE b 11 1 = 0 || (match tab[fieldLE b 40 2]? with | some sc => scaleOk b sc | none => false)) &&
    (fieldLE b 8 1 = 0 || fieldLE b 64 1 = 0) &&
    (fieldLE b 64 1 ≠ 1 || inside (s.imgConst a)) && (fieldLE b 64 1 ≠ 2 || inside (s.imgScratch a)) &&
    !(fieldLE b 64 1 = 1 && written.contains k))).map (fun k => (8, k))

/-- The entry point that holds step k. -/
def State.entryOf (s : State) (a k : Nat) : Option Nat :=
  (List.range (s.imgEntries a)).find? (fun e => (s.imgEntry a e).1 ≤ k && k ≤ (s.imgEntry a e).2)

/-- Dependencies (reason 0x09): at most 64 of them, inside DEPS, each lower and in the same entry point (R210). DEDUCED: a
step in no entry point breaks R205, reason 0x0C, and is left to it. -/
def State.checkDeps (s : State) (a : Nat) : Option (Nat × Nat) :=
  (firstFail (s.imgOps a) (fun k =>
    let d := s.imgOp a k
    fieldLE d 64 1 < s.imgClusters a && fieldLE d 65 1 ≤ 64 &&
    (fieldLE d 65 1 = 0 || 2 * (fieldLE d 68 4 + fieldLE d 65 1) ≤ (s.imgSection a 2).2) &&
    (s.imgDeps a d).all (fun j => j < k && ((s.entryOf a k).isNone || s.entryOf a j = s.entryOf a k)))).map (fun k => (9, k))

/-- Patches (reason 0x0A): R216. -/
def State.checkPatches (s : State) (a : Nat) : Option (Nat × Nat) :=
  let span := fun (k : Nat) =>
    let p := s.imgPatch a k
    let lo := 8 * (fieldLE p 4 1) + fieldLE p 5 1
    (fieldLE p 0 1, fieldLE p 2 2, lo, lo + fieldLE p 6 1)
  (firstFail (s.imgPatches a) (fun k =>
    let p := s.imgPatch a k
    let x := span k
    let op := fieldLE p 0 1 = 0
    fieldLE p 0 1 < 2 && fieldLE p 1 1 = 0 && fieldLE p 4 1 < 64 && fieldLE p 5 1 < 8 && 8 ≤ fieldLE p 6 1 && fieldLE p 6 1 ≤ 64 &&
    fieldLE p 7 9 = 0 && x.2.2.2 ≤ 512 && fieldLE p 2 2 < (if op then s.imgOps a else s.imgTensors a) &&
    (!op || (128 ≤ x.2.2.1 && (x.2.2.2 ≤ 272 || 288 ≤ x.2.2.1))) &&
    (List.range k).all (fun j =>
      let y := span j
      y.1 ≠ x.1 || y.2.1 ≠ x.2.1 || y.2.2.2 ≤ x.2.2.1 || x.2.2.2 ≤ y.2.2.1))).map (fun k => (10, k))

/-- Names (reason 0x0B): R218, R140. -/
def State.checkNames (s : State) (a : Nat) : Option (Nat × Nat) :=
  let off := fun (k : Nat) => fieldLE (s.imgTensor a k) 44 4
  let z := (s.imgSection a 5).2
  (firstFail (s.imgTensors a) (fun k =>
    off k = 0xFFFFFFFF ||
      (let n := s.imgName a (off k)
       off k < z && 1 ≤ n.length && n.length ≤ 255 && off k + n.length < z && n.all (fun b => 0x21 ≤ b.toNat && b.toNat ≤ 0x7E) &&
       (List.range k).all (fun j => off j = 0xFFFFFFFF || s.imgName a (off j) ≠ n)))).map (fun k => (11, k))

/-- Entry points (reason 0x0C): R205. -/
def State.checkEntries (s : State) (a : Nat) : Option (Nat × Nat) :=
  let n := s.imgEntries a
  let e := s.imgEntry a
  match firstFail 16 (fun k =>
    if k < n then decide ((e k).1 ≤ (e k).2) && decide ((e k).2 < s.imgOps a) &&
      (List.range k).all (fun j => decide ((e k).2 < (e j).1) || decide ((e j).2 < (e k).1))
    else decide (e k = (0, 0))) with
  | some k => some (12, k)
  | none => (firstFail (s.imgOps a) (fun k => (s.entryOf a k).isSome)).map (fun k => (12, k))

/-- All checks of a copied image of len bytes, staged for partition p (R230). -/
def State.checkImage (s : State) (a len p : Nat) : Option (Nat × Nat) :=
  (s.checkHeader a len).orElse fun _ => (s.checkSections a).orElse fun _ =>
    (if s.imageTrusted p a len && s.img a (len - 254) 2 = 0 && (s.img a (len - 256) 2 = 1 || s.img a (len - 252) 4 = 0) &&
      s.devRead (a + len - 104) 104 = zeros 104 then none else some (5, 0)).orElse fun _ =>
    (s.checkOps a).orElse fun _ => (s.checkTensors a).orElse fun _ => (s.checkDeps a).orElse fun _ =>
    (s.checkPatches a).orElse fun _ => (s.checkNames a).orElse fun _ => (s.checkEntries a).orElse fun _ =>
    (if 2 ^ 24 < s.imgCm a then some (13, 0) else none)

end Sys2Proof.Machine
end

