-- ==== Sys2Proof/Machine/Steps.lean ====
section
/-! DEFINITION. Machine/Steps.lean: the work operations run in: single operations, invocations and their steps, the
retirement of each, items and persistent tasks as they end (02, 03, 05, 13). -/

namespace Sys2Proof.Machine

/-! ## Invocations -/

/-- Invocation n. -/
def State.inv (s : State) (n : Nat) : Option Inv := aget s.fe.invs n

/-- s with invocation n changed. -/
def State.modInv (s : State) (n : Nat) (f : Inv → Inv) : State := { s with fe := { s.fe with invs := amod s.fe.invs n f } }

/-- A launch has no input queue. -/
def noIq : Nat := 256

/-- It runs items of a persistent task. -/
def Inv.isTask (v : Inv) : Bool := v.iq < noIq

/-- It waits for its item (R1029; 02 state WAIT_INPUT). -/
def Inv.idle (v : Inv) : Bool := v.isTask && v.item.isNone

/-- Op-table entry and state of step k. -/
def Inv.op (v : Inv) (k : Nat) : Option Bytes := if k < v.first then none else v.ops[k - v.first]?
def Inv.step (v : Inv) (k : Nat) : Option Step := if k < v.first then none else v.steps[k - v.first]?

/-- The invocation with step k changed. -/
def Inv.modStep (v : Inv) (k : Nat) (f : Step → Step) : Inv :=
  if k < v.first then v else { v with steps := v.steps.modify (k - v.first) f }

/-- Physical address of the invocation's image. -/
def State.invBase (s : State) (v : Inv) : Nat := ((s.mslot v.mslot).bank v.bank).base

/-- Physical cluster of a step's logical one (05 R211). -/
def Inv.homeOf (v : Inv) (op : Bytes) : Nat := (v.clusters[fieldLE op 64 1 % 16]?).getD 0

/-! ## Clusters -/

/-- READY clusters permitted to work of partition p under a mask (09 R417), ascending. -/
def State.clustersFor (s : State) (p mask : Nat) : List Nat :=
  (List.range 16).filter (fun n => (s.clusterGrant p).testBit n && (mask = 0 || mask.testBit n) && s.ready (P.cl n) && !s.gated (P.cl n))

/-! ## The work named by a command -/

/-- A single operation granted at ring index i of queue q, on the cluster placement gives it (03 R130). -/
def State.entryWork (s : State) (q i code : Nat) : Option Work :=
  match s.entry q i with
  | none => none
  | some e =>
    if e.st = .granted && !e.void && e.code = code && code < 0x40 && !s.rst.stopped then
      let p := s.qPart q
      let cs := s.clustersFor p 0
      (cs[s.drawn cs.length]?).map (fun c =>
        { ref := .entry q i, desc := e.desc, part := p, cluster := c, home := c, step := 0, slot := e.slot, queue := q, epoch := s.epoch,
          tab := (List.range (e.fld 36 1 % 128)).map (fun k => padTo 80 (s.partRead p (e.fld 16 8 + 64 * k) 64)), cb := 0, sb := 0 })
    else none

/-- Step k of an invocation as a Work. -/
def State.invWork (s : State) (n k : Nat) (v : Inv) (d : Bytes) (st : Step) : Work :=
  let a := s.invBase v
  { ref := .step n k, desc := d.take 64, part := v.part, cluster := st.cluster, home := v.homeOf d, step := k, slot := v.slot, queue := v.queue,
    epoch := v.epoch, tab := v.tensors, cb := s.imgConstAt a, sb := s.imgScratchAt a (v.scratch.getD 0) }

/-- A started step of an invocation. -/
def State.stepWork (s : State) (n k code : Nat) : Option Work :=
  match s.inv n with
  | none => none
  | some v =>
    match v.op k, v.step k with
    | some d, some st => if st.st = .started && fieldLE d 0 1 = code then some (s.invWork n k v d st) else none
    | _, _ => none

/-- The work of a command. -/
def State.work (s : State) (w : WRef) (code : Nat) : Option Work :=
  match w with
  | .entry q i => s.entryWork q i code
  | .step n k => s.stepWork n k code

/-! ## The end of items and tasks (02 R78 to R80; 13 R633, R646) -/

/-- Invocations of a task that run an item. -/
def State.inflight (s : State) (iq : Nat) : Nat := (s.fe.invs.filter (fun (x : Nat × Inv) => x.2.iq = iq && x.2.item.isSome)).length

/-- The task still takes items. -/
def Task.takes (t : Task) : Bool := t.stopping = 0 || (t.stopping = 1 && t.left ≠ 0)

/-- An invocation of a task that waits for an item. -/
def idleInv (t : Task) (iq : Nat) : Inv :=
  { queue := t.queue, index := t.index, item := none, iq := iq, slot := t.slot, part := t.part, mslot := t.mslot, bank := 0, epoch := 0,
    first := 0, ops := [], deps := [], tensors := [], steps := [], scratch := none, waiting := false, clusters := [], taps := [],
    extra := [], verdicts := [], ended := false, fail := none, coverage := 65536 }

/-- One invocation of the task waits while fewer than MAX_INFLIGHT run and the task takes items. -/
def State.settleIdle (s : State) (iq : Nat) : State :=
  match aget s.fe.tasks iq with
  | none => s
  | some t =>
    let idle := s.fe.invs.filter (fun (x : Nat × Inv) => x.2.iq = iq && x.2.item.isNone)
    if t.takes && s.inflight iq < t.maxInflight then
      if idle = [] then { s with fe := { s.fe with invs := aput s.fe.invs s.fe.nextInv (idleInv t iq), nextInv := s.fe.nextInv + 1 } } else s
    else { s with fe := { s.fe with invs := s.fe.invs.filter (fun (x : Nat × Inv) => !(x.2.iq = iq && x.2.item.isNone)) } }

/-- A stopped task with nothing in flight ends: its slot is released, its queue unbound, the STOP_PERSISTENT finishes
(R79, R80). -/
def State.settleTask (s0 : State) (iq : Nat) : State :=
  let s := s0.settleIdle iq
  match aget s.fe.tasks iq with
  | none => s
  | some t =>
    if t.takes || s.inflight iq ≠ 0 then s
    else
      let s1 := (s.modSlot t.slot (fun x => { x with pinned := none })).modQcb t.queue (fun c => { c with persist := c.persist - 1 })
      let s2 := { s1 with fe := { s1.fe with
        tasks := adel s1.fe.tasks iq
        iqs := (match aget s1.fe.iqs iq with
          | some q => if q.items = [] then adel s1.fe.iqs iq else aput s1.fe.iqs iq { q with bound := none }
          | none => s1.fe.iqs) } }
      match t.stopBy with
      | some (q, i) => s2.finishAny q i St.success
      | none => s2

/-- A SLOT_RESET is over when nothing of the slot runs any more (02 R85, R88). -/
def State.settleReset (s : State) (k : Nat) : State :=
  match s.slot k with
  | none => s
  | some sl =>
    if !sl.resetting || sl.pinned.isSome || s.fe.invs.any (fun (x : Nat × Inv) => x.2.slot = k) ||
      (match sl.queue.bind s.queue with
        | some r => r.ents.any (fun (x : Entry) => x.st = .granted || x.st = .started)
        | none => false) then s
    else
      let s1 := s.modSlot k (fun x => { x with resetting := false, resetBy := none })
      match sl.resetBy with
      | some i => s1.finishAny 0 i St.success
      | none => s1

/-! ## The end of an invocation -/

/-- Steps of the invocation are under way. WAIT_QUEUE, PUSH_QUEUE and BARRIER, which act at once when they may, only wait. -/
def Inv.running (v : Inv) : Bool :=
  (v.ops.zip v.steps).any (fun (x : Bytes × Step) =>
    x.2.st = .started && fieldLE x.1 0 1 ≠ 0x18 && fieldLE x.1 0 1 ≠ 0x19 && fieldLE x.1 0 1 ≠ 0x1B)

/-- It is over: nothing of it runs, its steps are done or it failed, and no capture waits. -/
def State.invOver (s : State) (n : Nat) (v : Inv) : Bool :=
  !v.idle && !v.waiting && !v.running &&
  (v.fail.isSome || v.steps.all (fun x => x.st = .done || x.st = .skipped)) &&
  !s.obs.tapDue.any (fun x => x.inv = n)

/-- The invocation and its scratch copy are gone (05 R215). -/
def State.dropInv (s : State) (n : Nat) (v : Inv) : State :=
  let m := s.mslot v.mslot
  let k := m.bank v.bank
  let s1 := match v.scratch with
    | some c =>
      let k1 := { k with scratchUsed := k.scratchUsed.filter (· ≠ c) }
      s.setMSlot v.mslot (if v.bank = 0 then { m with b0 := k1 } else { m with b1 := k1 })
    | none => s
  { s1 with fe := { s1.fe with invs := adel s1.fe.invs n }, obs := { s1.obs with open_ := s1.obs.open_.filter (fun o => o.inv ≠ n + 1) } }

/-- The items of an invocation are outstanding no more, its place in the task is free. -/
def State.dropItems (s : State) (v : Inv) : State :=
  s.each ((match v.item with | some i => [i] | none => []) ++ v.extra) State.itemGone

/-- End the invocation where it is over: a launch's entry finishes; an item's run whose items all have verdicts
retires, another is left to ITEM_NO_VERDICT. -/
def State.settleInv (s : State) (n : Nat) : State :=
  match s.inv n with
  | none => s
  | some v =>
    if !s.invOver n v then s
    else if !v.isTask then
      let st := match v.fail with
        | some f => f
        | none => if v.coverage < 65536 then (St.partial_, v.coverage) else (St.success, s.drawn (2 ^ 32))
      let s1 := s.each (v.extra.filter (fun i => !v.verdicts.contains i.id)) (fun t i => match i.pkt with | some k => t.noVerdict k | none => t)
      ((((s1.dropInv n v).dropItems v).finish v.queue v.index st.1 st.2).settleReset v.slot).draw
    else
      let ids := (match v.item with | some i => [i.id] | none => []) ++ v.extra.map (·.id)
      if v.fail.isNone && ids.all (fun i => v.verdicts.contains i) then (((s.dropInv n v).dropItems v).settleTask v.iq).settleReset v.slot
      else s.modInv n (fun x => { x with
        ended := true, steps := x.steps.map (fun y => if y.st = .started then { y with st := .done } else y) })

/-! ## Retirement of operations -/

/-- Trace of a step's start (0x28) or retirement (0x29). -/
def State.stepTrace (s : State) (w : Work) (typ x : Nat) : State :=
  s.trace (48 + w.cluster) typ w.part [(16, 2, w.step), (18, 1, w.f 0 1), (19, 1, w.slot), (20, 2, w.queue), (22, 2, x),
    (24, 1, b2n (w.cluster ≠ w.home))]

/-- The stream of a slot on a cluster: its rank among the slots with steps there (R40). -/
def State.streamOf (s : State) (c slot : Nat) : Nat :=
  ((List.range slot).filter (fun k => s.fe.invs.any (fun (x : Nat × Inv) => x.2.slot = k && x.2.steps.any (fun y => y.cluster = c)))).length % 4

/-- Progress and step counts of a retirement. -/
def State.stepCounts (s : State) (w : Work) : State :=
  let cl := P.cl w.cluster
  let sq := R.seqDone (s.streamOf w.cluster w.slot)
  (((s.countPN cl R.clSteps 1 w.part).progress cl).countPN (P.seq w.cluster) sq 1 w.part).slotProgress w.slot

/-- Captures due of a retired step: armed NAMED entries of that step (18 R923). -/
def State.tapsAfter (s : State) (n k : Nat) (v : Inv) : State :=
  let due := v.taps.filter (fun t =>
    let b := (aget s.obs.taps t).getD []
    !(fieldLE b 0 1).testBit 1 && fieldLE b 2 2 = k)
  { s with obs := { s.obs with tapDue := s.obs.tapDue ++ due.map (fun t => ⟨n, k, t, s.fns, s.time.ck4⟩) } }

/-- The operation has retired with a status: what its entry or its invocation makes of it. A failed step ends its
invocation's run: no further step starts. -/
def State.retire (s : State) (w : Work) (status detail : Nat) : State :=
  let s1 := (s.stepCounts w).stepTrace w 0x29 status
  match w.ref with
  | .entry q i => (s1.finish q i status detail).settleReset w.slot
  | .step n k =>
    match s1.inv n with
    | none => s1
    | some v =>
      let s2 := s1.modInv n (fun x => { (x.modStep k (fun y => { y with st := .done })) with
        fail := if status < 0x200 then x.fail else x.fail.or (some (status, detail)) })
      (if status < 0x200 then s2.tapsAfter n k v else s2).settleInv n

/-- EXEC_FAULT's DETAIL. -/
def Work.faultDetail (w : Work) : Nat := w.step + w.f 0 1 * 65536

/-- The operation ends with an uncorrectable read (R122; 19 R1020). -/
def State.memFail (s : State) (w : Work) : State :=
  (s.raise ⟨0x0002, P.cl w.cluster, 0, w.step, w.f 0 1, some w.slot, w.queue, w.epoch, some w.part, w.cluster / 8, 0, 0⟩).retire w St.memoryError
    w.step

/-- Carry out what an operation gives, count it, retire it. One that fails leaves free values where its output is
undefined. -/
def State.perform (s : State) (w : Work) (o : OpOut) : State :=
  match o.fail with
  | some st => ((s.putAll o).drawN o.puts.length).retire w st w.faultDetail
  | none =>
    let s1 := ((s.putAll o).countOut w o).opCell w o.work
    (s1.retire w St.success (s1.drawn (2 ^ 32))).draw

/-- Why a single operation is rejected once its tensor table has been read: status and DETAIL (R136 to R143). -/
def State.opReject (s : State) (w : Work) : Option (Nat × Nat) :=
  match w.tensBad with
  | some d => some (St.badParam, d)
  | none =>
    match (List.range 5).find? (fun k => (w.tens k).isSome && ((w.entry k).map (fun b => fieldLE b 8 1)).getD 0 ≠ 0) with
    | some k => some (St.badParam, 24 + 2 * k)
    | none =>
      match w.shapeBad with
      | some d => some (St.badParam, d)
      | none =>
        match s.boundsBad w with
        | some d => some (St.badAddress, d)
        | none => if s.stacksUp w then none else some (St.noResource, 0x20)

/-- Run an operation: the effect body gives, of a single operation that passes its checks or of a started step. The
choice of a cluster for a single operation draws a free value. -/
def State.runOp (s : State) (w : WRef) (code : Nat) (body : State → Work → OpOut) : State :=
  match s.work w code with
  | none => s
  | some k =>
    match w with
    | .entry q i =>
      match s.opReject k with
      | some (st, d) => ((if st = St.badAddress then s.noteHit (s.boundsHit k) else s).draw).finish q i st d
      | none =>
        let s1 := ((s.draw.startEntry q i).stepTrace k 0x28 k.epoch)
        if s1.readsPoison k then s1.memFail k else s1.perform k (body s1 k)
    | .step _ _ => if s.readsPoison k then s.memFail k else s.perform k (body s k)

end Sys2Proof.Machine
end

