-- ==== Sys2Proof/Machine/Launch.lean ====
section
/-! DEFINITION. Machine/Launch.lean: stored-graph launches, persistent tasks, the start of invocations and of steps,
slot resets, core faults (02, 03, 05). -/

namespace Sys2Proof.Machine

open Host (Outcome)

/-! ## Parameter blocks and patches (02 R64 to R68) -/

/-- The value of a patch fits its point's width. -/
def State.patchFits (s : State) (a i v : Nat) : Bool := v < 2 ^ (fieldLE (s.imgPatch a i) 6 1 % 128)

/-- Patch values from a parameter block: by the patch list (index, offset) where there is one, else the u64 at 8 i for
each i. The index at fault where R67 rejects. -/
def State.patchVals (s : State) (a : Nat) (params : Bytes) (pl : List (Nat × Nat)) : Except Nat (List (Nat × Nat)) :=
  let n := s.imgPatches a
  if pl = [] then
    let vs := (List.range (params.length / 8)).map (fun i => (i, fieldLE params (8 * i) 8))
    match vs.find? (fun x => if x.1 < n then !s.patchFits a x.1 x.2 else x.2 ≠ 0) with
    | some x => .error x.1
    | none => .ok (vs.filter (fun x => x.1 < n))
  else
    let vs := pl.map (fun x => (x.1, fieldLE params x.2 8))
    match ((List.range pl.length).zip pl).find? (fun (x : Nat × Nat × Nat) =>
        n ≤ x.2.1 || x.2.2 % 8 ≠ 0 || params.length ≤ x.2.2 || ((pl.take x.1).any (fun y => y.1 = x.2.1)) ||
        !s.patchFits a x.2.1 (fieldLE params x.2.2 8)) with
    | some x => .error x.2.1
    | none => .ok vs

/-- The patch list of a launch: index and parameter offset; a nonzero reserved field shows as an offset no block has. -/
def patchList (bs : Bytes) : List (Nat × Nat) :=
  (List.range (bs.length / 8)).map (fun i => (fieldLE bs (8 * i) 2,
    if fieldLE bs (8 * i + 2) 2 = 0 then fieldLE bs (8 * i + 4) 4 else 1))

/-! ## Building a run -/

/-- Where a run comes from. -/
structure RunOf where
  queue : Nat
  index : Nat
  slot : Nat
  part : Nat
  mslot : Nat
  bank : Nat
  epoch : Nat
  entry : Nat
  iq : Nat
  item : Option Item
  clusters : List Nat
  deriving DecidableEq, Repr

/-- The invocation of an entry point with patch values applied: logical cluster i on the i-th permitted READY cluster,
folded where there are fewer (05 R211). -/
def State.buildRun (s : State) (r : RunOf) (pv : List (Nat × Nat)) : Inv :=
  let a := ((s.mslot r.mslot).bank r.bank).base
  let e := s.imgEntry a r.entry
  let ks := (List.range (e.2 + 1 - e.1)).map (· + e.1)
  let p := s.patched a e.1 pv (ks.map (s.imgOp a)) (s.imgTable a)
  let cl := (List.range (s.imgClusters a)).map (fun i => (r.clusters[i % r.clusters.length]?).getD 0)
  let home := fun (op : Bytes) => (cl[fieldLE op 64 1 % 16]?).getD 0
  { queue := r.queue, index := r.index, item := r.item, iq := r.iq, slot := r.slot, part := r.part, mslot := r.mslot, bank := r.bank,
    epoch := r.epoch, first := e.1, ops := p.1, deps := p.1.map (s.imgDeps a), tensors := p.2,
    steps := p.1.map (fun op => ⟨.waiting, home op, false⟩), scratch := none, waiting := true, clusters := cl, taps := [], extra := [],
    verdicts := [], ended := false, fail := none, coverage := 65536 }

/-- The checks of every step of a run as patched (03 R136; 05 R217), and of the stacks it touches (08 R382): status,
DETAIL and what the firewall refused. -/
def State.runBad (s : State) (v : Inv) : Option (Nat × Nat × Option FwHit) :=
  ((List.range v.ops.length).filterMap (fun k =>
    match v.ops[k]?, v.steps[k]? with
    | some d, some st =>
      let w := s.invWork 0 (v.first + k) v d st
      (match opReserved w.desc false with
        | some o => some (St.badDescriptor, o, none)
        | none => match opParamBad w.desc v.tensors.length with
          | some o => some (St.badParam, o, none)
          | none => match w.tensBad.or w.shapeBad with
            | some o => some (St.badParam, o, none)
            | none => match s.boundsBad w with
              | some o => some (St.badAddress, o, s.boundsHit w)
              | none => if s.stacksUp w then none else some (St.noResource, 0x20, none))
    | _, _ => none)).head?

/-- The image has a step for the Forest Engine, and no permitted cluster a READY one (14 R704). -/
def State.noForest (s : State) (a : Nat) (cs : List Nat) : Bool :=
  (List.range (s.imgOps a)).any (fun k => fieldLE (s.imgOp a k) 0 1 = 0x12 || fieldLE (s.imgOp a k) 0 1 = 0x13) &&
  !cs.any (fun c => s.ready (P.forest c) && !s.gated (P.forest c))

/-- The launch fields of a descriptor: model slot, entry point, parameter block, patch list, cluster mask. -/
def Entry.mslot (e : Entry) : Nat := e.fld 16 2 % 256
def Entry.point (e : Entry) : Nat := e.fld 18 2 % 16

/-- The parameter block and patch list of a launch, read once (R66). -/
def State.launchBlock (s : State) (p : Nat) (e : Entry) : Bytes × List (Nat × Nat) :=
  (s.partRead p (spaceAddr (e.fld 24 8)) (e.fld 20 4),
    if e.fld 40 2 = 0 then [] else patchList (s.partRead p (spaceAddr (e.fld 32 8)) (8 * e.fld 40 2)))

/-- The epoch a descriptor runs under (R69, R70). -/
def State.epochFor (s : State) (e : Entry) : Nat := if (e.fld 1 1).testBit 2 then e.fld 6 2 else s.epoch

/-- What a launch of either kind starts, or why it is rejected (R67 to R73, R417): iq is 256 for LAUNCH_GRAPH. -/
def State.launchRun (s : State) (q i : Nat) (e : Entry) (iq : Nat) : Except (Nat × Nat × Option FwHit) Inv :=
  let p := s.qPart q
  let ep := s.epochFor e
  let n := e.mslot
  if !s.resident ep then .error (St.epochUnavailable, ep, none)
  else if !(s.mslot n).owned || (s.mslot n).owner ≠ p then .error (St.badSlot, n, none)
  else match s.servingBank n ep with
    | none => .error (St.badSlot, n, none)
    | some b =>
      let a := ((s.mslot n).bank b).base
      if s.imgEntries a ≤ e.point then .error (St.badParam, 18, none)
      else
        let blk := s.launchBlock p e
        match s.patchVals a blk.1 blk.2 with
        | .error k => .error (St.badParam, k, none)
        | .ok pv =>
          let cs := s.clustersFor p (e.fld 42 2)
          let v := s.buildRun ⟨q, i, e.slot, p, n, b, ep, e.point, iq, none, cs⟩ pv
          let d := (v.ops.head?).getD []
          if iq < noIq && !(fieldLE d 0 1 = 0x18 && fieldLE d 40 1 = iq) then .error (St.badParam, 44, none)
          else match s.runBad v with
            | some x => .error x
            | none =>
              if cs = [] then .error (St.noResource, 1, none)
              else if s.noForest a cs then .error (St.noResource, 0x61, none)
              else .ok v

/-- The parameter block or the patch list holds an uncorrectable error. -/
def State.launchPoison (s : State) (p : Nat) (e : Entry) : Bool :=
  s.partPoisoned p (spaceAddr (e.fld 24 8)) (e.fld 20 4) || (e.fld 40 2 ≠ 0 && s.partPoisoned p (spaceAddr (e.fld 32 8)) (8 * e.fld 40 2))

/-- Add an invocation. -/
def State.addInv (s : State) (v : Inv) : State :=
  { s with fe := { s.fe with invs := aput s.fe.invs s.fe.nextInv v, nextInv := s.fe.nextInv + 1 } }

/-- A granted, not void entry with a code, while work is issued. -/
def State.grantedCmd (s : State) (q i code : Nat) : Option Entry :=
  match s.entry q i with
  | some e => if e.st = .granted && !e.void && e.code = code && !s.rst.stopped then some e else none
  | none => none

/-- LAUNCH_GRAPH (0x41): R64 to R72. -/
def launchGraph (q i : Nat) (s : State) : State :=
  match s.grantedCmd q i 0x41 with
  | none => s
  | some e =>
    if s.launchPoison (s.qPart q) e then s.memError q i 0 (spaceAddr (e.fld 24 8))
    else match s.launchRun q i e noIq with
      | .error (st, d, h) => (s.noteHit h).finish q i st d
      | .ok v => (((s.startEntry q i).modEntry q i (fun x => { x with epoch := v.epoch })).drainBy v.epoch 1).addInv v

/-- LAUNCH_GRAPH. -/
def execLaunchGraph (q i : Nat) (s : State) : Outcome State Fault Refusal := .next (launchGraph q i s)

/-! ## Persistent tasks (02 R73 to R80; 13 R634) -/

/-- Cluster memory in use on a cluster: of the images of running invocations, and of input queues (05 CM_BYTES; 13
R634). -/
def State.cmUsed (s : State) (c : Nat) : Nat :=
  sumN ((s.fe.invs.filter (fun (x : Nat × Inv) => !x.2.idle && x.2.clusters.contains c)).map (fun x => s.imgCm (s.invBase x.2))) +
  sumN ((s.fe.iqs.filter (fun (x : Nat × InQueue) => (match aget s.fe.tasks x.1 with
    | some t => (s.clustersFor t.part t.mask).head? = some c
    | none => false))).map (fun x => 256 * 2 ^ x.2.log2))

/-- The lowest slot that can be pinned (R51, R75). -/
def State.pinSlot (s : State) : Option Nat :=
  if 24 ≤ s.pinnedCount then none
  else (List.range 32).find? (fun k => k ≠ 0 && (match s.slot k with
    | some x => x.queue.isNone && x.pinned.isNone && !x.resetting
    | none => false))

/-- LAUNCH_PERSISTENT (0x42): R73 to R77. -/
def launchPersistent (q i : Nat) (s : State) : State :=
  match s.grantedCmd q i 0x42 with
  | none => s
  | some e =>
    let p := s.qPart q
    let iq := e.fld 44 2 % 256
    let lg := e.fld 46 1 % 32
    if iq < s.iqBase p || s.iqBase p + s.iqCount p ≤ iq then s.finish q i St.badParam 44
    else if s.launchPoison p e then s.memError q i 0 (spaceAddr (e.fld 24 8))
    else match s.launchRun q i e iq with
      | .error (st, d, h) => (s.noteHit h).finish q i st d
      | .ok v =>
        if (aget s.fe.tasks iq).isSome then s.finish q i St.noResource 2
        else if s.maxTasks p ≤ (s.fe.tasks.filter (fun (x : Nat × Task) => x.2.part = p)).length then s.finish q i St.noResource 5
        else match s.pinSlot with
          | none => s.finish q i St.noResource 3
          | some k =>
            if 2 ^ 24 < s.cmUsed ((v.clusters.head?).getD 0) + 256 * 2 ^ lg then s.finish q i St.noResource 0x60
            else
              let blk := s.launchBlock p e
              let t : Task := {
                queue := q, index := i, slot := k, part := p, mslot := e.mslot, entryPt := e.point, params := blk.1,
                patches := blk.2, mask := e.fld 42 2, maxInflight := e.fld 47 1 % 128, tag := e.fld 2 2, stopping := 0, left := 0, stopBy := none }
              let items := ((aget s.fe.iqs iq).map (·.items)).getD []
              let s1 := s.startEntry q i
              let s2 := (s1.modSlot k (fun x => { x with pinned := some iq })).modQcb q (fun c => { c with persist := c.persist + 1 })
              let s3 := { s2 with fe := { s2.fe with tasks := aput s2.fe.tasks iq t, iqs := aput s2.fe.iqs iq ⟨some k, lg, items⟩ } }
              (s3.settleIdle iq).finish q i St.success (k + iq * 256)

/-- LAUNCH_PERSISTENT. -/
def execLaunchPersistent (q i : Nat) (s : State) : Outcome State Fault Refusal := .next (launchPersistent q i s)

/-- STOP_PERSISTENT of either mode: the task takes no new items beyond those DRAIN still owes; the command finishes
with the task's end (R79, R80). -/
def stopPersistent (mode q i : Nat) (s : State) : State :=
  s.withCmd q i 0x43 (fun t e =>
    let iq := e.fld 16 2 % 256
    if e.fld 18 1 % 2 ≠ mode then s
    else match aget t.fe.tasks iq with
      | none => s.finish q i St.queueState iq
      | some k =>
        if q ≠ 0 && k.part ≠ s.qPart q then s.finish q i St.badParam 16
        else if k.stopping ≠ 0 then s.finish q i St.queueState iq
        else
          let n := ((aget t.fe.iqs iq).map (fun x => x.items.length)).getD 0
          let k1 := { k with stopping := mode + 1, left := if mode = 0 then n else 0, stopBy := some (q, i) }
          ({ t with fe := { t.fe with tasks := aput t.fe.tasks iq k1 } }).settleTask iq)

/-- STOP_PERSISTENT_DRAIN. -/
def execStopPersistentDrain (q i : Nat) (s : State) : Outcome State Fault Refusal := .next (stopPersistent 0 q i s)

/-- STOP_PERSISTENT_DETACH. -/
def execStopPersistentDetach (q i : Nat) (s : State) : Outcome State Fault Refusal := .next (stopPersistent 1 q i s)

/-- ITEM_NO_VERDICT: an item's run is over with an item without a verdict, or failed (R78; 13 R646). -/
def itemNoVerdict (n : Nat) (s : State) : State :=
  match s.inv n with
  | none => s
  | some v =>
    if !v.ended then s
    else
      let items := (match v.item with | some i => [i] | none => []) ++ v.extra
      let s1 := s.each (items.filter (fun i => !v.verdicts.contains i.id)) (fun t i =>
        match i.pkt with | some k => t.noVerdict k | none => t)
      let s2 := match v.fail with
        | some (st, d) => s1.postAsync v.queue v.index st d v.slot v.epoch 1 (((aget s.fe.tasks v.iq).map (fun (t : Task) => t.tag)).getD 0)
        | none => s1
      (((s2.dropInv n v).dropItems v).settleTask v.iq).settleReset v.slot

/-- ITEM_NO_VERDICT. -/
def execItemNoVerdict (inv : Nat) (s : State) : Outcome State Fault Refusal := .next (itemNoVerdict inv s)

/-! ## The start of an invocation (05 R215; 18 R921, R922) -/

/-- The lowest free scratch copy of an invocation's bank. -/
def State.freeScratch (s : State) (mslot bank : Nat) : Option Nat :=
  let k := (s.mslot mslot).bank bank
  (List.range (s.imgCopies k.base)).find? (fun c => !k.scratchUsed.contains c)

/-- Take a scratch copy. -/
def State.takeScratch (s : State) (mslot bank c : Nat) : State :=
  let m := s.mslot mslot
  let k := m.bank bank
  let k1 := { k with scratchUsed := k.scratchUsed ++ [c] }
  s.setMSlot mslot (if bank = 0 then { m with b0 := k1 } else { m with b1 := k1 })

/-- Tap entry t names this run (R921). -/
def State.tapMatches (s : State) (v : Inv) (b : Bytes) : Bool :=
  let fl := fieldLE b 0 1
  let a := s.invBase v
  fl.testBit 0 && fieldLE b 1 1 = v.mslot && (!fl.testBit 2 || fieldLE b 4 2 = v.epoch) &&
  (fl.testBit 1 ||
    (v.first ≤ fieldLE b 2 2 && fieldLE b 2 2 < v.first + v.ops.length &&
      (s.imgTable a).any (fun t => fieldLE t 44 4 ≠ 0xFFFFFFFF && padTo 48 (s.imgName a (fieldLE t 44 4)) = (b.drop 16).take 48)))

/-- Arm the tap entries of an invocation: each matching entry counts it, and captures the first and then every
SAMPLE-th (R921, R922). -/
def State.armTaps (s : State) (n : Nat) : State :=
  match s.inv n with
  | none => s
  | some v =>
    if s.gated P.obsTap then s
    else
      let hits := (s.obs.taps.filter (fun (x : Nat × Bytes) => s.tapMatches v x.2)).map (fun x => (x.1, x.2))
      let s1 := s.each hits (fun t (x : Nat × Bytes) =>
        let c := (aget t.obs.tapCnt x.1).getD ⟨0, 0⟩
        { t with obs := { t.obs with tapCnt := aput t.obs.tapCnt x.1 { c with seen := c.seen + 1 } } })
      let armed := (hits.filter (fun (x : Nat × Bytes) =>
        ((aget s.obs.tapCnt x.1).map (·.seen)).getD 0 % max 1 (fieldLE x.2 6 2) = 0)).map (·.1)
      s1.modInv n (fun x => { x with taps := armed })

/-- INVOCATION_START: the invocation takes a free scratch copy; it waits while there is none. -/
def invocationStart (n : Nat) (s : State) : State :=
  match s.inv n with
  | none => s
  | some v =>
    if !v.waiting then s
    else match s.freeScratch v.mslot v.bank with
      | none => s
      | some c => (((s.takeScratch v.mslot v.bank c).modInv n (fun x => { x with waiting := false, scratch := some c })).armTaps n).settleInv n

/-- INVOCATION_START. -/
def execInvocationStart (inv : Nat) (s : State) : Outcome State Fault Refusal := .next (invocationStart inv s)

/-! ## Steps (03 R128, R129, R145, R40) -/

/-- Units of an operation: 1 arrays, 2 vector stages, 4 QSU, 8 Forest Engine, 16 network port, 32 descriptor engine. -/
def unitsOf (d : Bytes) (tab : List Bytes) : Nat :=
  let c := fieldLE d 0 1
  let mem0 := fun (k : Nat) => opSlot d k ≠ 0xFFFF && fieldLE ((tab[opSlot d k]?).getD []) 8 1 = 0
  if c = 0x01 || c = 0x02 then 1
  else if (0x03 ≤ c && c ≤ 0x0B) || c = 0x1E || c = 0x1F then 2
  else if onQsu c then 4
  else if c = 0x12 || c = 0x13 then 8
  else if c = 0x0D || c = 0x0E then 32 + (if mem0 0 || (c = 0x0E && mem0 1) then 16 else 0)
  else 0

/-- Step k with its op and state. -/
def Inv.at_ (v : Inv) (k : Nat) : Option (Bytes × Step) := match v.op k, v.step k with | some d, some st => some (d, st) | _, _ => none

/-- Done or skipped. -/
def Step.over (x : Step) : Bool := x.st = .done || x.st = .skipped

/-- Every step that step k depends on has retired. -/
def Inv.depsDone (v : Inv) (k : Nat) : Bool :=
  ((v.deps[k - v.first]?).getD []).all (fun j => match v.step j with | some x => x.over | none => false)

/-- Step k is one of the next COUNT steps of the cluster of a SKIP_IF at step i (R145). -/
def Inv.skipReaches (v : Inv) (i k : Nat) (d1 : Bytes) : Bool :=
  let home := fun (j : Nat) => (v.op j).map (fun d => fieldLE d 64 1)
  i < k && home k = home i &&
  ((List.range (k - i)).filter (fun m => home (i + 1 + m) = home i)).length ≤ fieldLE d1 42 2

/-- No earlier step of the cluster with a unit in common is unfinished, nor a SKIP_IF whose COUNT reaches this step
(R129, R145). -/
def Inv.unitsFree (v : Inv) (k : Nat) : Bool :=
  match v.at_ k with
  | none => false
  | some (d, st) =>
    (List.range (k - v.first)).all (fun i => match v.at_ (v.first + i) with
      | none => true
      | some (d1, st1) => st1.over ||
          ((st1.cluster ≠ st.cluster || (unitsOf d1 v.tensors &&& unitsOf d v.tensors) = 0) &&
            !(fieldLE d1 0 1 = 0x1A && v.skipReaches (v.first + i) k d1)))

/-- The tensor of a due capture: IN0 of a DUMP_TAP, else the tensor of the entry's name (18 R923, R924). -/
def State.tapTensor (s : State) (v : Inv) (k t : Nat) : Option Nat :=
  let b := (aget s.obs.taps t).getD []
  if (fieldLE b 0 1).testBit 1 then (v.op k).map (fun d => opSlot d 1)
  else
    let a := s.invBase v
    (List.range v.tensors.length).find? (fun i =>
      let o := fieldLE ((v.tensors[i]?).getD []) 44 4
      o ≠ 0xFFFFFFFF && padTo 48 (s.imgName a o) = (b.drop 16).take 48)

/-- A capture that waits would lose its tensor to step k (18 R923). -/
def State.tapHolds (s : State) (n : Nat) (v : Inv) (k : Nat) : Bool :=
  let a := s.invBase v
  let tens := fun (i c : Nat) => (v.tensors[i]?).map (tensOf v.tensors v.part c (s.imgConstAt a) (s.imgScratchAt a (v.scratch.getD 0)))
  match v.at_ k with
  | none => false
  | some (d, _) => s.obs.tapDue.any (fun x => x.inv = n &&
      (match s.tapTensor v x.step x.entry, v.op x.step with
        | some i, some d0 => (match tens i (v.homeOf d0) with
          | some t => (writesOf d).any (fun j => match tens j (v.homeOf d) with | some u => overlaps t u | none => false)
          | none => false)
        | _, _ => false))

/-- Slots with started steps on a cluster. -/
def State.slotsOn (s : State) (c : Nat) : List Nat :=
  ((s.fe.invs.filter (fun (x : Nat × Inv) => x.2.steps.any (fun y => y.st = .started && y.cluster = c))).map (fun x => x.2.slot)).eraseDups

/-- Step k of invocation n may start now, order among ready steps apart. -/
def State.startable (s : State) (n : Nat) (v : Inv) (k : Nat) : Bool :=
  match v.at_ k with
  | none => false
  | some (_, st) =>
    st.st = .waiting && !v.idle && !v.waiting && v.fail.isNone && !s.rst.stopped && v.depsDone k && v.unitsFree k && !s.tapHolds n v k &&
    s.ready (P.cl st.cluster) && !s.gated (P.cl st.cluster) &&
    ((s.slotsOn st.cluster).contains v.slot || (s.slotsOn st.cluster).length < 4)

/-- STEP_START: the first startable step of its cluster, in step-index order (R128). -/
def stepStart (n k : Nat) (s : State) : State :=
  match s.inv n with
  | none => s
  | some v =>
    match v.at_ k with
    | none => s
    | some (d, st) =>
      if !s.startable n v k ||
        (List.range (k - v.first)).any (fun i => ((v.step (v.first + i)).map (fun (x : Step) => decide (x.cluster = st.cluster))).getD false && s.startable n v (v.first + i)) then s
      else
        let s1 := s.modInv n (fun x => x.modStep k (fun y => { y with st := .started }))
        s1.stepTrace (s1.invWork n k v d st) 0x28 v.epoch

/-- STEP_START. -/
def execStepStart (inv step : Nat) (s : State) : Outcome State Fault Refusal := .next (stepStart inv step s)

/-- A thermal sensor of cluster c reads within 5 °C of the target (R848). -/
def State.reelHot (s : State) (c : Nat) : Bool :=
  (List.range 64).any (fun i => Config.clusterSensor c i && s.rd P.thm (R.thmSensor i) ≠ 0x8000 &&
    decide (toS 16 (s.rd P.thm R.thmTarget) - 80 ≤ toS 16 (s.rd P.thm (R.thmSensor i))))

/-- Reel's window of a cluster: the cluster, its start in µs, moves made in it so far, from now. -/
def State.reelWindow (s : State) (c : Nat) : Nat × Nat × Nat :=
  let win := (s.pwr.reelMoves.find? (fun x => x.1 = c)).getD (c, 0, 0)
  if s.us < win.2.1 + 10 then (c, win.2.1, win.2.2) else (c, s.us, 0)

/-- Reel may move waiting step k of invocation n, of op entry d, to cluster c (R845 to R847). -/
def State.reelMay (s : State) (n k c : Nat) (v : Inv) (d : Bytes) (st : Step) : Bool :=
  let cfg := s.rd P.pwr R.reelCfg
  let op := fieldLE d 0 1
  let mask := match aget s.fe.tasks v.iq with
    | some t => t.mask
    | none => ((s.entry v.queue v.index).map (fun e => e.fld 42 2)).getD 0
  let u := unitsOf d v.tensors
  let waitOn := fun (x : Nat) => sumN (s.fe.invs.map (fun (y : Nat × Inv) =>
    ((List.range y.2.ops.length).filter (fun i => match y.2.at_ (y.2.first + i) with
      | some (d1, st1) => st1.st = .waiting && st1.cluster = x && (unitsOf d1 y.2.tensors &&& u) ≠ 0 && y.2.depsDone (y.2.first + i)
      | none => false)).length))
  let busyOn := s.fe.invs.any (fun (y : Nat × Inv) => (List.range y.2.ops.length).any (fun i => match y.2.at_ (y.2.first + i) with
    | some (d1, st1) => st1.st = .started && st1.cluster = c && (unitsOf d1 y.2.tensors &&& u) ≠ 0
    | none => false))
  let cmBytes := sumN ((List.range 5).map (fun j => match (s.invWork n k v d st).tens j with
    | some t => (match t.sp with | .cm _ => t.bytes | _ => 0)
    | none => 0))
  cfg.testBit 16 && !s.loopFrozen 4 && st.st = .waiting && !v.waiting && v.depsDone k && u ≠ 0 && !(0x18 ≤ op && op ≤ 0x1D) &&
    c ≠ st.cluster && (s.clustersFor v.part mask).contains c && !busyOn && waitOn c = 0 && 2 ≤ waitOn st.cluster &&
    cmBytes ≤ s.rd P.pwr R.reelCmMax * 1024 && (s.reelWindow st.cluster).2.2 < cfg % 256

/-- REEL_STEP_MOVE: R845 to R848. -/
def reelStepMove (n k c : Nat) (s : State) : State :=
  match s.inv n with
  | none => s
  | some v =>
    match v.at_ k with
    | none => s
    | some (d, st) =>
      if !s.reelMay n k c v d st then s
      else if s.reelHot c then s.count P.pwr R.reelHotSkip
      else
        let w := s.reelWindow st.cluster
        let s1 := s.modInv n (fun x => x.modStep k (fun y => { y with cluster := c, moved := true }))
        ({ s1 with pwr := { s1.pwr with reelMoves := (w.1, w.2.1, w.2.2 + 1) :: s1.pwr.reelMoves.filter (fun x => x.1 ≠ st.cluster) } }).count
          P.pwr R.reelStepMoves

/-- REEL_STEP_MOVE. -/
def execReelStepMove (inv step cluster : Nat) (s : State) : Outcome State Fault Refusal := .next (reelStepMove inv step cluster s)

/-! ## SLOT_RESET (02 R85 to R88) -/

/-- The step index an invocation has reached: its first step not over. -/
def Inv.reached (v : Inv) : Nat :=
  match (List.range v.steps.length).find? (fun i => match v.steps[i]? with | some x => !x.over | none => false) with
  | some i => v.first + i
  | none => v.first + v.steps.length - 1

/-- Free values in the outputs of the steps an invocation has begun (R86). -/
def State.undefRun (s : State) (n : Nat) (v : Inv) : State :=
  s.each (List.range v.ops.length) (fun t i => match v.at_ (v.first + i) with
    | some (d, st) =>
      if st.st = .waiting || st.st = .skipped || writesOf d = [] then t
      else
        let o := t.undefOut (t.invWork n (v.first + i) v d st).out
        (t.putAll o).drawN o.puts.length
    | none => t)

/-- An invocation stops at its next step boundary with SLOT_RESET. -/
def State.stopInv (s : State) (n : Nat) (v : Inv) : State :=
  if v.idle then { s with fe := { s.fe with invs := adel s.fe.invs n } }
  else ((s.undefRun n v).modInv n (fun x => { x with waiting := false, fail := x.fail.or (some (St.slotReset, v.reached)) })).settleInv n

/-- SLOT_RESET (0x52): granted entries and started ones of no graph retire at once, invocations at their step boundary;
a pinned slot's task stops as DETACH does. The command finishes when nothing of the slot runs. -/
def slotReset (i : Nat) (s : State) : State :=
  s.withCmd 0 i 0x52 (fun t e =>
    let k := e.fld 16 1 % 32
    match t.slot k with
    | none => t
    | some sl =>
      let t1 := t.modSlot k (fun x => { x with resetting := true, resetBy := some i, resetAt := t.time.ck4 })
      let t2 := match sl.queue with
        | none => t1
        | some q => t1.each (((t1.queue q).map (fun (r : Queue) => r.ents)).getD []) (fun u (x : Entry) =>
            if (x.st = EntSt.granted || x.st = EntSt.started) && !u.fe.invs.any (fun (y : Nat × Inv) => y.2.queue = q && y.2.index = x.idx && !y.2.isTask) then
              u.finish q x.idx St.slotReset 0
            else u)
      let t3 := match sl.pinned with
        | none => t2
        | some iq => { t2 with fe := { t2.fe with tasks := amod t2.fe.tasks iq (fun x => { x with stopping := 2, left := 0 }) } }
      let t4 := t3.each (t3.fe.invs.filter (fun (x : Nat × Inv) => x.2.slot = k)) (fun u (x : Nat × Inv) => u.stopInv x.1 x.2)
      ((match sl.pinned with | some iq => t4.settleTask iq | none => t4)).settleReset k)

/-- SLOT_RESET. -/
def execSlotReset (i : Nat) (s : State) : Outcome State Fault Refusal := .next (slotReset i s)

/-- The page of the engine that runs a step: its Forest Engine, its QSU, its cores (R87). -/
def enginePages (c op : Nat) : List Nat :=
  if op = 0x12 || op = 0x13 then [P.forest c]
  else if onQsu op then [P.qsu c]
  else if unitsOf [BitVec.ofNat 8 op] [] &&& 3 ≠ 0 then (List.range 8).map (P.core c)
  else [P.seq c]

/-- Every fault page of a list, one record each. -/
def State.faultPages (s : State) (ps : List Nat) (code : Nat) : State :=
  (s.each ps (fun t p => t.raise (plainErr code p 0 ((pageAt (p / 0x1000)).elim 0 (fun i => if i.inst < 64 then 0 else 1)) 0 0))).settleReady

/-- SLOT_RESET_DRAIN_TIMEOUT: engines of the slot still run 2^20 CK2 cycles, 2^19 CK4, after the reset began (R87). -/
def slotResetDrainTimeout (k : Nat) (s : State) : State :=
  match s.slot k with
  | none => s
  | some sl =>
    if !sl.resetting || s.time.ck4 < sl.resetAt + 2 ^ 19 then s
    else
      let invs := s.fe.invs.filter (fun (x : Nat × Inv) => x.2.slot = k)
      let pages := ((invs.map (fun (x : Nat × Inv) => ((List.range x.2.ops.length).filterMap (fun i =>
        match x.2.at_ (x.2.first + i) with
        | some (d, st) => if st.st = .started then some (enginePages st.cluster (fieldLE d 0 1)) else none
        | none => none)).flatten)).flatten).eraseDups.filter (fun p => s.ready p)
      let s1 := s.faultPages pages 0x0011
      let idx := s1.flt.seq % 128
      let s2 := s1.each invs (fun t (x : Nat × Inv) => (t.modInv x.1 (fun v => { v with
        steps := v.steps.map (fun y => if y.st = .started then { y with st := .done } else y) })).settleInv x.1)
      match sl.resetBy with
      | none => s2
      | some i =>
        match s2.entry 0 i with
        | some e => if e.st = .finished then (s2.modEntry 0 i (fun x => { x with status := St.internal, detail := idx })) else
            ((s2.modSlot k (fun x => { x with resetting := false, resetBy := none })).finish 0 i St.internal idx)
        | none => s2

/-- SLOT_RESET_DRAIN_TIMEOUT. -/
def execSlotResetDrainTimeout (slot : Nat) (s : State) : Outcome State Fault Refusal := .next (slotResetDrainTimeout slot s)

/-! ## Engine faults (R126, R127) -/

/-- CL_CORE_READY and DEGRADED of a cluster follow its cores; without one the cluster leaves READY (R125). -/
def State.settleCores (s : State) (c : Nat) : State :=
  let up := (List.range 8).filter (fun k => s.ready (P.core c k))
  let s1 := s.wr (P.cl c) R.clCoreReady (sumN (up.map (fun k => 2 ^ k)))
  let s2 := if s1.ready (P.cl c) then s1.setDegraded (P.cl c) (up.length < 8) else s1
  if up = [] && s2.ready (P.cl c) then s2.leaveReady (P.cl c) else s2

/-- An engine faults under a work: one record, its page FAULT; the work ends with INTERNAL and the record's index. -/
def State.engineFault (s : State) (w : Work) (page unit pc : Nat) : State :=
  let s0 := match w.ref with | .entry q i => s.draw.startEntry q i | .step _ _ => s
  let s1 := (s0.raise ⟨0x0010, page, 0, w.step, w.f 0 1, some w.slot, w.queue, w.epoch, some w.part, w.cluster / 8, unit, pc⟩).settleReady
  s1.retire w St.internal (s1.flt.seq % 128)

/-- CORE_FAULT: a core under a step of the arrays or vector stages. -/
def coreFault (w : WRef) (core pc : Nat) (s : State) : State :=
  match (List.range 0x20).findSome? (s.work w) with
  | none => s
  | some k =>
    if 8 ≤ core || unitsOf k.desc k.tab &&& 3 = 0 || !s.ready (P.core k.cluster core) then s
    else
      let cl := P.cl k.cluster
      ((s.wr cl R.clCoreFault (s.rd cl R.clCoreFault ||| 2 ^ core)).engineFault k (P.core k.cluster core) core pc).settleCores k.cluster

/-- CORE_FAULT. -/
def execCoreFault (w : WRef) (core pc : Nat) (s : State) : Outcome State Fault Refusal := .next (coreFault w core pc s)

/-- An error found in a cluster's memory under a step ends that step's run (R122). -/
def State.workError (s : State) (e : ErrEvent) : State :=
  match e.slot, pageAt (e.page / 0x1000) with
  | some sl, some pi =>
    if e.code ≠ 2 || !(pi.kind = .cl || pi.kind = .core || pi.kind = .forest) then s
    else
      let c := if pi.kind = .core then pi.inst / 8 else pi.inst
      match s.fe.invs.find? (fun (x : Nat × Inv) => x.2.slot = sl && x.2.queue = e.queue &&
          ((x.2.step e.step).map (fun y => y.st = .started && y.cluster = c)).getD false) with
      | some (n, v) => (match v.at_ e.step with
        | some (d, st) => s.retire (s.invWork n e.step v d st) St.memoryError e.step
        | none => s)
      | none => s
  | _, _ => s

/-! ## MODEL_STAGE (05 R228 to R233) -/

/-- MODEL_STAGE (0x54): copies, then checks the copy. MODEL_SLOT 16, PARTITION 18, SRC 24, LENGTH 32. -/
def modelStage (i : Nat) (s : State) : State :=
  match s.grantedCmd 0 i 0x54 with
  | none => s
  | some e =>
    let n := e.fld 16 2 % 256
    let p := e.fld 18 1 % 16
    let src := e.fld 24 8
    let len := e.fld 32 8
    let m := s.mslot n
    if !s.hostGo 0 [src] then s.count P.dma R.dmaBmeWait
    else if m.owned && m.owner ≠ p then s.finish 0 i St.badSlot n
    else if m.retire then s.finish 0 i St.badSlot n
    else if m.b0.state ≠ 0 && m.b1.state ≠ 0 then s.finish 0 i St.noResource 0x12
    else if (m.inState 2).isSome then s.finish 0 i St.noResource 0x12
    else
      let b := if m.b0.state = 0 then 0 else 1
      let hdr := s.spRead (s.qPart 0) src 128
      let size := bankSize len (fieldLE hdr 40 8) (fieldLE hdr 48 1 % 128)
      if !m.owned && s.maxSlots p ≤ s.slotsOwned p then s.finish 0 i St.noResource 0x11
      else if s.bankQuota p < s.bankBytes p + size then s.finish 0 i St.noResource 0x10
      else match s.poolAlloc size with
        | none => s.finish 0 i St.noResource 0x14
        | some a =>
          if !s.stacksReady a size then s.finish 0 i St.noResource 0x20
          else if s.spPoisoned (s.qPart 0) src len then s.memError 0 i 0 (spaceAddr src)
          else
            let s1 := ((s.startEntry 0 i).devWrite a (s.spRead (s.qPart 0) src len)).hostSide src len false
            let m1 := { m with stageBytes := len % 2 ^ 32 }
            match s1.checkImage a len p with
            | some (reason, idx) => ((s1.setMSlot n m1).count P.dev R.miStageReject).finish 0 i St.imageRejected (reason + idx * 256)
            | none =>
              let k : Bank := ⟨2, 0, 0, a, size, s1.devRead (a + len - 248) 48, s1.img a 56 8, []⟩
              let m2 := { m1 with owned := true, owner := p }
              ((s1.setMSlot n (if b = 0 then { m2 with b0 := k } else { m2 with b1 := k })).extend 5 k.digest).finishAny 0 i St.success

/-- MODEL_STAGE. -/
def execModelStage (i : Nat) (s : State) : Outcome State Fault Refusal := .next (modelStage i s)

end Sys2Proof.Machine
end

