-- ==== Sys2Proof/Machine/Dense.lean ====
section
/-! DEFINITION. Machine/Dense.lean: MATMUL and CONV1D (03 R153 to R160; 04 R188, R196 to R198, R202). -/

namespace Sys2Proof.Machine

open Host (Outcome)

/-! ## ELEMWISE functions in F32 (R152, R164, R166): shared by ACT and ELEMWISE -/

/-- A function of one input in F32. -/
def unaryF (f : Nat) (p0 p1 x : Num) : Num :=
  if f = 0x01 then r32 x
  else if f = 0x02 then r32 x.neg
  else if f = 0x03 then r32 x.abs
  else if f = 0x04 then (if Num.lt x Num.zero then Num.zero else r32 x)
  else if f = 0x05 then r32 ((x.maxN p0).minN p1)
  else if f = 0x06 then (if Num.lt x Num.zero then fmul p0 x else r32 x)
  else if f = 0x0D then
    (match x with
      | .fin b n d => if n = 0 then x else if b then openNum f x x else r32 (rootFrac n d)
      | .inf true => openNum f x x
      | y => y)
  else if f = 0x0F then
    (match x with
      | .fin _ 0 _ => openNum f x x
      | y => r32 (Num.divWith .nan (Num.ofNat 1) y))
  else approx f x

/-! ## Accumulation -/

/-- An accumulation so far: an integer or an F32 value, and whether an addition saturated. -/
structure MacSum where
  int : Int
  flt : Num
  sat : Bool
  deriving DecidableEq, Repr

/-- Add an exact integer, saturating at w bits (R153, R154). -/
def MacSum.addI (w : Nat) (a : MacSum) (p : Int) : MacSum :=
  let lo : Int := -((2 ^ (w - 1) : Nat) : Int)
  let hi : Int := (2 ^ (w - 1) : Nat) - 1
  let c := clampI (a.int + p) lo hi
  { a with int := c, sat := a.sat || c ≠ a.int + p }

/-- The list in groups of n. -/
def groupsBy {α : Type} (n : Nat) (l : List α) : List (List α) :=
  (List.range (ceilDiv l.length n)).map (fun g => (l.drop (g * n)).take n)

/-- Sum over one reduction (R153 to R156): pairs of operand elements in ascending K order, pass by pass; a pass of
a CONV1D is one KW row. fa and fb are the formats, kt the group of a float sum. -/
def accumulate (fa fb kt : Nat) (passes : List (List (Num × Num))) : MacSum :=
  let a0 : MacSum := ⟨0, Num.zero, false⟩
  if fmtInt fa then
    let w := if fmtBits fa = 16 || fmtBits fb = 16 then 48 else 32
    let a := passes.flatten.foldl (fun (a : MacSum) (p : Num × Num) =>
      a.addI w (match p.1.mul p.2 with | .fin b n _ => if b then -(n : Int) else (n : Int) | _ => 0)) a0
    let c := clampI a.int (-2147483648) 2147483647
    { a with int := c, sat := a.sat || c ≠ a.int }
  else if fa = 14 then
    { a0 with flt := passes.flatten.foldl (fun (v : Num) (p : Num × Num) => ffma p.1 p.2 v) Num.zero }
  else
    { a0 with flt := ((passes.map (groupsBy kt)).flatten).foldl (fun (v : Num) (g : List (Num × Num)) =>
        fadd v (r32 (g.foldl (fun (t : Num) (p : Num × Num) => t.add (p.1.mul p.2)) Num.zero))) Num.zero }

/-! ## The epilogue (R158 to R160; 04 R194 to R198, R202) -/

/-- derive: multiplier and shift of an F32 factor (04 R195). -/
def deriveF (code : Nat) : Int × Nat :=
  match decodeF 14 code with
  | .nan => (0, 0)
  | .inf b => if b then (0, 0) else (0x7FFFFFFF, 0)
  | .fin b n d =>
    if b || n = 0 then (0, 0)
    else if 2 ^ 31 * d ≤ n then (0x7FFFFFFF, 0)
    else
      let e := flog2 n d
      if e < -32 then (0, 0) else (((code % 2 ^ 23 + 2 ^ 23) * 2 ^ 7 : Nat), (30 - e).toNat)

/-- requant: exact rescaling with rounding to nearest, ties away from zero (04 R194); and whether it was clamped. -/
def requant (acc m : Int) (sh : Nat) (z lo hi : Int) : Int × Bool :=
  let p := acc * m
  let half : Int := if sh = 0 then 0 else (2 ^ (sh - 1) : Nat)
  let r := if 0 ≤ p then (p + half) / (2 ^ sh : Nat) else -((-p + half) / (2 ^ sh : Nat))
  (clampI (r + z) lo hi, clampI (r + z) lo hi ≠ r + z)

/-- Codes of CLIP's bounds or RELU's in OUT's domain (04 R198), applied to a requantised element. -/
def State.actClamp (s : State) (w : Work) (x : Ix) (q : Int) : Int :=
  let o := w.out
  let act := w.f 42 1
  let bound := fun (v : Num) => decodeI o.fmt (s.conv o x v).1
  if act = 0x04 then max q o.zp
  else if act = 0x05 then min (max q (bound (w.fp 44))) (bound (w.fp 48))
  else q

/-- The integer epilogue holds: A, B and OUT integer, bias S32 or absent, ACT none, RELU or CLIP (R159). -/
def intEpilogue (w : Work) : Bool :=
  fmtInt w.in0.fmt && fmtInt w.in1.fmt && fmtInt w.out.fmt && (match w.tens 3 with | some t => t.fmt = 13 | none => true) &&
  (w.f 42 1 = 0 || w.f 42 1 = 0x04 || w.f 42 1 = 0x05)

/-- Add the epilogue's code to the one OUT holds (R160): integer codes about the zero point, float values in F32. -/
def State.accumInto (s : State) (w : Work) (x : Ix) (raw : Bool) (v : Num) (e : Elem) : Elem :=
  let o := w.out
  if fmtInt o.fmt then
    let r := s.ival o x + decodeI o.fmt e.code - (if raw then 0 else o.zp)
    let c := encodeI o.fmt r
    ⟨c.1, e.sat + b2n c.2, e.nan⟩
  else if raw then
    let t := fadd (decodeF 14 (s.code o x)) v
    ⟨f32 t, 0, t.isNan⟩
  else s.elem o x (fadd (s.fval o x) v)

/-- One output element from its accumulation: sa and sb are the F32 codes of A's and B's scales for it, x its position,
n its column. -/
def State.epilogue (s : State) (w : Work) (x : Ix) (a0 : MacSum) (sa sb : Nat) : Elem :=
  let o := w.out
  let isInt := fmtInt w.in0.fmt
  let raw := (w.f 41 1).testBit 2
  let accum := (w.f 41 1).testBit 1
  let bias := w.tens 3
  let bx : Ix := ⟨x.i0, 0, 0, 0⟩
  let a := match bias with
    | some t => if t.fmt = 13 then a0.addI 32 (s.ival t bx) else a0
    | none => a0
  let satA := b2n a.sat
  if raw then
    let v := if isInt then Num.ofInt a.int else a.flt
    let e : Elem := if isInt then ⟨ofS 32 a.int, satA, false⟩ else ⟨f32 a.flt, 0, a.flt.isNan⟩
    if accum then s.accumInto w x true v e else e
  else if intEpilogue w then
    let so := s.scaleCode o (o.group x)
    let e : Elem :=
      if o.qmode ≠ 0 && !usable so then ⟨(encodeI o.fmt o.zp).1, satA + 1, false⟩
      else
        let r := f32 (Num.divWith .nan (r32 ((decodeF 14 sa).scaleBy (decodeF 14 sb))) (decodeF 14 so))
        let ms := deriveF r
        let q := requant a.int ms.1 ms.2 o.zp (fmtMin o.fmt) (fmtMax o.fmt)
        ⟨ofS (fmtBits o.fmt) (s.actClamp w x q.1), satA + b2n q.2, false⟩
    if accum then s.accumInto w x false Num.zero e else e
  else
    let acc := if isInt then r32 (Num.ofInt a.int) else a.flt
    let d := r32 (acc.scaleBy (r32 ((decodeF 14 sa).scaleBy (decodeF 14 sb))))
    let b := match bias with
      | some t => if t.fmt = 13 then d else fadd d (s.fval t bx)
      | none => d
    let act := w.f 42 1
    let v := if act = 0 then b else unaryF act (w.fp 44) (w.fp 48) b
    let e := s.elem o x v
    if accum then
      (let r := s.accumInto w x false v e
       { r with sat := r.sat + satA })
    else { e with sat := e.sat + satA }

/-! ## MATMUL (0x01) -/

/-- Element [k, n] of B, transposed under B_T; a batch of rank-2 B is shared. -/
def bIx (bt : Bool) (t : Tens) (k n b : Nat) : Ix := ⟨if bt then k else n, if bt then n else k, if t.rank = 3 then b else 0, 0⟩

/-- MATMUL of one work. -/
def State.matmul (s : State) (w : Work) : OpOut :=
  let a := w.in0
  let b := w.in1
  let bt := (w.f 41 1).testBit 0
  let macs := w.out.count * a.d0
  outOf w.out macs (fun x =>
    let ps := (List.range a.d0).map (fun k =>
      (a.unscaled (s.code a ⟨k, x.i1, x.i2, 0⟩), b.unscaled (s.code b (bIx bt b k x.i0 x.i2))))
    s.epilogue w x (accumulate a.fmt b.fmt (ktOf a.fmt b.fmt) [ps]) (s.scaleCode a (a.group ⟨0, x.i1, x.i2, 0⟩))
      (s.scaleCode b (b.group (bIx bt b 0 x.i0 x.i2))))

/-- Array counts of a MATMUL: a rank-2 B streams once for all batches. -/
def State.countMatmul (s : State) (w : Work) : State :=
  let a := w.in0
  let b := w.in1
  let apart := b.rank = 3
  s.countDense w (if apart then a.d1 else a.d1 * a.d2) w.out.d0 (ceilDiv a.d0 (ktOf a.fmt b.fmt)) (if apart then a.d2 else 1)
    (w.out.count * a.d0) (rowCycles a.fmt b.fmt)

/-- An operation that counts before it retires. -/
def State.runDense (s : State) (w : WRef) (code : Nat) (count : State → Work → State) (body : State → Work → OpOut) : State :=
  match s.work w code with
  | none => s
  | some k =>
    let ok := match w with | .entry _ _ => (s.opReject k).isNone | .step _ _ => true
    let s1 := s.runOp w code body
    if ok && !s.readsPoison k then count s1 k else s1

/-- MATMUL. -/
def execMatmul (w : WRef) (s : State) : Outcome State Fault Refusal :=
  .next (s.runDense w 0x01 State.countMatmul State.matmul)

/-! ## CONV1D (0x02) -/

/-- Input row of tap j for output row y; none outside the input (R1026). -/
def convRow (w : Work) (y j : Nat) : Option Nat :=
  let r : Int := ((y * w.f 53 1 + j * w.f 54 1 : Nat) : Int) - (w.f 55 1 : Nat)
  if 0 ≤ r && r < (w.in0.d1 : Int) then some r.toNat else none

/-- CONV1D of one work: one pass for each tap inside the input. -/
def State.conv1d (s : State) (w : Work) : OpOut :=
  let a := w.in0
  let b := w.in1
  outOf w.out (w.out.count * a.d0 * w.f 52 1) (fun x =>
    let passes := (List.range (w.f 52 1)).filterMap (fun j => (convRow w x.i1 j).map (fun r =>
      (List.range a.d0).map (fun c => (a.unscaled (s.code a ⟨c, r, 0, 0⟩), b.unscaled (s.code b ⟨x.i0, c, j, 0⟩)))))
    s.epilogue w x (accumulate a.fmt b.fmt (ktOf a.fmt b.fmt) passes) (s.scaleCode a 0) (s.scaleCode b 0))

/-- Array counts of a CONV1D: KW accumulated passes. -/
def State.countConv (s : State) (w : Work) : State :=
  let a := w.in0
  s.countDense w w.out.d1 w.out.d0 (w.f 52 1 * ceilDiv a.d0 (ktOf a.fmt w.in1.fmt)) 1 (w.out.count * a.d0 * w.f 52 1)
    (rowCycles a.fmt w.in1.fmt)

/-- CONV1D. -/
def execConv1d (w : WRef) (s : State) : Outcome State Fault Refusal := .next (s.runDense w 0x02 State.countConv State.conv1d)

end Sys2Proof.Machine
end

