-- ==== Sys2Proof/Machine/Vector.lean ====
section
/-! DEFINITION. Machine/Vector.lean: the operations of the vector stages (03: ELEMWISE to CONCAT). -/

namespace Sys2Proof.Machine

open Host (Outcome)

/-! ## ELEMWISE (0x03; R152, R161, R164, R166) -/

/-- The position of an input that stands for a position of OUT: extent 1 is broadcast. -/
def Tens.cast (t : Tens) (x : Ix) : Ix :=
  ⟨if t.d0 = 1 then 0 else x.i0, if t.d1 = 1 then 0 else x.i1, if t.d2 = 1 then 0 else x.i2, if t.d3 = 1 then 0 else x.i3⟩

/-- The step computes on stored integers (R161). -/
def intElemwise (w : Work) : Bool :=
  let f := w.f 40 1
  let plain := fun (t : Option Tens) => match t with | some t => fmtInt t.fmt && t.qmode = 0 | none => true
  (List.range 4).all (fun k => plain (w.tens k)) && (f ≤ 0x05 || f = 0x20 || f = 0x21 || f = 0x22 || f = 0x24 || f = 0x25)

/-- A CLIP bound as an S32 (R161). -/
def clipBound (v : Num) : Int := decodeI 13 (encodeQ 13 0 v).1

/-- An integer function. -/
def elemI (f : Nat) (p0 p1 : Num) (a b : Int) : Int :=
  if f = 0x02 then -a
  else if f = 0x03 then (if a < 0 then -a else a)
  else if f = 0x04 then max a 0
  else if f = 0x05 then min (max a (clipBound p0)) (clipBound p1)
  else if f = 0x20 then a + b
  else if f = 0x21 then a - b
  else if f = 0x22 then a * b
  else if f = 0x24 then max a b
  else if f = 0x25 then min a b
  else a

/-- A function in F32: inputs a, b, c. -/
def elemF (f : Nat) (p0 p1 a b c : Num) : Num :=
  let bool := fun (x : Bool) => if a.isNan || b.isNan then Num.nan else if x then Num.ofNat 1 else Num.zero
  if f < 0x20 then unaryF f p0 p1 a
  else if f = 0x20 then fadd a b
  else if f = 0x21 then fsub a b
  else if f = 0x22 then fmul a b
  else if f = 0x23 then fdiv a b
  else if f = 0x24 then a.maxN b
  else if f = 0x25 then a.minN b
  else if f = 0x26 then bool (Num.lt b a)
  else if f = 0x27 then bool (Num.veq a b)
  else if f = 0x30 then (if c.isNan then .nan else if c.isZero then b else a)
  else ffma a b c

/-- ELEMWISE of one work. -/
def State.elemwise (s : State) (w : Work) : OpOut :=
  let f := w.f 40 1
  let has := fun (k : Nat) => (w.tens k).isSome
  if intElemwise w then
    outOf w.out w.out.count (fun x =>
      let b := if has 2 then s.ival w.in1 (w.in1.cast x) else 0
      let c := encodeI w.out.fmt (elemI f (w.fp 44) (w.fp 48) (s.ival w.in0 (w.in0.cast x)) b)
      ⟨c.1, b2n c.2, false⟩)
  else
    outOf w.out w.out.count (fun x =>
      let b := if has 2 then s.fval w.in1 (w.in1.cast x) else Num.zero
      let c := if has 3 then s.fval w.in2 (w.in2.cast x) else Num.zero
      s.elem w.out x (elemF f (w.fp 44) (w.fp 48) (s.fval w.in0 (w.in0.cast x)) b c))

/-- ELEMWISE. -/
def execElemwise (w : WRef) (s : State) : Outcome State Fault Refusal := .next (s.runOp w 0x03 State.elemwise)

/-! ## SOFTMAX and NORM (R162, R163) -/

/-- The values of a row along DIM0. -/
def State.rowVals (s : State) (t : Tens) (x : Ix) : List Num := (List.range t.d0).map (fun i => s.fval t (x.put 0 i))

/-- Sum in ascending index order, each addition rounded. -/
def fsum (l : List Num) : Num := l.foldl fadd Num.zero

/-- The greatest, or NaN. -/
def fmax (l : List Num) : Num := match l with | [] => Num.zero | a :: r => r.foldl Num.maxN a

/-- The least, or NaN. -/
def fmin (l : List Num) : Num := match l with | [] => Num.zero | a :: r => r.foldl Num.minN a

/-- SOFTMAX of one work. -/
def State.softmax (s : State) (w : Work) : OpOut :=
  let temp := if (w.fp 44).isZero then Num.ofNat 1 else w.fp 44
  outRows w.out w.out.count (fun x =>
    let xs := (s.rowVals w.in0 x).map (fun v => fmul v temp)
    let m := fmax xs
    let es := xs.map (fun v => fexp (fsub v m))
    let t := fsum es
    (List.range w.out.d0).zipWith (fun i e => s.elem w.out (x.put 0 i) (fdiv e t)) es)

/-- SOFTMAX. -/
def execSoftmax (w : WRef) (s : State) : Outcome State Fault Refusal := .next (s.runOp w 0x04 State.softmax)

/-- NORM of one work: LAYER, or RMS without mean and beta. -/
def State.norm (s : State) (w : Work) : OpOut :=
  let rms := (w.f 40 1).testBit 0
  let eps := w.fp 44
  let n := Num.ofNat w.in0.d0
  let at1 := fun (i : Nat) => (⟨i, 0, 0, 0⟩ : Ix)
  outRows w.out w.out.count (fun x =>
    let xs := s.rowVals w.in0 x
    let mean := fdiv (fsum xs) n
    let ds := if rms then xs else xs.map (fun v => fsub v mean)
    let r := frsqrt (fadd (fdiv (fsum (ds.map (fun v => fmul v v))) n) eps)
    (List.range w.out.d0).zipWith (fun i d =>
      let y := fmul d r
      let g := match w.tens 2 with | some t => fmul y (s.fval t (at1 i)) | none => y
      let b := match w.tens 3 with | some t => fadd g (s.fval t (at1 i)) | none => g
      s.elem w.out (x.put 0 i) b) ds)

/-- NORM. -/
def execNorm (w : WRef) (s : State) : Outcome State Fault Refusal := .next (s.runOp w 0x05 State.norm)

/-! ## REDUCE (R151) and TOPK (R150) -/

/-- a comes before b in a search for an extreme: NaN first, then the greater (or, for lo, the less). -/
def ranksBefore (lo : Bool) (a b : Num) : Bool :=
  if a.isNan then !b.isNan else if b.isNan then false else if lo then Num.lt a b else Num.lt b a

/-- Index of the first extreme. -/
def argBest (lo : Bool) (l : List Num) : Nat :=
  ((List.range l.length).zip l).foldl (fun (b : Nat × Num) (x : Nat × Num) => if ranksBefore lo x.2 b.2 then x else b)
    (0, l.headD Num.zero) |>.1

/-- One reduction. -/
def reduceN (f : Nat) (l : List Num) : Num :=
  if f = 0 then fsum l
  else if f = 1 then fdiv (fsum l) (Num.ofNat l.length)
  else if f = 2 then fmax l
  else if f = 3 then fmin l
  else if f = 4 then Num.ofNat (argBest false l)
  else if f = 5 then Num.ofNat (argBest true l)
  else if f = 6 then fsum (l.map (fun v => fmul v v))
  else fmax (l.map Num.abs)

/-- REDUCE of one work. -/
def State.reduce (s : State) (w : Work) : OpOut :=
  let ax := w.f 41 1
  outOf w.out w.out.count (fun x =>
    s.elem w.out x (reduceN (w.f 40 1) ((List.range (w.in0.dim ax)).map (fun i => s.fval w.in0 (x.put ax i)))))

/-- REDUCE. -/
def execReduce (w : WRef) (s : State) : Outcome State Fault Refusal := .next (s.runOp w 0x06 State.reduce)

/-- Insert behind every entry that it does not come before. -/
def rankIn (lo : Bool) (x : Nat × Num) : List (Nat × Num) → List (Nat × Num)
  | [] => [x]
  | y :: l => if ranksBefore lo x.2 y.2 then x :: y :: l else y :: rankIn lo x l

/-- Values with their indices, best first, lower index first among equals. -/
def ranked (lo : Bool) (l : List Num) : List (Nat × Num) :=
  ((List.range l.length).zip l).foldl (fun acc x => rankIn lo x acc) []

/-- TOPK of one work: values into OUT, indices into AUX. -/
def State.topk (s : State) (w : Work) : OpOut :=
  let lo := (w.f 41 1).testBit 0
  let best := fun (x : Ix) => (ranked lo (s.rowVals w.in0 x)).take (w.f 40 1)
  let o := outRows w.out w.out.count (fun x =>
    (List.range w.out.d0).zipWith (fun i (e : Nat × Num) => s.elem w.out (x.put 0 i) e.2) (best x))
  let a := outRows w.aux 0 (fun x => (best x).map (fun (e : Nat × Num) => ⟨(encodeI w.aux.fmt e.1).1, 0, false⟩))
  { o with puts := o.puts ++ a.puts }

/-- TOPK. -/
def execTopk (w : WRef) (s : State) : Outcome State Fault Refusal := .next (s.runOp w 0x07 State.topk)

/-! ## POOL1D (0x1E, R1026) -/

/-- POOL1D of one work. -/
def State.pool1d (s : State) (w : Work) : OpOut :=
  let f := w.f 40 1
  outOf w.out w.out.count (fun x =>
    let l := (List.range (w.f 41 1)).map (fun j => s.fval w.in0 ⟨x.i0, x.i1 * w.f 42 1 + j, 0, 0⟩)
    s.elem w.out x (if f = 0 then fmax l else if f = 1 then fdiv (fsum l) (Num.ofNat (w.f 41 1)) else fsum l))

/-- POOL1D. -/
def execPool1d (w : WRef) (s : State) : Outcome State Fault Refusal := .next (s.runOp w 0x1E State.pool1d)

/-! ## GATHER, SCATTER, EMBED_SUM (R148, R149, R1027) -/

/-- The row an index names, of a table with n rows. -/
def rowOf (n : Nat) (i : Int) : Option Nat := if 0 ≤ i && i < (n : Int) then some i.toNat else none

/-- Code of the value 0 (R148). -/
def zeroCode (t : Tens) : Nat := if fmtInt t.fmt then (encodeI t.fmt t.zp).1 else 0

/-- GATHER of one work. -/
def State.gather (s : State) (w : Work) : OpOut :=
  let row := fun (n : Nat) => rowOf w.in0.d1 (s.ival w.in1 ⟨n, 0, 0, 0⟩)
  let o := outOf w.out w.out.bytes (fun x =>
    ⟨match row x.i1 with | some r => s.code w.in0 ⟨x.i0, r, 0, 0⟩ | none => zeroCode w.out, 0, false⟩)
  { o with oob := ((List.range w.in1.d0).filter (fun n => (row n).isNone)).length }

/-- GATHER. -/
def execGather (w : WRef) (s : State) : Outcome State Fault Refusal := .next (s.runOp w 0x08 State.gather)

/-- One element of SCATTER ADD: the stored element with another of the same table added. -/
def State.scatterAdd (s : State) (t : Tens) (x : Ix) (e : Elem) (c : Nat) : Elem :=
  if fmtInt t.fmt then
    let r := encodeI t.fmt (decodeI t.fmt e.code + decodeI t.fmt c - t.zp)
    ⟨r.1, e.sat + b2n r.2, false⟩
  else
    let sc := decodeF 14 (s.scaleCode t (t.group x))
    let v := fun (k : Nat) => if t.qmode = 0 then r32 (decodeF t.fmt k) else r32 ((decodeF t.fmt k).scaleBy sc)
    let r := s.elem t x (fadd (v e.code) (v c))
    ⟨r.code, e.sat + r.sat, r.nan⟩

/-- SCATTER of one work: each row that an index names, with the rows of IN0 for it in ascending position order. -/
def State.scatter (s : State) (w : Work) : OpOut :=
  let addMode := (w.f 40 1).testBit 0
  let t := w.out
  let idx := (List.range w.in1.d0).map (fun n => (n, rowOf t.d1 (s.ival w.in1 ⟨n, 0, 0, 0⟩)))
  let rows := (idx.filterMap (fun (x : Nat × Option Nat) => x.2)).eraseDups
  let es := (rows.map (fun r => (List.range t.d0).map (fun c =>
    let x : Ix := ⟨c, r, 0, 0⟩
    let from_ := (idx.filter (fun (y : Nat × Option Nat) => y.2 = some r)).map (fun (y : Nat × Option Nat) => s.code w.in0 ⟨c, y.1, 0, 0⟩)
    (x, from_.foldl (fun (e : Elem) k => if addMode then s.scatterAdd t x e k else ⟨k, 0, false⟩) ⟨s.code t x, 0, false⟩)))).flatten
  ⟨es.map (fun (e : Ix × Elem) => (t, e.1, e.2.code)), [], sumN (es.map (fun (e : Ix × Elem) => e.2.sat)),
    (es.filter (fun (e : Ix × Elem) => e.2.nan)).length, (idx.filter (fun (x : Nat × Option Nat) => x.2.isNone)).length,
    (idx.filter (fun (x : Nat × Option Nat) => x.2.isSome)).length * t.rowBytes, none⟩

/-- SCATTER. -/
def execScatter (w : WRef) (s : State) : Outcome State Fault Refusal := .next (s.runOp w 0x09 State.scatter)

/-- EMBED_SUM of one work. -/
def State.embedSum (s : State) (w : Work) : OpOut :=
  let t := w.in0
  let mean := (w.f 40 1).testBit 0
  let nb := Num.ofNat w.in1.d0
  let row := fun (n b : Nat) => rowOf t.d1 (s.ival w.in1 ⟨b, n, 0, 0⟩)
  let o := outOf w.out w.out.bytes (fun x =>
    let rs := (List.range w.in1.d0).filterMap (row x.i1)
    if fmtInt t.fmt && t.qmode ≠ 2 then
      let a := rs.foldl (fun (a : MacSum) r => a.addI 32 (s.ival t ⟨x.i0, r, 0, 0⟩ - t.zp)) ⟨0, Num.zero, false⟩
      let v := if t.qmode = 0 then Num.ofInt a.int else (Num.ofInt a.int).scaleBy (decodeF 14 (s.scaleCode t (t.group ⟨x.i0, 0, 0, 0⟩)))
      let e := s.elem w.out x (if mean then v.div nb else v)
      { e with sat := e.sat + b2n a.sat }
    else
      let v := fsum (rs.map (fun r => s.fval t ⟨x.i0, r, 0, 0⟩))
      s.elem w.out x (if mean then fdiv v nb else v))
  { o with oob := sumN ((List.range w.in1.d1).map (fun n => ((List.range w.in1.d0).filter (fun b => (row n b).isNone)).length)) }

/-- EMBED_SUM. -/
def execEmbedSum (w : WRef) (s : State) : Outcome State Fault Refusal := .next (s.runOp w 0x1F State.embedSum)

/-! ## TRANSPOSE and CONCAT -/

/-- TRANSPOSE of one work: PERM gives the source dimension of each dimension of OUT. -/
def State.transpose (s : State) (w : Work) : OpOut :=
  outOf w.out w.out.bytes (fun x =>
    ⟨s.code w.in0 ((List.range 4).foldl (fun (y : Ix) k => y.put (w.f 40 1 / 4 ^ k % 4) (x.at_ k)) ⟨0, 0, 0, 0⟩), 0, false⟩)

/-- TRANSPOSE. -/
def execTranspose (w : WRef) (s : State) : Outcome State Fault Refusal := .next (s.runOp w 0x0A State.transpose)

/-- CONCAT of one work. -/
def State.concat (s : State) (w : Work) : OpOut :=
  let ax := w.f 40 1
  let n := w.in0.dim ax
  outOf w.out w.out.bytes (fun x =>
    ⟨if x.at_ ax < n then s.code w.in0 x else s.code w.in1 (x.put ax (x.at_ ax - n)), 0, false⟩)

/-- CONCAT. -/
def execConcat (w : WRef) (s : State) : Outcome State Fault Refusal := .next (s.runOp w 0x0B State.concat)

end Sys2Proof.Machine
end

