-- ==== Sys2Proof/Machine/Quant.lean ====
section
/-! DEFINITION. Machine/Quant.lean: CONVERT, QSTATS, REQUANT and DEQUANT of the QSU, FILL and MOVE of the descriptor
engine (03; 04). -/

namespace Sys2Proof.Machine

open Host (Outcome)

/-! ## CONVERT, FILL, MOVE -/

/-- CONVERT (0x0C): each exact value by the conversion rules (04 R179). -/
def execConvert (w : WRef) (s : State) : Outcome State Fault Refusal :=
  .next (s.runOp w 0x0C (fun t k => outOf k.out k.in0.count (fun x => t.elem k.out x (t.val k.in0 x))))

/-- FILL (0x0D): VALUE converted to OUT's format. -/
def execFill (w : WRef) (s : State) : Outcome State Fault Refusal :=
  .next (s.runOp w 0x0D (fun t k => outOf k.out k.out.bytes (fun x => t.elem k.out x (k.fp 44))))

/-- MOVE (0x0E): codes as they are. -/
def execMove (w : WRef) (s : State) : Outcome State Fault Refusal :=
  .next (s.runOp w 0x0E (fun t k => outOf k.out k.out.bytes (fun x => ⟨t.code k.in0 x, 0, false⟩)))

/-! ## QSTATS (0x0F; 04 R190, R191) -/

/-- The greatest magnitude of a list: NaN from a NaN, +0 from zeros. -/
def maxAbs (l : List Num) : Num := l.foldl (fun a v => a.maxN v.abs) Num.zero

/-- QSTATS of one work. -/
def State.qstats (s : State) (w : Work) : OpOut :=
  let g := w.f 40 1
  outOf w.out w.in0.count (fun x =>
    s.elem w.out x (maxAbs ((w.in0.ixs.filter (fun y => (if g = 1 then y.i1 else if g = 2 then y.i0 else 0) = x.i0)).map (s.val w.in0))))

/-- QSTATS. -/
def execQstats (w : WRef) (s : State) : Outcome State Fault Refusal := .next (s.runOp w 0x0F State.qstats)

/-! ## REQUANT (0x10; 04 R192 to R194, R199 to R201) -/

/-- The loop of dyn_mult: the least sh, from the given one on, with qmax 2^sh not below a 2^30. -/
def dynShift : Nat → Nat → Nat → Nat → Nat
  | 0, sh, _, _ => sh
  | k + 1, sh, a, qmax => if qmax * 2 ^ sh < a * 2 ^ 30 then dynShift k (sh + 1) a qmax else sh

/-- dyn_mult (04 R193). -/
def dynMult (a qmax : Nat) : Int × Nat :=
  if a = 0 then (0, 0)
  else
    let sh := dynShift 64 0 a qmax
    let q := (qmax * 2 ^ sh + a / 2) / a
    if q = 0x80000000 then (0x40000000, sh - 1) else (q, sh)

/-- A group's multiplier and shift in AUX. -/
def State.auxPair (s : State) (t : Tens) (g : Nat) : Int × Int := (s.ival t ⟨0, g, 0, 0⟩, s.ival t ⟨1, g, 0, 0⟩)

/-- A legal pair (R201). -/
def pairOk (p : Int × Int) : Bool := (p.1 = 0 || (2 ^ 30 ≤ p.1 && p.1 ≤ 2 ^ 31 - 1)) && 0 ≤ p.2 && p.2 ≤ 62

/-- An element rescaled by a pair. -/
def requantElem (fmt : Nat) (acc m : Int) (sh : Nat) (z lo hi : Int) : Elem :=
  let r := requant acc m sh z lo hi
  ⟨ofS (fmtBits fmt) r.1, b2n r.2, false⟩

/-- REQUANT with the pairs of AUX. -/
def State.requantStatic (s : State) (w : Work) : OpOut :=
  let o := w.out
  let a := w.aux
  if !(List.range a.d1).all (fun g => pairOk (s.auxPair a g)) then s.undefOut o
  else
    outOf o w.in0.count (fun x =>
      let p := s.auxPair a (a.group x)
      requantElem o.fmt (s.ival w.in0 x) p.1 p.2.toNat o.zp (fmtMin o.fmt) (fmtMax o.fmt))

/-- max |acc| of row r. -/
def State.rowMax (s : State) (t : Tens) (r : Nat) : Nat :=
  ((t.ixs.filter (fun y => y.i1 = r)).map (fun y => (s.ival t y).natAbs)).foldl max 0

/-- REQUANT with DYNAMIC: OUT, the pairs in AUX, and OUT's scales. -/
def State.requantDynamic (s : State) (w : Work) : OpOut :=
  let o := w.out
  let i := w.in0
  let qmax : Nat := (fmtMax o.fmt).toNat
  let m := fun (r : Nat) => dynMult (s.rowMax i r) qmax
  let r0 := outOf o i.count (fun x =>
    let p := m x.i1
    requantElem o.fmt (s.ival i x) p.1 p.2 0 (-qmax) qmax)
  let rows := List.range i.d1
  { r0 with
    puts := r0.puts ++ (rows.map (fun r => [(w.aux, (⟨0, r, 0, 0⟩ : Ix), ofS 32 (m r).1), (w.aux, (⟨1, r, 0, 0⟩ : Ix), (m r).2)])).flatten
    raws := match o.scale with
      | none => []
      | some (sp, a) => rows.map (fun r =>
        let x := s.rowMax i r
        let v := if x = 0 then Num.zero
          else Num.divWith .nan ((decodeF 14 (s.scaleCode i (i.group ⟨0, r, 0, 0⟩))).scaleBy (Num.ofNat x)) (Num.ofNat qmax)
        (sp, a + 4 * r, leBytes 4 (f32 v))) }

/-- REQUANT. -/
def execRequant (w : WRef) (s : State) : Outcome State Fault Refusal :=
  .next (s.runOp w 0x10 (fun t k => if (k.f 40 1).testBit 0 then t.requantDynamic k else t.requantStatic k))

/-- DEQUANT (0x11): the value rounded to F32, then OUT's format (04 R203). -/
def execDequant (w : WRef) (s : State) : Outcome State Fault Refusal :=
  .next (s.runOp w 0x11 (fun t k => outOf k.out k.in0.count (fun x => t.elem k.out x (t.fval k.in0 x))))

end Sys2Proof.Machine
end

