-- ==== Sys2Proof/Machine/Tables.lean ====
section
/-! DEFINITION. Machine/Tables.lean: the table commands, Skidder, the flow ager, write-back, errors of the tables, and
Reel's moves of flow homes (12; 17 R849, R850). -/

namespace Sys2Proof.Machine

open Host (Outcome)

/-! ## Entries in index order -/

/-- Insert into a rising list without repeats. -/
def insN (k : Nat) : List Nat → List Nat
  | [] => [k]
  | j :: l => if k < j then k :: j :: l else if k = j then j :: l else j :: insN k l

/-- A list sorted rising, without repeats. -/
def sortN (l : List Nat) : List Nat := l.foldl (fun m k => insN k m) []

/-- Flow entries of [lo, hi) that may be VALID, rising: those whose FLAGS byte in HBM is not zero and those with a
line in a cache. -/
def State.flowListed (s : State) (lo hi : Nat) : List Nat :=
  let base := s.part.code.flowBase
  let inHbm := (s.mem.dev.filter (fun (c : Host.Cell) => decide (base ≤ c.1) && (c.1 - base) % 128 = 48)).map
    (fun (c : Host.Cell) => (c.1 - base) / 128)
  let cached := s.tab.caches.flatMap (fun m => m.map (·.1))
  sortN ((inHbm ++ cached).filter (fun i => lo ≤ i && i < hi))

/-- Entry idx as its home sees it. -/
def State.anyCtx (s : State) (idx : Nat) : Bytes := s.flowCtx ((s.holderOf idx).getD 0) idx

/-- Entries of the flow table. -/
def State.flowEntries (s : State) : Nat := 2 ^ s.part.code.flowLog2

/-- The VALID flow entries of [lo, hi), rising. -/
def State.flowValid (s : State) (lo hi : Nat) : List Nat := (s.flowListed lo hi).filter (fun i => ctxValid (s.anyCtx i))

/-! ## TABLE_QUERY (0x46) -/

/-- The partition a query is for admits partition p (ALL on queue 0). -/
def qryPart (e : Entry) (p : Nat) : Bool := (e.fld 17 1).testBit 4 || p = e.fld 17 1 % 16

/-- SEARCH: R603. -/
def tableQuerySearch (q i : Nat) (s : State) : State :=
  match s.entry q i with
  | none => s
  | some e0 =>
    if !s.hostGo q [e0.fld 24 8, e0.fld 32 8] then s.count P.dma R.dmaBmeWait
    else s.withCmd q i 0x46 (fun t e =>
      let p := t.qPart q
      let flow := e.fld 16 1 % 2 = 0
      let n := if flow then 48 else 8
      if (e.fld 16 1).testBit 1 then s
      else if t.spPoisoned p (e.fld 24 8) n then t.memError q i 0 (spaceAddr (e.fld 24 8))
      else
        let k := t.spRead p (e.fld 24 8) n
        let t1 := t.hostSide (e.fld 24 8) n false
        if flow then
          let ways := waysOf t.flowBuckets k
          match ways.find? (fun x => ctxValid (t.anyCtx x) && (t.anyCtx x).take 48 = k && qryPart e (ctxPart (t.anyCtx x))) with
          | some x => ((t1.spWrite p (e.fld 32 8) 0 (t.anyCtx x)).hostSide (e.fld 32 8) 128 true).finish q i St.success x
          | none =>
            let used := (ways.filter (fun x => ctxValid (t.anyCtx x) || (t.resvAt x).isSome)).length
            t1.finish q i St.tableMiss used
        else
          let l := t.stCopy 0
          match (stFind l k).filter (fun x => ((aget l x).map (fun en => qryPart e (stPart en))).getD false) with
          | some x => ((t1.spWrite p (e.fld 32 8) 0 ((aget l x).getD (zeros 16))).hostSide (e.fld 32 8) 16 true).finish q i St.success x
          | none => t1.finish q i St.tableMiss ((waysOf stationBuckets k).filter (fun x => (aget l x).isSome)).length)

/-- TABLE_QUERY_SEARCH. -/
def execTableQuerySearch (q i : Nat) (s : State) : Outcome State Fault Refusal := .next (tableQuerySearch q i s)

/-- NEXT: R604 to R606. -/
def tableQueryNext (q i : Nat) (s : State) : State :=
  match s.entry q i with
  | none => s
  | some e0 =>
    if !s.hostGo q [e0.fld 32 8, e0.fld 40 8] then s.count P.dma R.dmaBmeWait
    else s.withCmd q i 0x46 (fun t e =>
      let p := t.qPart q
      let flow := e.fld 16 1 % 2 = 0
      let total := if flow then t.flowEntries else 8 * stationBuckets
      let lo := e.fld 20 4
      let hi := min total (lo + 2 ^ 20)
      let st := t.stCopy 0
      if !(e.fld 16 1).testBit 1 then s
      else
        let found : List (Nat × Bytes) :=
          if flow then ((t.flowValid lo hi).map (fun x => (x, t.anyCtx x))).filter (fun (x : Nat × Bytes) => qryPart e (ctxPart x.2))
          else st.filter (fun (x : Nat × Bytes) => lo ≤ x.1 && x.1 < hi && qryPart e (stPart x.2))
        let got := found.take (e.fld 48 2)
        -- COUNT entries written: the next index follows the last one; else the end of the examined range
        let nxt := if got.length = e.fld 48 2 then ((got.getLast?.map (·.1)).getD hi) + 1 else hi
        let cur := if total ≤ nxt then 0xFFFFFFFF else nxt
        let body := (got.map (·.2)).flatten
        let idx := leBytes 4 cur ++ leBytes 4 got.length ++ (got.map (fun (x : Nat × Bytes) => leBytes 4 x.1)).flatten
        ((((t.spWrite p (e.fld 32 8) 0 body).spWrite p (e.fld 40 8) 0 idx).hostSide (e.fld 32 8) body.length true).hostSide
          (e.fld 40 8) idx.length true).finish q i St.success got.length)

/-- TABLE_QUERY_NEXT. -/
def execTableQueryNext (q i : Nat) (s : State) : Outcome State Fault Refusal := .next (tableQueryNext q i s)

/-! ## TABLE_WRITE (0x47) -/

/-- Run a TABLE_WRITE of the given OP with SRC's bytes: waits for its host side, ends on a poisoned source. -/
def State.tableWrite (s : State) (q i op : Nat) (k : State → Entry → Bytes → State) : State :=
  match s.entry q i with
  | none => s
  | some e0 =>
    if !s.hostGo q [e0.fld 24 8] then s.count P.dma R.dmaBmeWait
    else s.withCmd q i 0x47 (fun t e =>
      let p := t.qPart q
      if e.fld 16 1 % 4 ≠ op then s
      else if t.spPoisoned p (e.fld 24 8) 128 then t.memError q i 0 (spaceAddr (e.fld 24 8))
      else k (t.hostSide (e.fld 24 8) 128 false) e (t.spRead p (e.fld 24 8) 128))

/-- The context INSERT makes (R607). -/
def insertCtx (src : Bytes) (nowU : Nat) : Bytes :=
  let seen := if fieldLE src 60 4 = 0 then nowU else fieldLE src 60 4
  putAt (putAt (putAt (putAt src 48 (leBytes 1 (1 + 8 + (byteAt src 48 &&& 2)))) 60 (leBytes 4 seen)) 102 (leBytes 1 0)) 103 [0]

/-- A new entry at idx that no packet made: home die 0, uncached, its context in HBM; in CACHE_ONLY, in die 0's table. -/
def State.placeFlow (s : State) (idx : Nat) (c : Bytes) : State :=
  (if s.flowSplit then s.cacheLine 0 idx c true else s.devWrite (s.flowAddr idx) c).addFlow (ctxPart c) 1

/-- INSERT: R607, R608. -/
def tableWriteInsert (q i : Nat) (s : State) : State :=
  s.tableWrite q i 0 (fun t e src =>
    let p := e.fld 17 1 % 16
    let k := src.take 48
    let ways := waysOf t.flowBuckets k
    if byteAt src 0 ≠ p then t.finish q i St.badParam 24
    else match ways.find? (fun x => (ctxValid (t.anyCtx x) && (t.anyCtx x).take 48 = k) ||
        ((t.resvAt x).map (fun r => decide (r.key = k))).getD false) with
    | some x => t.finish q i St.tableExists x
    | none =>
      if t.maxFlows p ≤ t.flowCount p then t.finish q i St.noResource 0x50
      else
        let c := insertCtx src t.nowU
        match ways.find? (fun x => t.freeWay 0 x && !ctxValid (t.anyCtx x)) with
        | some x => (t.placeFlow x c).finish q i St.success x
        | none =>
          let v := t.flowVictim 0 k
          match v.2 with
          | some x => ((v.1.evictFlow 0 x).placeFlow x c).finish q i St.insertEvicted x
          | none => t.finish q i St.noResource 0x51)

/-- TABLE_WRITE_INSERT. -/
def execTableWriteInsert (q i : Nat) (s : State) : Outcome State Fault Refusal := .next (tableWriteInsert q i s)

/-- The entry an UPDATE or DELETE names, VALID in the partition. -/
def State.tableTarget (s : State) (e : Entry) (src : Bytes) : Option Nat :=
  let p := e.fld 17 1 % 16
  let ok := fun (x : Nat) => decide (x < s.flowEntries) && ctxValid (s.anyCtx x) && ctxPart (s.anyCtx x) = p
  if (e.fld 16 1).testBit 2 then (some (e.fld 20 4)).filter ok
  else (waysOf s.flowBuckets (src.take 48)).find? (fun x => ok x && (s.anyCtx x).take 48 = src.take 48)

/-- UPDATE: R609, R562. A mask of bytes that may not change has been refused at the grant. -/
def tableWriteUpdate (q i : Nat) (s : State) : State :=
  s.tableWrite q i 1 (fun t e src =>
    match t.tableTarget e src with
    | none => t.finishAny q i St.tableMiss
    | some x => (t.setCtx ((t.holderOf x).getD 0) x (maskedWrite (t.anyCtx x) src (e.fld 32 16))).finishAny q i St.success)

/-- TABLE_WRITE_UPDATE. -/
def execTableWriteUpdate (q i : Nat) (s : State) : Outcome State Fault Refusal := .next (tableWriteUpdate q i s)

/-- DELETE: R609. -/
def tableWriteDelete (q i : Nat) (s : State) : State :=
  s.tableWrite q i 2 (fun t e src =>
    match t.tableTarget e src with
    | none => t.finishAny q i St.tableMiss
    | some x => (t.clearFlow x).finishAny q i St.success)

/-- TABLE_WRITE_DELETE. -/
def execTableWriteDelete (q i : Nat) (s : State) : Outcome State Fault Refusal := .next (tableWriteDelete q i s)

/-! ## TABLE_FLUSH (0x59): R612 to R614, R373 to R375 -/

/-- An entry of the flow table matches the flush. -/
def flushFlow (e : Entry) (c : Bytes) : Bool :=
  let v := e.fld 17 1
  ctxValid c && (!ctxNoAge c || e.fld 18 1 % 2 = 1) &&
  (if (e.fld 16 1).testBit 1 then ctxPart c = v % 16 else byteAt c 101 % 64 = v % 64)

/-- An entry of the station table matches the flush. -/
def flushStation (e : Entry) (en : Bytes) : Bool :=
  let v := e.fld 17 1
  stFlag en 0 && (!stFlag en 1 || e.fld 18 1 % 2 = 1) &&
  (if (e.fld 16 1).testBit 1 then stPart en = v % 16 else stPort en % 64 = v % 64)

/-- Entries a table has: 0 flow, 1 station. -/
def State.tableSize (s : State) (tbl : Nat) : Nat := if tbl = 0 then s.flowEntries else 8 * stationBuckets

/-- Visit entries [lo, hi) of the table, removing those that match. -/
def State.flushRange (s : State) (e : Entry) (tbl lo hi : Nat) : State × Nat :=
  if tbl = 0 then
    let l := (s.flowValid lo hi).filter (fun x => flushFlow e (s.anyCtx x))
    (s.each l (fun t x => t.clearFlow x), l.length)
  else
    let l := ((s.stCopy 0).filter (fun (x : Nat × Bytes) => lo ≤ x.1 && x.1 < hi && flushStation e x.2)).map (·.1)
    (s.each l (fun t x => t.stPut x none), l.length)

/-- The flush cursor of a table. -/
def State.setCursor (s : State) (tbl v : Nat) : State :=
  if tbl = 0 then s.wr (P.flow 0) R.flowFlushCursor v else s.wr (P.station 0) R.stationFlushCursor v

/-- TABLE_FLUSH: its first run starts it at START; each run visits the entries that 1024 a µs reach by then. A run of
a flush with no time passed visits nothing; it retires when the end of the table is reached. -/
def tableFlush (i : Nat) (s : State) : State :=
  match s.entry 0 i with
  | none => s
  | some e =>
    let tbl := e.fld 16 1 % 2
    let go := fun (t : State) (at_ pos removed : Nat) =>
      let hi := min (t.tableSize tbl) (pos + 1024 * ((t.ns - at_) / 1000))
      let r := t.flushRange e tbl pos hi
      let n := removed + r.2
      let at1 := at_ + (t.ns - at_) / 1000 * 1000
      let t1 := (r.1.setCursor tbl hi)
      if t.tableSize tbl ≤ hi then
        let t2 := if tbl = 0 then t1.cause (P.flow 0) 9 else t1
        (t2.modTab (fun b => { b with flush := adel b.flush tbl })).finish 0 i St.success (satN 32 n)
      else t1.modTab (fun b => { b with flush := aput b.flush tbl [i, hi, at1, n] })
    match aget s.tab.flush tbl with
    | some l =>
      if l.getD 0 0 = i && e.st = .started then go s (l.getD 2 0) (l.getD 1 0) (l.getD 3 0)
      else s.withCmd 0 i 0x59 (fun t _ => t.finish 0 i St.noResource 0x52)
    | none => s.withCmd 0 i 0x59 (fun t e => go t t.ns (e.fld 20 4) 0)

/-- TABLE_FLUSH. -/
def execTableFlush (i : Nat) (s : State) : Outcome State Fault Refusal := .next (tableFlush i s)

/-! ## STATION_WRITE (0x5A): R610, R611 -/

/-- The station key of a STATION_WRITE. -/
def stwKey (e : Entry) : Bytes := (e.desc.drop 24).take 6 ++ beBytes 2 (e.fld 30 2 % 4096)

/-- Every present STATION page is READY. -/
def State.stationsReady (s : State) : Bool := (List.range s.part.code.ioDies).all (fun d => s.ready (P.station d))

/-- WRITE. -/
def stationWriteWrite (i : Nat) (s : State) : State :=
  s.withCmd 0 i 0x5A (fun t e =>
    if e.fld 16 1 % 2 ≠ 0 then s
    else if !t.stationsReady then t.finish 0 i St.noResource 0x21
    else
      let key := stwKey e
      let put := fun (u : State) (x mv : Nat) => (u.stPut x (some (stationEntry key (e.fld 33 1 % 16) (e.fld 32 1 % 64)
        (1 + 2 * (e.fld 17 1 % 2) + 4) mv))).finishAny 0 i St.success
      match stFind (t.stCopy 0) key with
      | some x => put t x (((aget (t.stCopy 0) x).map (fun en => fieldLE en 10 2)).getD 0)
      | none =>
        let v := t.stPlace key
        match v.2 with
        | some x => put v.1 x 0
        | none => t.finish 0 i St.noResource 0x53)

/-- STATION_WRITE_WRITE. -/
def execStationWriteWrite (i : Nat) (s : State) : Outcome State Fault Refusal := .next (stationWriteWrite i s)

/-- DELETE. -/
def stationWriteDelete (i : Nat) (s : State) : State :=
  s.withCmd 0 i 0x5A (fun t e =>
    if e.fld 16 1 % 2 ≠ 1 then s
    else if !t.stationsReady then t.finish 0 i St.noResource 0x21
    else match stFind (t.stCopy 0) (stwKey e) with
      | some x => (t.stPut x none).finishAny 0 i St.success
      | none => t.finishAny 0 i St.tableMiss)

/-- STATION_WRITE_DELETE. -/
def execStationWriteDelete (i : Nat) (s : State) : Outcome State Fault Refusal := .next (stationWriteDelete i s)

/-! ## Learning and Skidder -/

/-- I0 applies the oldest learn of a die (R593: in arrival order; one CK2 cycle's in ascending die order). -/
def stationLearnApply (die : Nat) (s : State) : State :=
  match s.tab.learns.find? (fun x => x.die = die) with
  | none => s
  | some x =>
    if !s.ready (P.station 0) then s
    else (s.applyLearn x).modTab (fun b => { b with learns := b.learns.erase x })

/-- STATION_LEARN_APPLY. -/
def execStationLearnApply (die : Nat) (s : State) : Outcome State Fault Refusal := .next (stationLearnApply die s)

/-- What a pass does to one entry (R600): none removes it. -/
def skid (e : Bytes) : Option Bytes :=
  if stFlag e 1 then some e
  else if stFlag e 2 then some (putAt e 9 (leBytes 1 (putBits (putBits (byteAt e 9) 2 1 0) 3 1 0)))
  else if stFlag e 3 then none
  else some (putAt e 9 (leBytes 1 (putBits (byteAt e 9) 3 1 1)))

/-- A pass over the primary, due at every multiple of the period (R599). -/
def skidderPass (s : State) : State :=
  let p := P.station 0
  let per := s.rd p R.stationSkidPeriod * 1000000
  if per = 0 || !s.ready p || s.ns / per ≤ s.tab.skidAt / per then s
  else
    let l := s.stCopy 0
    let gone := l.filter (fun (x : Nat × Bytes) => (skid x.2).isNone)
    let s1 := s.each l (fun t (x : Nat × Bytes) => t.stPut x.1 (skid x.2))
    let s2 := (s1.countN p R.stationAged gone.length).count p R.stationSkidPasses
    (s2.modTab (fun b => { b with skidAt := s.ns })).cause p 10

/-- SKIDDER_PASS. -/
def execSkidderPass (s : State) : Outcome State Fault Refusal := .next (skidderPass s)

/-! ## The flow ager (R584 to R587) -/

/-- The entry is removed by the ager now. -/
def State.agedOut (s : State) (idx : Nat) : Bool :=
  let c := s.anyCtx idx
  let t := s.rd (P.flow 0) (R.flowAgeT (byteAt c 51 % 8))
  ctxValid c && !ctxNoAge c && t ≠ 0 && !s.flowBusy idx && (s.resvAt idx).isNone && decide (t ≤ s.flowAge ((s.holderOf idx).getD 0) idx)

/-- Visit buckets [lo, hi) of the table. -/
def State.ageBuckets (s : State) (lo hi : Nat) : State :=
  s.each ((s.flowListed (8 * lo) (8 * hi)).filter s.agedOut) (fun t x =>
    ((t.clearFlow x).count (P.flow 0) R.flowAged).sentinel (P.flow 0) 3)

/-- The ager visits the buckets whose time has come, at FLOW_AGE_RATE a µs; a gap of a whole sweep or more visits
every bucket once. -/
def flowAger (s : State) : State :=
  let p := P.flow 0
  let us := (s.ns - s.tab.ageAt) / 1000
  if us = 0 || !s.ready p then s
  else
    let b := s.flowBuckets
    let due := us * s.rd p R.flowAgeRate
    let n := min b due
    let pos := s.tab.agePos
    let s1 := if pos + n ≤ b then s.ageBuckets pos (pos + n) else (s.ageBuckets pos b).ageBuckets 0 (pos + n - b)
    let s2 := s1.countN p R.flowAgePasses ((pos + due) / b)
    s2.modTab (fun t => { t with agePos := (pos + due) % b, ageAt := t.ageAt + us * 1000 })

/-- FLOW_AGER. -/
def execFlowAger (s : State) : Outcome State Fault Refusal := .next (flowAger s)

/-! ## Write-back and errors -/

/-- R582: a line dirty for FLOW_WB_INTERVAL, while its stack is READY. -/
def flowWriteback (die index : Nat) (s : State) : State :=
  match s.lineOf die index with
  | none => s
  | some l =>
    if l.dirty && l.dirtyAt + s.rd (P.flow 0) R.flowWbInterval * 1000 ≤ s.ns && s.stacksReady (s.flowAddr index) 128 && !s.flowSplit then
      s.writeBack die index
    else s

/-- FLOW_WRITEBACK. -/
def execFlowWriteback (die index : Nat) (s : State) : Outcome State Fault Refusal := .next (flowWriteback die index s)

/-- R615, on the home's page, or die 0's for an uncached entry. -/
def flowEccError (index : Nat) (s : State) : State :=
  if s.flowEntries ≤ index then s else s.flowEccAt ((s.holderOf index).getD 0) index

/-- FLOW_ECC_ERROR. -/
def execFlowEccError (index : Nat) (s : State) : Outcome State Fault Refusal := .next (flowEccError index s)

/-- R616: a primary entry is invalidated in every copy; a replica entry is copied again from the primary, and the lookup
that meets the error misses. -/
def stationParity (die index : Nat) (s : State) : State :=
  let p := P.station die
  if s.part.code.ioDies ≤ die || 8 * stationBuckets ≤ index || s.gated p then s
  else
    let s1 := if die = 0 then s.stPut index none else
      s.modTab (fun t => { t with
        station := t.station.modify die (fun m => match aget (s.stCopy 0) index with | some e => aput m index e | none => adel m index)
        parityMiss := (die, index) :: t.parityMiss.filter (· ≠ (die, index)) })
    ((s1.wr p R.stationParityIndex index).count p R.stationParity).cause p 8

/-- STATION_PARITY. -/
def execStationParity (die index : Nat) (s : State) : Outcome State Fault Refusal := .next (stationParity die index s)

/-! ## Reel's home moves (17 R849, R850; R571) -/

/-- Die d's set for entry idx has room or a line that may be displaced (R581). -/
def State.setRoom (s : State) (d idx : Nat) : Bool :=
  let lines := ((s.tab.caches[d]?).getD []).filter (fun (x : Nat × FlowLine) => decide (x.1 / 8 % 65536 = idx / 8 % 65536))
  lines.length < 8 || lines.any (fun x => !s.flowBusy x.1)

/-- The home move of a flow can complete. -/
def State.moveOk (s : State) (m : HomeMove) : Bool :=
  s.rd (P.flow m.target) R.pgStatusState = 3 && s.setRoom m.target m.flow && ctxValid (s.anyCtx m.flow)

/-- Move entry idx from its home to die d: written back, CACHED cleared, then taken. -/
def State.moveHome (s : State) (idx d : Nat) : State :=
  let h := (s.holderOf idx).getD 0
  let s1 := s.dropLine h idx
  let s2 := s1.cacheLine d idx (s1.devRead (s1.flowAddr idx) 128) false
  let s3 := (s2.count P.pwr R.reelHomeMoves).sentinel P.pwr 5
  { s3 with pwr := { s3.pwr with streaks := s3.pwr.streaks.filter (fun x => x.1 ≠ idx) } }

/-- REEL_HOME_MOVE: a streak of HOME_K starts the move; it completes once the old home has no commit pending. -/
def reelHomeMove (flow : Nat) (s : State) : State :=
  let done := fun (t : State) (m : HomeMove) =>
    if t.flowBusy flow || !t.moveOk m then t
    else (t.moveHome flow m.target).modTab (fun b => { b with moves := b.moves.erase m })
  match s.tab.moves.find? (fun m => m.flow = flow) with
  | some m => done s m
  | none =>
    let cfg := s.rd P.pwr R.reelCfg
    if !cfg.testBit 17 || s.loopFrozen 4 || s.flowSplit then s
    else match s.holderOf flow, s.pwr.streaks.find? (fun x => x.1 = flow) with
      | some h, some (_, d, n) =>
        if d = h || n < cfg / 256 % 64 then s
        else
          let m : HomeMove := ⟨flow, d⟩
          done (s.modTab (fun b => { b with moves := b.moves ++ [m] })) m
      | _, _ => s

/-- REEL_HOME_MOVE. -/
def execReelHomeMove (flow : Nat) (s : State) : Outcome State Fault Refusal := .next (reelHomeMove flow s)

/-- HOME_MOVE_CANCEL: R850. -/
def homeMoveCancel (flow : Nat) (s : State) : State :=
  match s.tab.moves.find? (fun m => m.flow = flow) with
  | none => s
  | some m =>
    if s.moveOk m then s
    else (s.modTab (fun b => { b with moves := b.moves.erase m })).count P.pwr R.reelHomeCancel

/-- HOME_MOVE_CANCEL. -/
def execHomeMoveCancel (flow : Nat) (s : State) : Outcome State Fault Refusal := .next (homeMoveCancel flow s)

/-! ## CACHE_ONLY ends (08 R379; R583) -/

/-- Write the caches back and keep, for each key held twice, the entry with the later LAST_SEEN (R583). Signed
comparison of 00 R13 orders LAST_SEEN; the lower die keeps among equals; two keys that
two dies hold at one index are treated the same way (log entry 44). -/
def State.mergeCaches (s : State) : State :=
  let all := (List.range 4).flatMap (fun d => ((s.tab.caches[d]?).getD []).map (fun (x : Nat × FlowLine) => (d, x.1, x.2.ctx)))
  let loses := fun (x : Nat × Nat × Bytes) => ctxValid x.2.2 && all.any (fun y =>
    y.1 ≠ x.1 && ctxValid y.2.2 && (y.2.2.take 48 = x.2.2.take 48 || y.2.1 = x.2.1) &&
      (seqLater 32 (fieldLE y.2.2 60 4) (fieldLE x.2.2 60 4) || (fieldLE y.2.2 60 4 = fieldLE x.2.2 60 4 && y.1 < x.1)))
  s.each (all.filter loses) (fun t x =>
    ((t.modCache x.1 (fun m => adel m x.2.1)).addFlow (ctxPart x.2.2) (-1)).count (P.flow x.1) R.flowMerge)

end Sys2Proof.Machine
end

