-- ==== Sys2Proof/Machine/Control.lean ====
section
/-! DEFINITION. Machine/Control.lean: the control operations, FLOW_READ, FLOW_WRITE, VERDICT_EMIT, which the
sequencer carries out itself (03 R1028), and tensor taps (18). -/

namespace Sys2Proof.Machine

open Host (Outcome)

/-- Run a step-only operation (R131): k and f act on the step's invocation; a single operation is never granted. -/
def State.runStep (s : State) (w : WRef) (code : Nat) (f : State → Work → Nat → Nat → Inv → State) : State :=
  match w with
  | .entry _ _ => s
  | .step n k =>
    match s.stepWork n k code, s.inv n with
    | some x, some v => if s.readsPoison x then s.memFail x else f s x n k v
    | _, _ => s

/-- Bytes of an operation's output, as raw codes of a U8 tensor of rank 1. -/
def rowOut (t : Tens) (bs : Bytes) : OpOut :=
  { OpOut.none_ with puts := ((List.range t.d0).zip bs).map (fun (x : Nat × Byte) => (t, (⟨x.1, 0, 0, 0⟩ : Ix), x.2.toNat)) }

/-- The codes of a U8 tensor of rank 1. -/
def State.rowIn (s : State) (t : Tens) : Bytes :=
  (List.range t.d0).map (fun i => BitVec.ofNat 8 (s.code t ⟨i, 0, 0, 0⟩))

/-- The code of a tensor of one element, as an unsigned number. -/
def State.oneCode (s : State) (t : Tens) : Nat := s.code t ⟨0, 0, 0, 0⟩

/-! ## WAIT_QUEUE (R1029; 02 R74 to R79; 13 R633) -/

/-- A task's idle invocation takes the next item of its queue: the run is built for the item's epoch, its WAIT_QUEUE
retires with the item in OUT. An item whose run cannot be built fails (R78). -/
def State.takeFirst (s : State) (n : Nat) (v0 : Inv) : State :=
  match aget s.fe.tasks v0.iq, aget s.fe.iqs v0.iq with
  | some t, some q =>
    match q.items with
    | [] => s
    | it :: rest =>
      if !t.takes || s.rst.stopped then s
      else
        let pop := fun (u : State) => { u with fe := { u.fe with
          iqs := aput u.fe.iqs v0.iq { q with items := rest }
          tasks := amod u.fe.tasks v0.iq (fun x => if x.stopping = 1 then { x with left := x.left - 1 } else x) } }
        let failed := fun (st d : Nat) =>
          ((pop s).modInv n (fun x => { x with item := some it, epoch := it.epoch, ended := true, fail := some (st, d) })).settleIdle v0.iq
        match s.servingBank t.mslot it.epoch with
        | none => failed St.badSlot t.mslot
        | some b =>
          let cs := s.clustersFor t.part t.mask
          let a := ((s.mslot t.mslot).bank b).base
          match s.patchVals a t.params t.patches with
          | .error i => failed St.badParam i
          | .ok pv =>
            if s.imgEntries a ≤ t.entryPt then failed St.badParam 18
            else if cs = [] then s
            else
              let v := s.buildRun ⟨t.queue, t.index, t.slot, t.part, t.mslot, b, it.epoch, t.entryPt, v0.iq, some it, cs⟩ pv
              let d0 := (v.ops.head?).getD []
              if !(fieldLE d0 0 1 = 0x18 && fieldLE d0 40 1 = v0.iq) then failed St.badParam 18
              else match s.runBad v with
                | some (st, d, h) => (failed st d).noteHit h
                | none =>
                  match s.freeScratch t.mslot b with
                  | none => s
                  | some c =>
                    let v1 := { (v.modStep v.first (fun x => { x with st := .started })) with waiting := false, scratch := some c }
                    let s1 := ((pop s).takeScratch t.mslot b c).modInv n (fun _ => v1)
                    let s2 := s1.armTaps n
                    match s2.stepWork n v.first 0x18 with
                    | some w =>
                      let s3 := s2.stepTrace w 0x28 it.epoch
                      (s3.perform w (rowOut w.out it.bytes)).settleIdle v0.iq
                    | none => s2
  | _, _ => s

/-- A later WAIT_QUEUE of a run takes a further item; it waits while there is none. -/
def State.takeMore (s : State) (w : Work) (n : Nat) (v : Inv) : State :=
  let iq := w.f 40 1
  match aget s.fe.iqs iq with
  | none => s
  | some q =>
    match q.items with
    | [] => s
    | it :: rest =>
      if v.part ≠ it.part then s
      else
        let s1 := { s with fe := { s.fe with iqs := aput s.fe.iqs iq { q with items := rest } } }
        (s1.modInv n (fun x => { x with extra := x.extra ++ [it] })).perform w (rowOut w.out it.bytes)

/-- WAIT_QUEUE (0x18): step 0 of an invocation that waits for an item is its WAIT_QUEUE. -/
def waitQueue (w : WRef) (s : State) : State :=
  match w with
  | .entry _ _ => s
  | .step n _ =>
    match s.inv n with
    | none => s
    | some v => if v.idle then s.takeFirst n v else s.runStep w 0x18 (fun t x m _ u => t.takeMore x m u)

/-- WAIT_QUEUE. -/
def execWaitQueue (w : WRef) (s : State) : Outcome State Fault Refusal := .next (waitQueue w s)

/-! ## PUSH_QUEUE -/

/-- PUSH_QUEUE (0x19): waits for credit, then the item goes in under the current epoch (05 R234) with a reference of its
own (13 R633). -/
def State.pushStep (s : State) (w : Work) (iq : Nat) : State :=
  let bs := s.rowIn w.in0
  let id := s.fe.nextItem
  let bs1 := putAt (putAt bs 0 (leBytes 4 id)) 6 (leBytes 2 s.epoch)
  let it : Item := ⟨id, bs1, s.epoch, w.part, fieldLE bs 4 1 % 4, none, false, fieldLE bs 12 4,
    s.classRec (fieldLE bs 8 1 % 8) (fieldLE bs 5 1), s.ns, s.ns⟩
  match s.pushItem iq it with
  | none => s
  | some s1 =>
    let s2 := { s1 with fe := { s1.fe with nextItem := (id + 1) % 2 ^ 32 } }
    (s2.drainBy s.epoch 1).perform w OpOut.none_

/-- PUSH_QUEUE: the input queue has a task, and lies in the partition's range. -/
def pushQueue (w : WRef) (s : State) : State :=
  s.runStep w 0x19 (fun t x _ _ v =>
    let iq := x.f 40 1
    if iq < t.iqBase v.part || t.iqBase v.part + t.iqCount v.part ≤ iq || (aget t.fe.tasks iq).isNone then t else t.pushStep x iq)

/-- PUSH_QUEUE. -/
def execPushQueue (w : WRef) (s : State) : Outcome State Fault Refusal := .next (pushQueue w s)

/-! ## SKIP_IF, BARRIER, MARK, DUMP_TAP (R145, R146; 18 R897, R924) -/

/-- A step is skipped: it retires without effect and counts as retired (R145). -/
def State.skipStep (s : State) (n k : Nat) : State :=
  match s.inv n with
  | none => s
  | some v =>
    match v.op k, v.step k with
    | some d, some st =>
      if st.st = .waiting then
        let w := s.invWork n k v d st
        ((s.modInv n (fun u => u.modStep k (fun y => { y with st := .skipped }))).stepCounts w).stepTrace w 0x29 St.success
      else s
    | _, _ => s

/-- SKIP_IF (0x1A): the next COUNT steps of its cluster that wait are skipped. -/
def skipIf (w : WRef) (s : State) : State :=
  s.runStep w 0x1A (fun t x n k v =>
    let zero := (t.val x.in0 ⟨0, 0, 0, 0⟩).isZero
    let skip := if (x.f 40 1).testBit 0 then zero else !zero
    let d := (v.op k).getD []
    let t1 := if skip then
        t.each ((List.range v.ops.length).filter (fun i => v.skipReaches k (v.first + i) d)) (fun u i => u.skipStep n (v.first + i))
      else t
    t1.perform x OpOut.none_)

/-- SKIP_IF. -/
def execSkipIf (w : WRef) (s : State) : Outcome State Fault Refusal := .next (skipIf w s)

/-- The BARRIER steps of a run with an ID on a logical cluster, in step order. -/
def Inv.barriers (v : Inv) (id c : Nat) : List Nat :=
  ((List.range v.ops.length).map (· + v.first)).filter (fun k => match v.op k with
    | some d => fieldLE d 0 1 = 0x1B && fieldLE d 40 1 = id && fieldLE d 64 1 = c
    | none => false)

/-- BARRIER (0x1B): completes once every cluster that has a step with its ID, the r-th for its own r-th, has reached or
skipped it. -/
def barrier (w : WRef) (s : State) : State :=
  s.runStep w 0x1B (fun t x _ k v =>
    let id := x.f 40 1
    let home := fieldLE ((v.op k).getD []) 64 1
    let r := ((v.barriers id home).findIdx? (· = k)).getD 0
    if (List.range 16).all (fun c => match (v.barriers id c)[r]? with
        | none => true
        | some j => (v.step j).any (fun y => y.st ≠ .waiting)) then t.perform x OpOut.none_
    else t)

/-- BARRIER. -/
def execBarrier (w : WRef) (s : State) : Outcome State Fault Refusal := .next (barrier w s)

/-- MARK (0x1C): R897 to R900. A single operation is an invocation of its own, in which no marker pairs. -/
def markOp (w : WRef) (s : State) : State :=
  match s.work w 0x1C with
  | none => s
  | some x =>
    let m := x.f 40 2
    let e := (x.f 42 1).testBit 0
    let src := 48 + x.cluster
    let tr := fun (t : State) => t.trace src 0x30 x.part [(16, 2, m), (18, 1, b2n e), (19, 1, x.slot), (20, 2, x.queue), (22, 2, x.step)]
    match w with
    | .step n _ => ((tr s).marker m e src (n + 1) x.part).perform x OpOut.none_
    | .entry _ _ => (if e then (tr s).onAccs m x.part (fun a => { a with orphans := (a.orphans + 1) % 2 ^ 32 }) else tr s).runOp w 0x1C (fun _ _ => OpOut.none_)

/-- MARK. -/
def execMark (w : WRef) (s : State) : Outcome State Fault Refusal := .next (markOp w s)

/-- DUMP_TAP (0x1D): a capture of IN0 is due for each armed DUMP entry with its TAP value. -/
def dumpTap (w : WRef) (s : State) : State :=
  match w with
  | .entry _ _ => s.runOp w 0x1D (fun _ _ => OpOut.none_)
  | .step n k =>
    s.runStep w 0x1D (fun t x _ _ v =>
      let due := v.taps.filter (fun i =>
        let b := (aget t.obs.taps i).getD []
        (fieldLE b 0 1).testBit 1 && fieldLE b 2 2 = x.f 40 2)
      ({ t with obs := { t.obs with tapDue := t.obs.tapDue ++ due.map (fun i => (⟨n, k, i, t.fns, t.time.ck4⟩ : TapDue)) } }).perform x OpOut.none_)

/-- DUMP_TAP. -/
def execDumpTap (w : WRef) (s : State) : Outcome State Fault Refusal := .next (dumpTap w s)

/-! ## FLOW_READ, FLOW_WRITE (12 R575 to R580) -/

/-- The item of a run whose packet's flow has this handle. -/
def Inv.ownItem (v : Inv) (h : Nat) : Option Item :=
  ((match v.item with | some i => [i] | none => []) ++ v.extra).find? (fun i => i.pkt.isSome && i.flow = h)

/-- The die a run's flow accesses come from: its item's, or die 0. -/
def Inv.die (v : Inv) : Nat := (v.item.map (·.die)).getD 0

/-- The committed context behind a handle (R580). -/
def State.flowRead (s : State) (d h : Nat) : Bytes :=
  let idx := h % 2 ^ 28
  let c := s.flowCtx d idx
  if s.flowEntries ≤ idx then zeros 128
  else match s.resvAt idx with
    | some r => padTo 128 (padTo 48 r.key)
    | none => if ctxValid c && ctxPart c = h / 2 ^ 28 % 16 then c else zeros 128

/-- FLOW_READ (0x15). -/
def execFlowRead (w : WRef) (s : State) : Outcome State Fault Refusal :=
  .next (s.runStep w 0x15 (fun t x _ _ v => t.perform x { rowOut x.out (t.flowRead v.die (t.oneCode x.aux)) with work := 128 }))

/-- FLOW_WRITE (0x16): for the item's own packet and handle its tail-pending slot, else at once (R575 to R577). -/
def execFlowWrite (w : WRef) (s : State) : Outcome State Fault Refusal :=
  .next (s.runStep w 0x16 (fun t x _ _ v =>
    let h := t.oneCode x.aux
    let src := t.rowIn x.in0
    let mask := x.f 40 16
    let t1 := match (v.ownItem h).bind (fun i => i.pkt) with
      | some k => if (t.pkt k).isSome then t.flowStoreFor k h src mask else t.flowStoreNow v.die h none src mask
      | none => t.flowStoreNow v.die h none src mask
    t1.perform x { OpOut.none_ with work := 128 }))

/-! ## VERDICT_EMIT (13 R648 to R652) -/

/-- No packet has this number: the verdict of an item that a graph pushed. -/
def noPkt : Nat := 2 ^ 64

/-- A record that may be emitted for an item of a partition (R649, R650). -/
def State.verdictOk (s : State) (p : Nat) (r : Bytes) : Bool :=
  actEncOk (r.take 8) true && s.actPortsOk p (r.take 8) && byteAt r 12 < 2 && (r.drop 13).all (· = 0) && (!actBit r 6 || vrValid r)

/-- VERDICT_EMIT (0x17): the record of an item outstanding on this run goes to the item's die. -/
def verdictEmit (w : WRef) (s : State) : State :=
  s.runStep w 0x17 (fun t x n _ v =>
    let r := t.rowIn x.in0
    let id := t.oneCode x.aux
    match ((match v.item with | some i => [i] | none => []) ++ v.extra).find? (fun i => i.id = id) with
    | none => (t.countP (P.verdict v.die) R.verdictStale v.part).perform x { OpOut.none_ with work := 32 }
    | some it =>
      if v.verdicts.contains id then (t.countP (P.verdict it.die) R.verdictStale it.part).perform x { OpOut.none_ with work := 32 }
      else if !t.verdictOk it.part r then t.perform x { OpOut.none_ with fail := some St.execFault }
      else
        let msg : VerdictMsg := ⟨it.die, id, it.pkt.getD noPkt, r, it.epoch, it.stampAt, it.flow, it.part, fieldLE it.bytes 5 1, it.clsRec,
          it.held, (fieldLE it.bytes 4 1).testBit 5⟩
        let t1 := t.modPath (fun y => { y with verdicts := y.verdicts ++ [msg] })
        (t1.modInv n (fun u => { u with verdicts := u.verdicts ++ [id] })).perform x { OpOut.none_ with work := 32 })

/-- VERDICT_EMIT. -/
def execVerdictEmit (w : WRef) (s : State) : Outcome State Fault Refusal := .next (verdictEmit w s)

/-! ## TAP_CAPTURE (18 R921 to R927, R932) -/

/-- The tensor's elements in logical order, packed (R925; 03 R132). -/
def State.tapData (s : State) (t : Tens) : Bytes :=
  (t.rows.map (fun a => (s.spaceRead t.sp a t.rowBytes).map (fun b => if fmtBits t.fmt = 6 then b &&& 0x3F else b))).flatten

/-- The 64 bytes of a tap record's header. len: RECORD_BYTES. -/
def tapHeader (len entry flags mslot part step epoch fmt rank tap : Nat) (dims : List Nat) (data ft ck4 queue idx item lost : Nat) : Bytes :=
  leBytes 4 0x31504154 ++ leBytes 4 len ++ leBytes 1 entry ++ leBytes 1 flags ++ leBytes 1 mslot ++ leBytes 1 part ++ leBytes 2 step ++
  leBytes 2 epoch ++ leBytes 1 fmt ++ leBytes 1 rank ++ leBytes 2 tap ++ (dims.map (leBytes 4)).flatten ++ leBytes 4 data ++ leBytes 8 ft ++
  leBytes 4 ck4 ++ leBytes 2 queue ++ leBytes 2 idx ++ leBytes 4 item ++ leBytes 4 lost

/-- A capture is lost (R927). -/
def State.tapLose (s : State) (entry : Nat) (full : Bool) : State :=
  let c := (aget s.obs.tapCnt entry).getD ⟨0, 0⟩
  let s1 := { s with obs := { s.obs with tapCnt := aput s.obs.tapCnt entry { c with lost := satN 32 (c.lost + 1) } } }
  let s2 := (((s1.count P.obsTap R.tapLost).sentinel P.obs 5).cause P.obsTap 9)
  if full then s2.cause P.obsTap 8 else s2

/-- Write a capture into the ring, after a PAD record where it would cross the ring's end. -/
def State.tapWrite (s : State) (x : TapDue) (v : Inv) (b : Bytes) (t : Tens) (cluster : Nat) : State :=
  let base := s.rd P.obsTap R.tapBase
  let ring := 2 ^ s.rd P.obsTap R.tapLog2
  let dump := (fieldLE b 0 1).testBit 1
  let all := s.tapData t
  let cap := if fieldLE b 8 4 = 0 then 2 ^ 30 else fieldLE b 8 4
  let data := all.take cap
  let len := 64 + roundUp data.length 64
  let wr := s.rd P.obsTap R.tapWr
  let off := wr % ring
  let pad := if ring < off + len then ring - off else 0
  let full := ring < len || (!s.on P.obsTap R.tapCtrlWrap && s.rd P.obsTap R.tapRd + ring < wr + pad + len)
  let s0 := s.refilled
  if full then s0.tapLose x.entry true
  else if s.rd P.obs R.obsBudgetTap = 0 || s0.obs.tapTokens ≤ 0 then s0.tapLose x.entry false
  else
    let c := (aget s.obs.tapCnt x.entry).getD ⟨0, 0⟩
    let flags := b2n (data.length < all.length) + 4 * b2n dump
    let hdr := tapHeader len x.entry flags v.mslot v.part x.step v.epoch t.fmt t.rank (if dump then fieldLE b 2 2 else 0) [t.d0, t.d1, t.d2, t.d3]
      data.length x.ft x.ck4 v.queue v.index ((v.item.map (·.id)).getD 0xFFFFFFFF) c.lost
    let s1 := if pad = 0 then s0 else s0.ringWrite base off (tapHeader pad 0 2 0 0 0 0 0 0 0 [0, 0, 0, 0] 0 0 0 0 0 0 0)
    let at_ := (off + pad) % ring
    let s2 := ((s1.ringWrite base at_ (hdr ++ padTo (len - 64) data)).wr P.obsTap R.tapWr (wr + pad + len))
    let s3 := ((s2.count P.obsTap R.tapCaptures).countN P.obsTap R.tapBytes data.length).sentinel P.obs 3
    let s4 := { s3 with obs := { s3.obs with
      tapTokens := s3.obs.tapTokens - ((len * 10 ^ 12 : Nat) : Int)
      tapCnt := aput s3.obs.tapCnt x.entry { c with lost := 0 }
      taps := if (fieldLE b 0 1).testBit 3 then amod s3.obs.taps x.entry (fun e => putAt e 0 (leBytes 1 (putBits (fieldLE e 0 1) 0 1 0))) else s3.obs.taps } }
    s4.trace (48 + cluster) 0x50 v.part [(16, 1, x.entry), (20, 8, wr + pad), (28, 4, len)]

/-- TAP_CAPTURE: a capture due of a retired step is made, lost, or, where its feature records nothing, dropped (R906,
R936). -/
def tapCapture (n k e : Nat) (s : State) : State :=
  match s.obs.tapDue.find? (fun x => x.inv = n && x.step = k && x.entry = e), s.inv n with
  | some x, some v =>
    let s1 := { s with obs := { s.obs with tapDue := s.obs.tapDue.erase x } }
    let b := (aget s.obs.taps e).getD []
    let off := !s.on P.obsTap R.tapCtrlEnable || s.gated P.obsTap || (s.frozen && s.on P.obs R.obsFreezeStopTaps)
    match s.tapTensor v k e, v.op k, v.step k with
    | some i, some d, some st =>
      if off then s1.settleInv n
      else if !s.ringGo (s.rd P.obsTap R.tapBase) then s.count P.dma R.dmaBmeWait
      else
        let a := s.invBase v
        (match (v.tensors[i]?).map (tensOf v.tensors v.part (v.homeOf d) (s.imgConstAt a) (s.imgScratchAt a (v.scratch.getD 0))) with
          | some t => s1.tapWrite x v b t st.cluster
          | none => s1).settleInv n
    | _, _, _ => s1.settleInv n
  | _, _ => s

/-- TAP_CAPTURE. -/
def execTapCapture (inv step entry : Nat) (s : State) : Outcome State Fault Refusal := .next (tapCapture inv step entry s)

end Sys2Proof.Machine
end

