-- ==== Sys2Proof/Machine/Forest.lean ====
section
/-! DEFINITION. Machine/Forest.lean: the Forest Engine: FEATURE_PREP, FOREST_EVAL, residency, FE_FLUSH (14). -/

namespace Sys2Proof.Machine

open Host (Outcome)

/-! ## The engine of a step, residency (R691 to R694, R703) -/

/-- The Forest Engine of cluster c may run a step. -/
def State.forestUp (s : State) (c : Nat) : Bool := s.ready (P.forest c) && !s.gated (P.forest c)

/-- The engine a step runs on: its cluster's, else that of the lowest-numbered cluster of its launch that has a READY
one (R703). -/
def State.forestEngine (s : State) (w : Work) : Option Nat :=
  if s.forestUp w.cluster then some w.cluster
  else
    let cs := match w.ref with
      | .entry _ _ => s.clustersFor w.part 0
      | .step n _ => ((s.inv n).map (fun (v : Inv) => v.clusters)).getD []
    (List.range 16).find? (fun c => cs.contains c && s.forestUp c)

/-- The longest run of most recently used residents, at most k of them, whose bytes lie within cap. -/
def keepFit : Nat → Nat → List Resident → List Resident
  | 0, _, _ => []
  | _, _, [] => []
  | k + 1, cap, r :: rs => if r.bytes.length ≤ cap then r :: keepFit k (cap - r.bytes.length) rs else []

/-- Load a forest or a prep table of engine e from physical address addr, unless it is resident; const: it comes from a
CONST tensor and will be held. -/
def State.forestLoad (s : State) (e part : Nat) (table const : Bool) (addr : Nat) (bytes : Bytes) : State :=
  let p := P.forest e
  let mine := s.mem.forest.filter (fun r => r.cluster = e && r.table = table)
  let others := s.mem.forest.filter (fun r => !(r.cluster = e && r.table = table))
  let this : Resident := ⟨e, table, addr, bytes⟩
  if const && mine.any (fun r => r.addr = addr && r.bytes.length = bytes.length) then
    let s1 := { s with mem := { s.mem with
      forest := mine.filter (fun r => r.addr = addr && r.bytes.length = bytes.length) ++
        mine.filter (fun r => !(r.addr = addr && r.bytes.length = bytes.length)) ++ others } }
    if table then s1 else s1.countPN p R.feResHit 1 part
  else
    let kept := keepFit (if const then 7 else 8) ((if table then 2 ^ 19 else 2 ^ 22) - bytes.length) mine
    let out := mine.length - kept.length
    let s1 := { s with mem := { s.mem with forest := (if const then [this] else []) ++ kept ++ others } }
    let s2 := ((s1.countPN p R.feLoadBytes bytes.length part).sentinel p 2)
    let s3 := if table then s2 else s2.countPN p R.feResMiss 1 part
    if out = 0 then s3 else (s3.countPN p R.feEvict out part).sentinelN p 3 out

/-- What fails is not kept resident (R699). -/
def State.forestDrop (s : State) (e : Nat) (table : Bool) (addr size : Nat) : State :=
  { s with mem := { s.mem with forest := s.mem.forest.filter (fun r =>
      !(r.cluster = e && r.table = table && r.addr = addr && r.bytes.length = size)) } }

/-- The IN1 of a step as bytes; whether it is CONST; its physical address there. -/
def State.in1Bytes (s : State) (w : Work) (n : Nat) : Bytes := s.spaceRead w.in1.sp w.in1.base n
def Work.in1Const (w : Work) : Bool := match w.entry 2 with | some b => fieldLE b 64 1 = 1 && fieldLE b 8 1 = 0 | none => false

/-- The bytes that engine e evaluates from: those held where resident. -/
def State.heldBytes (s : State) (e : Nat) (table : Bool) (w : Work) (bytes : Bytes) : Bytes :=
  if w.in1Const then
    ((s.mem.forest.find? (fun r => r.cluster = e && r.table = table && r.addr = w.in1.base && r.bytes.length = bytes.length)).map (·.bytes)).getD bytes
  else bytes

/-- Run a Forest Engine operation: body answers the state after its loads and counts, and what it gives. -/
def State.runForest (s : State) (w : WRef) (code : Nat) (body : State → Work → Nat → State × OpOut) : State :=
  match s.work w code with
  | none => s
  | some k =>
    let go := fun (t : State) (e : Nat) =>
      if t.readsPoison k then t.memFail k
      else
        let r := body t k e
        if r.2.fail.isSome then (r.1.perform k r.2).cause (P.forest e) 9
        else (r.1.sentinel (P.forest e) 0).perform k r.2
    match w with
    | .entry q i =>
      (match s.opReject k with
        | some (st, d) => s.draw.finish q i st d
        | none => match s.forestEngine k with
          | none => s.draw.finish q i St.noResource 0x61
          | some e => go ((s.draw.startEntry q i).stepTrace k 0x28 k.epoch) e)
    | .step _ _ => (match s.forestEngine k with
        | none => s
        | some e => go s e)

/-! ## FEATURE_PREP (R677 to R681, R697, R700) -/

/-- Record p of a prep table, and its fields. -/
def prepRec (tab : Bytes) (p : Nat) : Bytes := (tab.drop (16 * p)).take 16
def prepBound (tab : Bytes) (feats r k : Nat) : Nat := fieldLE tab (16 * feats + 4 * r + 4 * k) 4

/-- Record p is sound, for R raw columns and feats records (R700). -/
def prepOk (tab : Bytes) (feats raw p : Nat) : Bool :=
  let r := prepRec tab p
  let kind := fieldLE r 0 1
  let cnt := fieldLE r 6 2
  let boff := fieldLE r 8 4
  let num := fun (k : Nat) => decodeF 14 (prepBound tab feats boff k)
  kind < 3 &&
  (if kind = 0 then
    fieldLE r 1 1 < 255 && fieldLE r 2 2 < raw && fieldLE r 4 2 = 0 && fieldLE r 12 4 = 0 && 1 ≤ cnt && cnt ≤ 254 &&
    16 * feats + 4 * boff + 4 * cnt ≤ tab.length && !(num 0).isNan && (List.range (cnt - 1)).all (fun k => Num.lt (num k) (num (k + 1)))
  else if kind = 1 then fieldLE r 1 1 < 255 && fieldLE r 2 2 < raw && fieldLE r 4 4 = 0
  else fieldLE r 1 1 = 0 && fieldLE r 2 2 < p && fieldLE r 4 2 < p && 2 ≤ cnt && cnt ≤ 255 && fieldLE r 12 4 = 0)

/-- One prepared value from the raw values and the bins of the row so far; NaN mapped, clamped. -/
def prepVal (tab : Bytes) (feats p : Nat) (v : Nat → Num) (done : List Nat) : Nat × Bool × Bool :=
  let r := prepRec tab p
  let kind := fieldLE r 0 1
  let nanBin := fieldLE r 1 1
  let src := fieldLE r 2 2
  if kind = 0 then
    let x := v src
    if x.isNan then (nanBin, true, false)
    else (((List.range (fieldLE r 6 2)).filter (fun k => !Num.lt x (decodeF 14 (prepBound tab feats (fieldLE r 8 4) k)))).length, false, false)
  else if kind = 1 then
    match ffma (r32 (v src)) (decodeF 14 (fieldLE r 8 4)) (decodeF 14 (fieldLE r 12 4)) with
    | .nan => (nanBin, true, false)
    | .inf neg => (if neg then 0 else 254, false, true)
    | .fin neg n d =>
      let y := awayI neg n d
      ((clampI y 0 254).toNat, false, decide (y < 0) || decide (254 < y))
  else
    let x := fun (i : Nat) => BitVec.ofNat 8 ((done[i]?).getD 0)
    (crc32c (leBytes 4 (fieldLE r 8 4) ++ [x src, x (fieldLE r 4 2)]) % max 1 (fieldLE r 6 2), false, false)

/-- A row of prepared values in ascending column order. -/
def prepRow (tab : Bytes) (feats : Nat) (v : Nat → Num) : List (Nat × Bool × Bool) :=
  (List.range feats).foldl (fun acc p => acc ++ [prepVal tab feats p v (acc.map (·.1))]) []

/-- FEATURE_PREP of one work on engine e. -/
def State.featurePrep (s : State) (w : Work) (e : Nat) : State × OpOut :=
  let p := P.forest e
  let feats := w.f 40 2
  let a := w.in0
  let raw := s.in1Bytes w w.in1.d0
  let tab := s.heldBytes e true w raw
  let s1 := s.forestLoad e w.part true w.in1Const w.in1.base raw
  if !(List.range feats).all (prepOk tab feats a.d0) then
    let u := s1.forestDrop e true w.in1.base raw.length
    (u, u.undefOut w.out)
  else
    let rows := (List.range a.d1).map (fun i => prepRow tab feats (fun c => s.val a ⟨c, i, 0, 0⟩))
    let nans := sumN (rows.map (fun r => (r.filter (fun x => x.2.1)).length))
    let clamps := sumN (rows.map (fun r => (r.filter (fun x => x.2.2)).length))
    let puts := (((List.range a.d1).zip rows).map (fun (x : Nat × List (Nat × Bool × Bool)) =>
      (List.range feats).zipWith (fun c (y : Nat × Bool × Bool) => (w.out, (⟨c, x.1, 0, 0⟩ : Ix), y.1)) x.2)).flatten
    let s2 := s1.when (nans ≠ 0) (fun t => t.countPN p R.fePrepNan nans w.part)
    let s3 := s2.when (clamps ≠ 0) (fun t => t.countPN p R.fePrepClamp clamps w.part)
    (s3, { OpOut.none_ with puts := puts, work := a.d1 * feats })

/-- FEATURE_PREP (0x12). -/
def execFeaturePrep (w : WRef) (s : State) : Outcome State Fault Refusal := .next (s.runForest w 0x12 State.featurePrep)

/-! ## FOREST_EVAL (R683 to R691, R695, R699) -/

/-- Header fields of a forest. -/
def fDepth (f : Bytes) : Nat := fieldLE f 4 1
def fLeaf (f : Bytes) : Nat := fieldLE f 5 1
def fTrees (f : Bytes) : Nat := fieldLE f 8 4
def fMin (f : Bytes) : Nat := fieldLE f 12 2
def fStride (f : Bytes) : Nat := fieldLE f 16 4
def leafBytes (fmt : Nat) : Nat := if fmt = 0 then 2 else if fmt = 1 then 4 else 1

/-- The header is sound for a step (R699); size: bytes of the tensor. -/
def forestHeaderOk (f : Bytes) (w : Work) (size : Nat) (stream vote : Bool) : Bool :=
  let d := fDepth f
  let full := 320 + fTrees f * fStride f
  fieldLE f 0 4 = 0x31545346 && 1 ≤ d && d ≤ 8 && (if vote then fLeaf f = 2 else fLeaf f < 2) && fieldLE f 6 1 = w.f 44 1 &&
  1 ≤ fTrees f && fTrees f ≤ 2 ^ 20 && fStride f = roundUp (2 ^ d * (4 + leafBytes (fLeaf f))) 64 && full ≤ size &&
  w.f 42 2 ≤ fTrees f && (stream || (fTrees f ≤ 4096 && full ≤ 2 ^ 22)) && 1 ≤ fMin f && fMin f ≤ 1024 && fMin f ≤ w.in0.d0 &&
  fieldLE f 7 1 = 0 && fieldLE f 14 2 = 0 && ((f.drop 20).take 44).all (· = 0) &&
  ((f.drop (64 + 4 * w.f 44 1)).take (256 - 4 * w.f 44 1)).all (· = 0)

/-- Tree t of a forest is sound (R699). -/
def treeOk (f : Bytes) (classes t : Nat) : Bool :=
  let n := 2 ^ fDepth f
  let b := (f.drop (320 + t * fStride f)).take (fStride f)
  fieldLE b 0 4 < classes &&
  (List.range (n - 1)).all (fun k =>
    let x := fieldLE b (4 * (k + 1)) 4
    x % 2 ^ 10 < fMin f && bits x 10 6 = 0 && x / 2 ^ 24 = 0) &&
  (fLeaf f ≠ 2 || (List.range n).all (fun k => fieldLE b (4 * n + k) 1 < classes || fieldLE b (4 * n + k) 1 = 255))

/-- The index that D comparisons reach from node i (R684). -/
def walkTree (b : Bytes) (x : Nat → Nat) : Nat → Nat → Nat
  | 0, i => i
  | d + 1, i =>
    let v := fieldLE b (4 * i) 4
    walkTree b x d (2 * i + b2n (bits v 16 8 < x (v % 2 ^ 10)))

/-- The leaf of tree t for a row, as the number its format spells. -/
def treeLeaf (f : Bytes) (x : Nat → Nat) (t : Nat) : Int :=
  let n := 2 ^ fDepth f
  let b := (f.drop (320 + t * fStride f)).take (fStride f)
  let k := walkTree b x (fDepth f) 1 - n
  if fLeaf f = 0 then toS 16 (fieldLE b (4 * n + 2 * k) 2) else if fLeaf f = 1 then toS 32 (fieldLE b (4 * n + 4 * k) 4)
  else (fieldLE b (4 * n + k) 1 : Nat)

/-- The class that tree t's leaves add to. -/
def treeClass (f : Bytes) (t : Nat) : Nat := fieldLE f (320 + t * fStride f) 4 % 64

/-- The totals of a row over trees 0 to m - 1 (14, Ensemble combination). -/
def forestTotals (f : Bytes) (vote : Bool) (classes m : Nat) (x : Nat → Nat) : List Int :=
  let start := (List.range classes).map (fun c => if vote then (0 : Int) else toS 32 (fieldLE f (64 + 4 * c) 4))
  (List.range m).foldl (fun acc t =>
    let l := treeLeaf f x t
    if vote then (if l = 255 then acc else acc.modify l.toNat (· + 1)) else acc.modify (treeClass f t) (· + l)) start

/-- FOREST_EVAL of one work on engine e. -/
def State.forestEval (s : State) (w : Work) (e : Nat) : State × OpOut :=
  let p := P.forest e
  let stream := (w.f 40 1).testBit 0
  let vote := bits (w.f 40 1) 1 2 = 1
  let classes := w.f 44 1
  let sh := w.f 45 1 % 32
  let a := w.in0
  let hdr := s.in1Bytes w (min 320 w.in1.d0)
  if !forestHeaderOk hdr w w.in1.d0 stream vote then (s, s.undefOut w.out)
  else
    let m := if w.f 42 2 = 0 then fTrees hdr else w.f 42 2
    let size := 320 + (if stream then m else fTrees hdr) * fStride hdr
    let raw := s.in1Bytes w size
    let f := if stream then raw else s.heldBytes e false w raw
    let s1 := if stream then s else s.forestLoad e w.part false w.in1Const w.in1.base raw
    if !(List.range (if stream then m else fTrees hdr)).all (treeOk f classes) then
      let u := s1.forestDrop e false w.in1.base raw.length
      (u, u.undefOut w.out)
    else
      let rows := (List.range a.d1).map (fun i => forestTotals f vote classes m (fun c => s.code a ⟨c, i, 0, 0⟩))
      let cell := fun (v : Int) => if w.out.fmt = 14 then (f32 (.fin (v < 0) v.natAbs (2 ^ sh)), false)
        else if vote then encodeI w.out.fmt v else encodeI 13 (awayI (v < 0) v.natAbs (2 ^ sh))
      let sat := sumN (rows.map (fun r => (r.filter (fun v => (cell v).2)).length))
      let puts := (((List.range a.d1).zip rows).map (fun (x : Nat × List Int) =>
        (List.range classes).zipWith (fun c v => (w.out, (⟨c, x.1, 0, 0⟩ : Ix), (cell v).1)) x.2)).flatten
      let rbuf := min 65535 (16 * (262144 / (16 * roundUp a.d0 64)))
      let s2 := if stream then s1.countPN p R.feStreamBytes (ceilDiv a.d1 (max 1 rbuf) * m * fStride hdr) w.part else s1
      let s3 := ((s2.countPN p R.feRows a.d1 w.part).countPN p R.feTreeEvals (a.d1 * m) w.part).sentinelN p 1 a.d1
      let s4 := s3.progressN p (ceilDiv a.d1 16 * ceilDiv (m * 2 ^ fDepth hdr) 256)
      let s5 := if sat = 0 || vote then s4 else (s4.countPN p R.feSat sat w.part).sentinelN p 5 sat
      (s5, { OpOut.none_ with puts := puts, sat := if vote then sat else 0, work := a.d1 * m })

/-- FOREST_EVAL (0x13). -/
def execForestEval (w : WRef) (s : State) : Outcome State Fault Refusal := .next (s.runForest w 0x13 State.forestEval)

/-! ## FE_FLUSH (R707) -/

/-- A write of 1 to FE_FLUSH of cluster c clears all residency; not while BUSY. -/
def feFlush (c : Nat) (s : State) : State :=
  if 16 ≤ c || s.gated (P.forest c) then s
  else if s.busy (P.forest c) then s.illegal (P.forest c)
  else { s with mem := { s.mem with forest := s.mem.forest.filter (fun r => r.cluster ≠ c) } }

/-- FE_FLUSH. -/
def execFeFlush (cluster : Nat) (s : State) : Outcome State Fault Refusal := .next (feFlush cluster s)

end Sys2Proof.Machine
end

