-- ==== Sys2Proof/Machine/Manager.lean ====
section
/-! DEFINITION. Machine/Manager.lean: election, device IDs, routes, beacons, the loss of the manager, a device alone, the
configuration digest (16 R773 to R789, R795 to R799). -/

namespace Sys2Proof.Machine

open Host (Outcome)

/-! ## Reachability and what follows it (R786, R788, R789, R799) -/

/-- Remote ports are READY while their device is reachable (R799). -/
def State.settleRports (s : State) : State :=
  s.each (List.range 16) (fun t p =>
    if !t.on P.fab (R.fabRportEn p) || t.gated (P.port p) then t
    else
      let up := t.reachable (t.rd P.fab (R.fabRportDevice p))
      let is := t.rd (P.port p) R.pgStatusState = 0x80
      if up && !is then t.enterRun (P.port p) 0x80 else if !up && is then t.leaveReady (P.port p) else t)

/-- The port towards the manager: the first valid next hop, or the link peer that names it (R784). -/
def State.parentPort (s : State) : Option Nat := (s.hopFor (s.mkFrame s.mgrId .credit)).or s.mgrPort

/-- After a change of links or routes: since when the manager, and any other device, has been out of reach. -/
def State.settleReach (s0 : State) : State :=
  let s := s0.settleRports
  let member := s.role = 3 || s.role = 4
  let lost := member && s.parentPort.isNone
  let alone := s.upPorts = []
  (s.modFab (fun f => { f with
    mgrLostSince := if lost then f.mgrLostSince.or (some s.ns) else none
    aloneSince := if alone then f.aloneSince.or (some s.ns) else none })).wr P.fabTime R.ftStatusParentPort
    (if member then s.parentPort.getD 0 else 0)

/-! ## Configuration digest (R795) -/

/-- SHA-256 over the 32 bytes of R795. -/
def State.configDigest (s : State) : Bytes :=
  let f := fun n r => beBytes n (s.rd P.fab r)
  sha256 ([1] ++ beBytes 1 (s.rd P.dev R.devFwClass) ++ f 2 R.fabCfg1TimeTolNs ++ f 2 R.fabCfg1ArmLeadUs ++ f 2 R.fabCfg2 ++ f 4 R.fabCfg3 ++
    f 1 R.fabCfg0CommitPolicy ++ f 1 R.fabCfg0ExcludeMax ++ f 1 R.fabCfg0TtlInit ++ [0] ++ f 4 R.fabFabricId ++ zeros 12)

/-! ## Election (R773 to R781) -/

/-- Key a beats key b (R773, R776): an eligible key beats every ineligible one; then the higher priority; then the lower
serial number. -/
def keyBeats (a b : Key) : Bool :=
  if a.eligible ≠ b.eligible then a.eligible else if a.prio ≠ b.prio then b.prio < a.prio else a.serial < b.serial

/-- The later of two epochs (00 R13). -/
def laterEpoch (a b : Nat) : Nat := if seqLater 16 a b then a else b

/-- This device's key against the latest epoch seen (R777). -/
def State.ownKey (s : State) (latest : Nat) : Key :=
  ⟨s.rd P.fab R.fabCfg0Priority, s.rd P.dev R.devSerial, !s.quarantined && s.epoch = latest⟩

/-- The best of keys. -/
def bestKey (l : List Key) : Option Key :=
  l.foldl (fun b k => match b with | none => some k | some x => if keyBeats k x then some k else some x) none

/-- A device with PRIORITY 0 never bids (R773). -/
def State.ownBid (s : State) (latest : Nat) : List Key :=
  if s.rd P.fab R.fabCfg0Priority = 0 then [] else [s.ownKey latest]

/-- Flood the best key known, as a BID or a CLAIM (R775). -/
def State.floodElect (s : State) (claim : Bool) : State :=
  match s.fab.best with
  | some k => s.flood (.elect claim (s.rd P.fab R.fabTerm) k s.fab.latest)
  | none => s

/-- Enter an election of a term: a commit in progress ends (R26, R815), no manager is known. -/
def State.enterElection (s : State) (term : Nat) : State :=
  let s1 := (((s.quadElection).wr P.fab R.fabTerm term).setRole 1).count P.fab R.fabElections
  let l := if s.role = 0 then s.epoch else laterEpoch s.epoch s.fabEpoch
  s1.modFab (fun f => { f with
    latest := l, best := bestKey (s1.ownBid l), bestSince := s.ns, mgr := none, electDue := false, claimAt := none, published := false,
    mgrLostSince := none })

/-- The highest term known (R776). -/
def State.topTerm (s : State) : Nat :=
  s.upPorts.foldl (fun b p => match (s.fport p).bind (·.peer) with | some h => max b h.term | none => b) (s.rd P.fab R.fabTerm)

/-- An election is due (R774): the manager is lost, two fabrics have met, or a device alone has neighbours of which none
knows a manager. -/
def State.electionDue (s : State) : Bool :=
  s.fab.electDue || (s.role = 0 && s.upPorts ≠ [] && s.upPorts.all (fun p => match (s.fport p).bind (·.peer) with
    | some h => h.mgrId = 0xFF
    | none => true))

/-- ELECTION_START: R774, R776. -/
def electionStart (s : State) : State :=
  if !s.ready P.fab || s.role = 1 || s.upPorts = [] || !s.electionDue then s
  else (s.enterElection ((s.topTerm + 1) % 2 ^ 32)).floodElect false

/-- ELECTION_START. -/
def execElectionStart (s : State) : Outcome State Fault Refusal := .next (electionStart s)

/-- A BID of a term (R776): a higher one is adopted; the latest epoch and the better key are kept; a change is flooded. -/
def State.gotBid (s : State) (term : Nat) (key : Key) (latest : Nat) : State :=
  let cur := s.rd P.fab R.fabTerm
  if !s.ready P.fab || term < cur || (term = cur && s.role ≠ 1) then s
  else
    let s1 := if s.role ≠ 1 then s.enterElection term else s.wr P.fab R.fabTerm term
    let l := laterEpoch latest s1.fab.latest
    let me := s.rd P.dev R.devSerial
    let old := (match s1.fab.best with | some k => [k] | none => []).filter (fun k => k.serial ≠ me && k.serial ≠ key.serial)
    let best := bestKey (s1.ownBid l ++ old ++ (if key.serial = me then [] else [key]))
    if best = s1.fab.best && l = s1.fab.latest && s.role = 1 && term = cur then s1
    else (s1.modFab (fun f => { f with best := best, latest := l, bestSince := s.ns })).floodElect false

/-- ELECT. -/
def execElect (port : Nat) (frame : MFrame) (s : State) : Outcome State Fault Refusal :=
  .next (s.fabRx port frame (fun t =>
    match frame.body with
    | .elect false term key latest => t.gotBid term key latest
    | _ => t))

/-! ## Device IDs (R782) -/

/-- The ID a serial gets: the one it holds or was given within 60 s, the one it prefers, the lowest free. -/
def State.pickId (s : State) (serial : Nat) (pref : Option Nat) : Option Nat :=
  let used := s.fab.ids.map (fun (x : Nat × Nat) => x.2)
  let free := fun d => !used.contains d
  let last := (s.fab.given.find? (fun (x : Nat × Nat × Nat) => x.1 = serial && s.ns ≤ x.2.2 + 60000000000 && free x.2.1)).map (·.2.1)
  (((s.fab.ids.find? (fun (x : Nat × Nat) => x.1 = serial)).map (·.2)).or last).or
    ((match pref with | some d => if free d then some d else none | none => none).or ((List.range 64).find? free))

/-- FAB_PREF_ID where enabled. -/
def State.prefId (s : State) : Option Nat := if s.on P.fab R.fabPrefIdEn then some (s.rd P.fab R.fabPrefIdId) else none

/-- Flood the full ID table. -/
def State.floodIds (s : State) : State := s.flood (.idTable (s.fab.ids.map (fun (x : Nat × Nat) => (x.2, x.1))))

/-- The manager assigns an ID and floods the table. -/
def State.assign (s : State) (serial : Nat) (pref : Option Nat) : State :=
  match s.pickId serial pref with
  | none => s
  | some d =>
    (s.modFab (fun f => { f with
      ids := f.ids.filter (fun (x : Nat × Nat) => x.1 ≠ serial) ++ [(serial, d)]
      given := f.given.filter (fun (x : Nat × Nat × Nat) => x.1 ≠ serial) ++ [(serial, d, s.ns)]
      linksDirty := true })).floodIds

/-- Ask the manager for an ID through the link peer. -/
def State.sendJoin (s : State) : State := s.toManager (.join (s.rd P.dev R.devSerial) s.prefId)

/-- ASSIGN_JOIN. -/
def execAssignJoin (port : Nat) (frame : MFrame) (s : State) : Outcome State Fault Refusal :=
  .next (s.fabFor port frame (fun t =>
    match frame.body with
    | .join serial pref => if t.role = 2 then t.assign serial pref else t
    | _ => t))

/-- Take the ID a table gives this device; one the table leaves out asks again. -/
def State.takeIds (s : State) (l : List (Nat × Nat)) : State :=
  let me := s.rd P.dev R.devSerial
  let s1 := s.modFab (fun f => { f with ids := l.map (fun (x : Nat × Nat) => (x.2, x.1)) })
  match l.find? (fun (x : Nat × Nat) => x.2 = me) with
  | some (d, _) => if s1.myId = d then s1 else ((s1.modFab (fun f => { f with hasId := true })).wr P.fab R.fabStatusDeviceId d).report
  | none => ((if l.any (fun (x : Nat × Nat) => x.1 = s.myId) then s1.modFab (fun f => { f with hasId := false }) else s1)).sendJoin

/-- ASSIGN_TABLE. -/
def execAssignTable (port : Nat) (frame : MFrame) (s : State) : Outcome State Fault Refusal :=
  .next (s.fabFor port frame (fun t =>
    match frame.body with
    | .idTable l => if (t.role = 3 || t.role = 4) && frame.src = t.mgrId then t.takeIds l else t
    | _ => t))

/-! ## Becoming manager or member (R778, R779, R820) -/

/-- This device becomes MANAGER: it keeps or assigns its own ID, knows its own links, and floods a CLAIM. -/
def State.becomeManager (s : State) (key : Key) : State :=
  let me := s.rd P.dev R.devSerial
  let d := if s.fab.hasId then s.myId else (s.pickId me s.prefId).getD 0
  let s1 := (s.modFab (fun f => { f with
    mgr := some key, hasId := true, ids := f.ids.filter (fun (x : Nat × Nat) => x.1 ≠ me && x.2 ≠ d) ++ [(me, d)], links := [], linksDirty := true,
    quarantined := [], claimAt := some s.ns, published := false, beaconSent := s.ns - 100000 })).modNse (fun n => { n with announced := [], shapes := [] })
  let s2 := (((s1.wr P.fab R.fabStatusDeviceId d).wr P.fab R.fabStatusManagerId d).setFabEpoch s.fab.latest).wr P.fabTime R.ftStatusTimeDegraded 0
  let s3 := { s2 with time := { s2.time with spread := 0, spreadEdges := 0 } }
  (((s3.setRole 2).floodElect true).takeLinks d s.ownLinks).announceAll

/-- ELECT_QUIET_EXPIRY: its own key is its best after ELECT_QUIET µs without change. -/
def electQuietExpiry (s : State) : State :=
  match s.fab.best with
  | none => s
  | some k =>
    if s.role = 1 && k = s.ownKey s.fab.latest && s.fab.bestSince + s.rd P.fab R.fabCfg2 * 1000 ≤ s.ns then s.becomeManager k else s

/-- ELECT_QUIET_EXPIRY. -/
def execElectQuietExpiry (s : State) : Outcome State Fault Refusal := .next (electQuietExpiry s)

/-- This device becomes a member under a manager: in QUARANTINE with BEHIND where its epoch is not the fabric's (R779,
R753). -/
def State.becomeMember (s : State) (key : Key) (mgrId fabEpoch : Nat) : State :=
  let behind := s.epoch ≠ fabEpoch
  let r := putBits (s.rd P.fab R.fabStatusQReason) 1 1 (b2n behind)
  let t := s.ns
  let s1 := s.modFab (fun f => { f with
    mgr := some key, lastBeacon := t, lastExch := t, electDue := false, best := none, lastO := [], badRun := 0,
    goodRun := 0, mgrLostSince := none })
  let s2 := (((s1.wr P.fab R.fabStatusManagerId mgrId).setFabEpoch fabEpoch).wr P.fab R.fabStatusQReason r).setRole (if r = 0 then 3 else 4)
  let s3 := if s2.fab.hasId then s2 else s2.sendJoin
  (s3.report.announceAll).settleReach

/-- CLAIM: of the current term and the best key (R778); the flood is passed on. -/
def execClaim (port : Nat) (frame : MFrame) (s : State) : Outcome State Fault Refusal :=
  .next (s.fabRx port frame (fun t =>
    match frame.body with
    | .elect true term key latest =>
      if t.role = 1 && term = t.rd P.fab R.fabTerm && t.fab.best = some key then
        (t.becomeMember key frame.src (laterEpoch latest t.fab.latest)).passFlood port frame
      else t
    | _ => t))

/-- R820: a device that finds a manager with a term in a peer's HELLO joins it; maps it kept alone go. -/
def State.joinFabric (s : State) (h : Hello) : State :=
  let s1 := if s.role = 0 then s.modNse (fun n => { n with maps := [], rx := [] }) else s
  (s1.wr P.fab R.fabTerm h.term).becomeMember ⟨h.mgrPrio, h.mgrSerial, true⟩ h.mgrId h.fabEpoch

/-! ## Routes (R783 to R786) -/

/-- Neighbours of device d over known links: own port, peer. A link counts from both ends. -/
def linksOf (l : List (Nat × Nat × Nat × Nat)) (d : Nat) : List (Nat × Nat) :=
  (l.filterMap (fun x => if x.1 = d then some (x.2.1, x.2.2.1) else if x.2.2.1 = d then some (x.2.2.2, x.1) else none)).foldl
    (fun r x => if r.contains x then r else r ++ [x]) []

/-- Hop counts to a device, by breadth. -/
def hopCounts (l : List (Nat × Nat × Nat × Nat)) : Nat → Nat → List Nat → List (Nat × Nat) → List (Nat × Nat)
  | 0, _, _, seen => seen
  | n + 1, k, front, seen =>
    let next := ((front.map (fun d => (linksOf l d).map (·.2))).flatten).foldl (fun (r : List Nat) d =>
      if r.contains d || seen.any (fun x => x.1 = d) then r else r ++ [d]) []
    if next = [] then seen else hopCounts l n (k + 1) next (seen ++ next.map (fun d => (d, k + 1)))

/-- Hop counts of every device to dst. -/
def distTo (l : List (Nat × Nat × Nat × Nat)) (dst : Nat) : List (Nat × Nat) := hopCounts l 64 0 [dst] [(dst, 0)]

/-- The entry of device a for dst: up to four ports on shortest paths, ascending. -/
def routeEnt (l : List (Nat × Nat × Nat × Nat)) (a dst : Nat) : RouteEnt :=
  if a = dst then ⟨[], 0, true⟩
  else
    let ds := distTo l dst
    match aget ds a with
    | none => ⟨[], 0, false⟩
    | some n =>
      let ps := (linksOf l a).filter (fun x => aget ds x.2 = some (n - 1) && n ≠ 0)
      ⟨((List.range 8).filter (fun p => ps.any (fun x => x.1 = p))).take 4, n, false⟩

/-- A device's whole table. -/
def routeTab (l : List (Nat × Nat × Nat × Nat)) (a : Nat) : List RouteEnt := (List.range 64).map (routeEnt l a)

/-- Install a table (R785). -/
def State.install (s : State) (ver : Nat) (tab : List RouteEnt) : State :=
  ((s.modFab (fun f => { f with routes := tab })).wr P.fabRoute R.routeVer ver).settleReach

/-- Devices the manager could reach and can no more have departed (R822): their IDs become free. -/
def State.departed (s : State) (l : List (Nat × Nat × Nat × Nat)) : State :=
  let ds := distTo l s.myId
  let gone := s.fab.ids.filter (fun (x : Nat × Nat) => ((s.fab.routes[x.2]?).map (fun e => decide (e.hops ≠ []))).getD false && (aget ds x.2).isNone)
  if gone = [] then s
  else (s.modFab (fun f => { f with
    ids := f.ids.filter (fun x => !gone.contains x)
    given := f.given.map (fun (x : Nat × Nat × Nat) => if gone.any (fun (y : Nat × Nat) => y.1 = x.1) then (x.1, x.2.1, s.ns) else x)
    quarantined := f.quarantined.filter (fun d => !gone.any (fun (y : Nat × Nat) => y.2 = d)) })).floodIds

/-- ROUTE_COMPUTE: new tables for every device, the nearest first (R783). -/
def routeCompute (s : State) : State :=
  if s.role ≠ 2 || !s.fab.linksDirty then s
  else
    let l := s.fab.links
    let ver := (s.rd P.fabRoute R.routeVer + 1) % 65536
    let s1 := (s.departed l).modFab (fun f => { f with linksDirty := false })
    let far := (distTo l s.myId).filter (fun x => x.1 ≠ s.myId)
    (s1.install ver (routeTab l s.myId)).each far (fun t x => t.unicast x.1 (.route ver (routeTab l x.1)))

/-- ROUTE_COMPUTE. -/
def execRouteCompute (s : State) : Outcome State Fault Refusal := .next (routeCompute s)

/-- ROUTE_TABLE: installed on receipt (R785). -/
def execRouteTable (port : Nat) (frame : MFrame) (s : State) : Outcome State Fault Refusal :=
  .next (s.fabFor port frame (fun t =>
    match frame.body with
    | .route ver tab => if (t.role = 3 || t.role = 4) && frame.src = t.mgrId then t.install ver tab else t
    | _ => t))

/-- STATUS_REPORT: the manager learns a device's links and standing (R772; log entry 60). -/
def execStatusReport (port : Nat) (frame : MFrame) (s : State) : Outcome State Fault Refusal :=
  .next (s.fabFor port frame (fun t =>
    match frame.body with
    | .neighbours d role l =>
      if t.role ≠ 2 || 64 ≤ d then t
      else
        let t1 := t.takeLinks d l
        if role = 4 then (if t1.fab.quarantined.contains d then t1 else t1.quarantineDev d) else t1.restoreDev d
    | _ => t))

/-! ## Beacons (R787, R796, R754) -/

/-- BEACON_SEND: every 100 µs. -/
def beaconSend (s : State) : State :=
  match s.fab.mgr with
  | none => s
  | some k =>
    if s.role ≠ 2 || s.ns < s.fab.beaconSent + 100000 then s
    else (s.modFab (fun f => { f with beaconSent := s.ns })).flood
      (.beacon k (s.rd P.fab R.fabTerm) s.myId s.configDigest s.fabEpoch s.fab.quarantined)

/-- BEACON_SEND. -/
def execBeaconSend (s : State) : Outcome State Fault Refusal := .next (beaconSend s)

/-- A member hears its manager: DIGEST follows the comparison (R754, R796); BEHIND is set where the epochs differ or the
manager lists the device, outside a commit, and ends only by a rejoin. -/
def State.gotBeacon (s : State) (digest : Bytes) (fabEpoch : Nat) (quarantined : List Nat) : State :=
  let bad := digest ≠ s.configDigest
  let s1 := ((s.modFab (fun f => { f with lastBeacon := s.ns })).wr P.fab R.fabMgrDigest (leNat digest)).setFabEpoch fabEpoch
  let s2 := s1.when bad (fun t => t.count P.fab R.fabDigestMismatch)
  let was := (s.rd P.fab R.fabStatusQReason).testBit 1
  let behind := was || (s.fab.quad.isNone && (s.epoch ≠ fabEpoch || quarantined.contains s.myId))
  s2.setQ (b2n bad + 2 * b2n behind)

/-- BEACON. -/
def execBeacon (port : Nat) (frame : MFrame) (s : State) : Outcome State Fault Refusal :=
  .next (s.fabFor port frame (fun t =>
    match frame.body with
    | .beacon key term _ digest fe qs =>
      if (t.role = 3 || t.role = 4) && (t.fab.mgr.map (·.serial)) = some key.serial && term = t.rd P.fab R.fabTerm then t.gotBeacon digest fe qs
      else t
    | _ => t))

/-! ## Loss (R788, R789) -/

/-- MANAGER_LOST: no beacon for 500 µs, or the manager out of reach for 100 µs. -/
def managerLost (s : State) : State :=
  let quiet := s.fab.lastBeacon + 500000 ≤ s.ns
  let cut := match s.fab.mgrLostSince with | some t => decide (t + 100000 ≤ s.ns) | none => false
  if (s.role = 3 || s.role = 4) && s.fab.mgr.isSome && (quiet || cut) then s.modFab (fun f => { f with mgr := none, electDue := true }) else s

/-- MANAGER_LOST. -/
def execManagerLost (s : State) : Outcome State Fault Refusal := .next (managerLost s)

/-- The device is its own fabric (Devices and roles, NONE): ID 0, fabric time equal to its device time base, its own maps. -/
def State.alone (s : State) : State :=
  let old := s.rd P.fab R.fabStatusDeviceId
  let s1 := ((((s.quadElection).setRole 0).wr P.fab R.fabStatusQReason 0).wr P.fab R.fabStatusDeviceId 0).wr P.fab R.fabStatusManagerId 0
  let s2 := s1.modFab (fun f => { f with
    hasId := false, mgr := none, best := none, ids := [], links := [], linksDirty := false, routes := [], quarantined := [], electDue := false,
    acc := 0, lastO := [], badRun := 0, goodRun := 0, mgrLostSince := none, claimAt := none, published := false })
  let s3 := { s2 with time := { s2.time with corr := 0, spread := 0, spreadEdges := 0 } }
  ((((s3.wr P.fabTime R.ftStatusTimeDegraded 0).wr P.fabTime R.ftStatusSynced 0).modNse (fun n => { n with announced := [], shapes := [] })).settleReach).aloneMaps old

/-- FABRIC_ALONE: no other device reachable for 500 µs. -/
def fabricAlone (s : State) : State :=
  match s.fab.aloneSince with
  | some t => if s.rd P.fab R.fabStatusRole ≠ 0 && t + 500000 ≤ s.ns then s.alone else s
  | none => s

/-- FABRIC_ALONE. -/
def execFabricAlone (s : State) : Outcome State Fault Refusal := .next (fabricAlone s)

/-! ## Remote ports (R798, R799) -/

/-- RPORT_BIND: a write of FAB_RPORT_p with EN; discarded unless the port is present with SPEED 0. -/
def rportBind (port device rport : Nat) (s : State) : State :=
  if 16 ≤ port then s
  else if !s.pagePresent (P.port port) || s.rd (P.port port) R.portCfgSpeed ≠ 0 then s.illegal P.fab
  else
    (((s.wr P.fab (R.fabRportEn port) 1).wr P.fab (R.fabRportDevice port) device).wr P.fab (R.fabRportRport port) rport).settleRports

/-- RPORT_BIND. -/
def execRportBind (port device rport : Nat) (s : State) : Outcome State Fault Refusal := .next (rportBind port device rport s)

/-! ## Fabric freezes (18 R907, R908) -/

/-- FABRIC_FREEZE: a write of FREEZE to OBS_FABRIC_FREEZE. -/
def execFabricFreeze (s : State) : Outcome State Fault Refusal := .next (s.sendFreeze false)

/-- FABRIC_THAW. -/
def execFabricThaw (s : State) : Outcome State Fault Refusal := .next (s.sendFreeze true)

end Sys2Proof.Machine
end

