-- ==== Sys2Proof/Machine/NseData.lean ====
section
/-! DEFINITION. Machine/NseData.lean: shard images and their checks, distances and their order, the walk (15 R711 to
R726). -/

namespace Sys2Proof.Machine

/-! ## Shape and layout -/

/-- The shape of a channel or shard: KIND, METRIC, FORMAT, DIMS, DEGREE. -/
structure NsShape where
  graph : Bool
  metric : Nat
  fmt : Nat
  dims : Nat
  degree : Nat
  deriving DecidableEq, Repr

/-- The shape a channel descriptor gives. -/
def chanShape (d : Bytes) : NsShape :=
  ⟨fieldLE d 0 1 / 2 % 2 = 1, fieldLE d 1 1 % 4, fieldLE d 2 1 % 16, fieldLE d 4 2 % 2048, fieldLE d 6 1 % 128⟩

/-- The shape a shard header gives, as far as its bytes are codes at all. -/
def headShape (h : Bytes) : Option NsShape :=
  if fieldLE h 5 1 < 2 then some ⟨fieldLE h 5 1 = 1, fieldLE h 6 1, fieldLE h 7 1, fieldLE h 8 2, fieldLE h 10 1⟩ else none

/-- A FORMAT of the shard header's list. -/
def nsFormat (f : Nat) : Bool := f = 0 || f = 3 || f = 7 || f = 11 || f = 12

/-- V_b, and the offsets of NORM and NBR, and RECORD_SIZE (Index layout; R711). -/
def NsShape.vecBytes (c : NsShape) : Nat := fmtBits c.fmt * c.dims / 8
def NsShape.normAt (c : NsShape) : Nat := roundUp c.vecBytes 4
def NsShape.nbrAt (c : NsShape) : Nat := if c.metric = 1 then c.normAt + 4 else c.vecBytes
def NsShape.used (c : NsShape) : Nat := c.nbrAt + 4 * c.degree
def NsShape.recSize (c : NsShape) : Nat := roundUp c.used (if c.graph then 64 else 16)

/-- Element i of a packed vector (R132). -/
def NsShape.elem (c : NsShape) (v : Bytes) (i : Nat) : Num :=
  let w := fmtBits c.fmt
  let code := if w = 4 then fieldLE v (i / 2) 1 / 16 ^ (i % 2) % 16 else fieldLE v (w / 8 * i) (w / 8)
  if fmtInt c.fmt then Num.ofInt (decodeI c.fmt code) else decodeF c.fmt code

/-- The elements of a packed vector. -/
def NsShape.elems (c : NsShape) (v : Bytes) : List Num := (List.range c.dims).map (c.elem v)

/-! ## Distances (R721, R722) -/

/-- Exact sum under IEEE rules: infinities of opposite sign give NaN. -/
def ieeeAdd (a b : Num) : Num :=
  match a, b with
  | .inf x, .inf y => if x = y then .inf x else .nan
  | _, _ => a.add b

/-- Exact product under IEEE rules. -/
def ieeeMul (a b : Num) : Num := Num.mulWith .nan a b

/-- Quotient under IEEE rules: a finite nonzero number over zero is an infinity. -/
def ieeeDiv (a b : Num) : Num :=
  match a, b with
  | .fin x n _, .fin y 0 _ => if n = 0 then .nan else .inf (x != y)
  | .inf x, .fin y 0 _ => .inf (x != y)
  | _, _ => Num.divWith .nan a b

/-- Square root of an exact sum of squares, exact enough to round once. -/
def numSqrt (v : Num) : Num :=
  match v with
  | .fin _ n d => if n = 0 then Num.zero else rootFrac n d
  | .inf _ => .inf false
  | .nan => .nan

/-- Sum of products of two element lists. -/
def ieeeDot (a b : List Num) : Num := (List.zipWith ieeeMul a b).foldl ieeeAdd Num.zero

/-- round32(sqrt(sum of squares)) as an F32 code: a query's norm, and the NORM of a record (R713). -/
def normCode (x : List Num) : Nat := f32 (numSqrt (ieeeDot x x))

/-- R721: the F32 code of the value of query q and record x with norm code nx. -/
def nsValue (metric : Nat) (q x : List Num) (nx : Nat) : Nat :=
  if metric = 0 then f32 (ieeeDot q x)
  else if metric = 2 then
    let d := List.zipWith (fun a b => ieeeAdd a b.neg) q x
    f32 (ieeeDot d d)
  else
    let nq := decodeF 14 (normCode q)
    let nr := decodeF 14 nx
    if nq.isZero || nr.isZero then 0 else f32 (ieeeDiv (r32 (ieeeDot q x)) (r32 (ieeeMul nq nr)))

/-- R722: candidate a (F32 code, ID) ranks nearer than b. -/
def nearer (metric : Nat) (a b : Hit) : Bool :=
  let x := decodeF 14 a.dist
  let y := decodeF 14 b.dist
  match x.isNan, y.isNan with
  | true, true => a.id < b.id
  | true, false => false
  | false, true => true
  | false, false =>
    if Num.lt x y then metric = 2 else if Num.lt y x then metric ≠ 2 else a.id < b.id

/-- Insert in the order of R722. -/
def rankHit (metric : Nat) (h : Hit) : List Hit → List Hit
  | [] => [h]
  | x :: l => if nearer metric h x then h :: x :: l else x :: rankHit metric h l

/-- The k nearest of a list, in order. -/
def nearest (metric k : Nat) (l : List Hit) : List Hit := l.foldl (fun r h => (rankHit metric h r).take k) []

/-! ## Records of a held shard -/

/-- A shard's image in device memory. -/
structure NsImage where
  base : Nat
  shape : NsShape
  vectors : Nat
  recSize : Nat
  deriving DecidableEq, Repr

/-- The image at a. -/
def State.nsImage (s : State) (a : Nat) : NsImage :=
  let h := s.devRead a 256
  ⟨a, (headShape h).getD ⟨false, 0, 0, 0, 0⟩, fieldLE h 12 4, fieldLE h 16 4⟩

/-- Address of the record of local ID i. -/
def NsImage.recAt (m : NsImage) (i : Nat) : Nat := m.base + 256 + i * m.recSize

/-- Value of record i for a query. -/
def State.nsDist (s : State) (m : NsImage) (q : List Num) (i : Nat) : Nat :=
  let r := s.devRead (m.recAt i) m.recSize
  nsValue m.shape.metric q (m.shape.elems r) (if m.shape.metric = 1 then fieldLE r m.shape.normAt 4 else 0)

/-- Stored neighbours of record i. -/
def State.nsNbrs (s : State) (m : NsImage) (i : Nat) : List Nat :=
  let r := s.devRead (m.recAt i) m.recSize
  (List.range m.shape.degree).map (fun k => fieldLE r (m.shape.nbrAt + 4 * k) 4)

/-! ## The walk (R724, R725; read-ahead of R728) -/

/-- A walk in progress: candidates by rank with their expanded marks, visited IDs newest first, hops, records read
ahead. -/
structure NsWalk where
  best : List (Hit × Bool)
  visited : List Nat
  hops : Nat
  ahead : List Nat
  deriving DecidableEq, Repr

/-- Insert an unexpanded candidate by rank. -/
def walkIn (metric : Nat) (h : Hit) : List (Hit × Bool) → List (Hit × Bool)
  | [] => [(h, false)]
  | x :: l => if nearer metric h x.1 then (h, false) :: x :: l else x :: walkIn metric h l

/-- Visit record i: in the entry phase, or where it ranks; beyond LIST the worst goes. -/
def State.walkVisit (s : State) (m : NsImage) (q : List Num) (list : Nat) (w : NsWalk) (i : Nat) : NsWalk :=
  if w.visited.contains i then w
  else
    let h : Hit := ⟨s.nsDist m q i, i⟩
    let w1 := { w with visited := i :: w.visited }
    if w.best.length < list || (match w.best.getLast? with | some x => nearer m.shape.metric h x.1 | none => true) then
      { w1 with best := (walkIn m.shape.metric h w.best).take list }
    else w1

/-- Expansions until the walk ends; the flag is truncated. ahead: PREFETCH in beam mode, else 0. -/
def State.walkLoop (s : State) (m : NsImage) (q : List Num) (list limit pre : Nat) : Nat → NsWalk → NsWalk × Bool
  | 0, w => (w, true)
  | n + 1, w =>
    match w.best.find? (fun x => !x.2) with
    | none => (w, false)
    | some c =>
      if w.hops = limit || 16384 - m.shape.degree < w.visited.length then (w, true)
      else
        let w0 := { w with
          ahead := ((w.best.filter (fun x => !x.2)).take pre).foldl (fun l x => if l.contains x.1.id then l else l ++ [x.1.id]) w.ahead
          best := w.best.map (fun x => if x.1.id = c.1.id then (x.1, true) else x)
          hops := w.hops + 1 }
        let w1 := ((s.nsNbrs m c.1.id).filter (· ≠ 0xFFFFFFFF)).foldl (s.walkVisit m q list) w0
        s.walkLoop m q list limit pre n w1

/-- What a shard part gives: entries by local ID, truncated, expansions, records read, read ahead, read ahead and never
expanded. -/
structure PartOut where
  hits : List Hit
  truncated : Bool
  exp : Nat
  read : List Nat
  ahead : Nat
  waste : Nat
  deriving DecidableEq, Repr

/-- Run a shard part (R724, R725). -/
def State.runPart (s : State) (a : Nat) (row : Bytes) (k list hops pre : Nat) : PartOut :=
  let m := s.nsImage a
  let q := m.shape.elems row
  if !m.shape.graph then
    let all := List.range m.vectors
    ⟨nearest m.shape.metric k (all.map (fun i => ⟨s.nsDist m q i, i⟩)), false, 0, all, 0, 0⟩
  else
    let h := s.devRead a 256
    let w0 := ((List.range (fieldLE h 11 1)).map (fun e => fieldLE h (20 + 4 * e) 4)).foldl (s.walkVisit m q list) ⟨[], [], 0, []⟩
    let limit := if hops = 0 then 4096 else hops
    let r := s.walkLoop m q list limit pre (limit + 1) w0
    let done := (r.1.best.filter (·.2)).map (·.1.id)
    ⟨(r.1.best.map (·.1)).take k, r.2, r.1.hops, r.1.visited, r.1.ahead.length, (r.1.ahead.filter (fun i => !done.contains i)).length⟩

/-! ## Checks of an image (R711, R712, R717) -/

/-- A record with NORM as given. -/
def NsShape.withNorm (c : NsShape) (r : Bytes) (code : Nat) : Bytes := if c.metric = 1 then putAt r c.normAt (leBytes 4 code) else r

/-- The image with every record's NORM replaced. -/
def nsNormed (c : NsShape) (size n : Nat) (bs : Bytes) (f : Bytes → Nat) : Bytes :=
  bs.take 256 ++ ((List.range n).map (fun i =>
    let r := (bs.drop (256 + i * size)).take size
    c.withNorm r (f r))).flatten

/-- DIGEST holds: SHA-384 of bytes 256 to the end, NORM taken as zero. -/
def nsDigestOk (c : NsShape) (size n : Nat) (bs : Bytes) : Bool :=
  (bs.drop 84).take 48 = sha384 ((nsNormed c size n bs (fun _ => 0)).drop 256)

/-- Padding bytes of record i are zero. -/
def padOk (c : NsShape) (r : Bytes) : Bool :=
  ((r.take (if c.metric = 1 then c.normAt else c.vecBytes)).drop c.vecBytes).all (· = 0) && (r.drop c.used).all (· = 0)

/-- The first failure of R717: reason and local ID. -/
def nsCheck (chan : NsShape) (bs : Bytes) : Option (Nat × Nat) :=
  let h := bs.take 256
  let n := fieldLE h 12 4
  let size := fieldLE h 16 4
  let rec_ := fun i => (bs.drop (256 + i * size)).take size
  let ents := fieldLE h 11 1
  if fieldLE h 0 4 ≠ 0x3149534E || fieldLE h 4 1 ≠ 1 then some (0x70, 0)
  else if headShape h ≠ some chan then some (0x71, 0)
  else if size ≠ chan.recSize || bs.length ≠ 256 + n * size || n = 0 || (if chan.graph then ents < 1 || 16 < ents else ents ≠ 0) ||
      !(h.drop 132).all (· = 0) || !((h.take 84).drop (20 + 4 * ents)).all (· = 0) then some (0x72, 0)
  else match (List.range n).find? (fun i => !padOk chan (rec_ i)) with
    | some i => some (0x72, i)
    | none =>
      if !nsDigestOk chan size n bs then some (0x73, 0)
      else match ((List.range ents).map (fun e => fieldLE h (20 + 4 * e) 4)).find? (fun e => n ≤ e) with
        | some e => some (0x74, e)
        | none =>
          match (List.range n).find? (fun i => (List.range chan.degree).any (fun k =>
              let v := fieldLE (rec_ i) (chan.nbrAt + 4 * k) 4
              n ≤ v && v ≠ 0xFFFFFFFF)) with
          | some i => some (0x75, i)
          | none => none

end Sys2Proof.Machine
end

