-- ==== Sys2Proof/Machine/Search.lean ====
section
/-! DEFINITION. Machine/Search.lean: INDEX_LOAD, VSEARCH, shard parts here and over the fabric, holders out of reach,
shards after a warm reset (15; 16 R819). -/

namespace Sys2Proof.Machine

open Host (Outcome)

/-! ## Channels and shards -/

/-- A held shard. -/
def State.shard (s : State) (ch sh : Nat) : Option Shard := s.nse.shards.find? (fun h => h.channel = ch && h.shard = sh)

/-- The first breach of a channel descriptor: its byte (R714). -/
def State.chanBad (s : State) (d : Bytes) : Option Nat :=
  let c := chanShape d
  let nz := fun o n => fieldLE d o n ≠ 0
  ([(fieldLE d 0 1 % 2 = 0 || 4 ≤ fieldLE d 0 1, 0), (2 < fieldLE d 1 1, 1), (!nsFormat (fieldLE d 2 1), 2),
    (fieldLE d 3 1 / 2 % 8 ≠ 0 || (fieldLE d 3 1 % 2 = 1 && (fieldLE d 3 1 / 16 < 1 || 8 < fieldLE d 3 1 / 16)), 3),
    (c.dims < 1 || 1024 < fieldLE d 4 2 || (c.fmt = 0 && c.dims % 2 = 1), 4),
    (if c.graph then c.degree < 1 || 64 < fieldLE d 6 1 else nz 6 1, 6), (16 ≤ fieldLE d 7 1, 7),
    (fieldLE d 8 1 = 0 || fieldLE d 8 1 &&& s.nseGrant (chanOwner d) ≠ fieldLE d 8 1, 8), (nz 9 1, 9), (nz 12 4, 12), (nz 24 8, 24),
    (!((d.drop 24).take 40).all (· = 0), 24)].find? (fun (x : Bool × Nat) => x.1)).map (·.2)

/-- A command of INDEX_LOAD with its OP, its host side able to move. -/
def State.indexLoad (s : State) (i op : Nat) (reads : Bool) (k : State → Entry → State) : State :=
  match s.entry 0 i with
  | some e =>
    if e.fld 17 1 % 8 ≠ op then s
    else if reads && !s.hostGo 0 [e.fld 24 8] then s.count P.dma R.dmaBmeWait
    else s.withCmd 0 i 0x5D k
  | none => s

/-- INDEX_LOAD_DEFINE (R714). -/
def indexLoadDefine (i : Nat) (s : State) : State :=
  s.indexLoad i 0 true (fun t e =>
    let ch := e.fld 16 1
    if t.spPoisoned 0 (e.fld 24 8) 64 then t.memError 0 i 24 (spaceAddr (e.fld 24 8))
    else
      let d := t.spRead 0 (e.fld 24 8) 64
      let t1 := t.hostSide (e.fld 24 8) 64 false
      if (t1.channel ch).isSome then t1.finish 0 i St.queueState ch
      else match t1.chanBad d with
        | some o => t1.finish 0 i St.badParam o
        | none => (t1.modNse (fun n => { n with channels := aput n.channels ch d })).finishAny 0 i St.success)

/-- INDEX_LOAD_DEFINE. -/
def execIndexLoadDefine (i : Nat) (s : State) : Outcome State Fault Refusal := .next (indexLoadDefine i s)

/-- INDEX_LOAD_SET_MODE (R715): MODE and PREFETCH alone. -/
def indexLoadSetMode (i : Nat) (s : State) : State :=
  s.indexLoad i 4 true (fun t e =>
    let ch := e.fld 16 1
    if t.spPoisoned 0 (e.fld 24 8) 64 then t.memError 0 i 24 (spaceAddr (e.fld 24 8))
    else
      let d := t.spRead 0 (e.fld 24 8) 64
      let t1 := t.hostSide (e.fld 24 8) 64 false
      let m := fieldLE d 3 1
      match t1.channel ch with
      | none => t1.finish 0 i St.badParam 16
      | some c =>
        if m / 2 % 8 ≠ 0 || (m % 2 = 1 && (m / 16 < 1 || 8 < m / 16)) then t1.finish 0 i St.badParam 3
        else (t1.modNse (fun n => { n with channels := aput n.channels ch (putAt c 3 (leBytes 1 m)) })).finishAny 0 i St.success)

/-- INDEX_LOAD_SET_MODE. -/
def execIndexLoadSetMode (i : Nat) (s : State) : Outcome State Fault Refusal := .next (indexLoadSetMode i s)

/-- INDEX_LOAD_LOAD: R716 to R719. -/
def indexLoadLoad (i : Nat) (s : State) : State :=
  s.indexLoad i 1 true (fun t e =>
    let ch := e.fld 16 1
    let sh := e.fld 20 2 % 4096
    let n := e.fld 32 8
    let size := roundUp n (2 ^ 21)
    match t.channel ch with
    | none => t.finish 0 i St.badParam 16
    | some d =>
      if (t.shard ch sh).isSome then t.finish 0 i St.queueState ch
      else if 1024 ≤ t.nse.shards.length then t.finish 0 i St.noResource 0x71
      else if t.bankQuota (chanOwner d) < t.bankBytes (chanOwner d) + size then t.finish 0 i St.noResource 0x10
      else match t.poolAlloc size with
        | none => t.finish 0 i St.noResource 0x14
        | some a =>
          if t.spPoisoned 0 (e.fld 24 8) n then t.memError 0 i 24 (spaceAddr (e.fld 24 8))
          else
            let bs := t.spRead 0 (e.fld 24 8) n
            let c := chanShape d
            let t1 := t.hostSide (e.fld 24 8) n false
            match nsCheck c bs with
            | some (r, v) => (t1.devWrite a bs).finish 0 i St.imageRejected (r + 256 * (v % 2 ^ 24))
            | none =>
              let v := fieldLE bs 12 4
              let t2 := t1.devWrite a (nsNormed c c.recSize v bs (fun r => normCode (c.elems r)))
              let h : Shard := ⟨ch, sh, a, size, v, false, none⟩
              ((t2.modNse (fun x => { x with shards := x.shards ++ [h] })).announceShard h).finishAny 0 i St.success)

/-- INDEX_LOAD_LOAD. -/
def execIndexLoadLoad (i : Nat) (s : State) : Outcome State Fault Refusal := .next (indexLoadLoad i s)

/-- A leaving shard that no part uses is freed, and its UNLOAD retires (R720, R745). -/
def State.settleLeaving (s : State) : State :=
  let free := s.nse.shards.filter (fun h => h.leaving.isSome &&
    !s.nse.parts.any (fun (x : Nat × ShardPart) => x.2.channel = h.channel && x.2.shard = h.shard))
  if free = [] then s
  else (s.modNse (fun n => { n with shards := n.shards.filter (fun h => !free.contains h) })).each free (fun t h =>
    match h.leaving with | some i => t.finishAny 0 i St.success | none => t)

/-- INDEX_LOAD_UNLOAD (R720). -/
def indexLoadUnload (i : Nat) (s : State) : State :=
  s.indexLoad i 2 false (fun t e =>
    let ch := e.fld 16 1
    let sh := e.fld 20 2 % 4096
    match t.channel ch, t.shard ch sh with
    | none, _ => t.finish 0 i St.badParam 16
    | _, none => t.finish 0 i St.badParam 20
    | _, some h =>
      if h.leaving.isSome then t.finish 0 i St.queueState ch
      else
        let t1 := t.modNse (fun n => { n with shards := n.shards.map (fun x => if x = h then { x with leaving := some i } else x) })
        let t2 := if t1.ownsMaps then t1.withdrawn (t1.rd P.fab R.fabStatusDeviceId) ch sh
          else if t1.role = 3 || t1.role = 4 then t1.toManager (.withdraw ch sh) else t1
        t2.settleLeaving)

/-- INDEX_LOAD_UNLOAD. -/
def execIndexLoadUnload (i : Nat) (s : State) : Outcome State Fault Refusal := .next (indexLoadUnload i s)

/-- INDEX_LOAD_DELETE (R720). -/
def indexLoadDelete (i : Nat) (s : State) : State :=
  s.indexLoad i 3 false (fun t e =>
    let ch := e.fld 16 1
    if (t.channel ch).isNone then t.finish 0 i St.badParam 16
    else if t.nse.shards.any (fun h => h.channel = ch) then t.finish 0 i St.queueState ch
    else (t.modNse (fun n => { n with channels := adel n.channels ch })).finishAny 0 i St.success)

/-- INDEX_LOAD_DELETE. -/
def execIndexLoadDelete (i : Nat) (s : State) : Outcome State Fault Refusal := .next (indexLoadDelete i s)

/-! ## The work of a VSEARCH -/

/-- The work of a VSEARCH that has started: a single operation runs on the cluster its entry remembers. -/
def State.searchWork (s : State) (w : WRef) : Option Work :=
  match w with
  | .step n k => s.stepWork n k 0x14
  | .entry q i =>
    match s.entry q i with
    | none => none
    | some e =>
      match e.memo with
      | [c] => if e.st = .started then
          some { ref := w, desc := e.desc, part := s.qPart q, cluster := c, home := c, step := 0, slot := e.slot, queue := q, epoch := e.epoch,
                 tab := (List.range (e.fld 36 1 % 128)).map (fun k => padTo 80 (s.partRead (s.qPart q) (e.fld 16 8 + 64 * k) 64)), cb := 0, sb := 0 }
        else none
      | _ => none

/-- The result row of a search (VSEARCH queries and results). -/
def State.resultRow (s : State) (x : Search) : Bytes :=
  let done := x.parts.filter (fun p => p.status = 1)
  let sv := sumN (done.map (·.vectors))
  let cov := match x.gen with | none => 0 | some _ => if sv = x.totalVec then 65536 else 65536 * sv / x.totalVec
  let stale := (x.parts.filter (fun p => p.status = 2)).length
  let lost := (x.parts.filter (fun p => p.status = 3)).length
  let fl := b2n (cov < 65536) + 2 * b2n (stale ≠ 0) + 4 * b2n x.truncated + 8 * b2n (x.degraded || s.degraded) + 16 * b2n x.localOnly
  leBytes 4 cov ++ leBytes 2 (x.gen.getD 0) ++ leBytes 2 x.total ++ leBytes 2 done.length ++ leBytes 2 stale ++ leBytes 2 lost ++
    leBytes 1 (min x.k x.hits.length) ++ leBytes 1 fl ++ leBytes 4 x.exp ++ leBytes 4 x.vals ++ leBytes 8 sv ++ leBytes 8 x.totalVec ++ zeros 24 ++
    ((List.range x.k).map (fun i => match x.hits[i]? with
      | some h => leBytes 8 h.2.id ++ leBytes 4 h.2.dist ++ leBytes 1 h.1 ++ zeros 3
      | none => leBytes 8 (2 ^ 64 - 1) ++ zeros 8)).flatten

/-- COVERAGE of a search's row. -/
def State.coverage (s : State) (x : Search) : Nat := fieldLE (s.resultRow x) 0 4

/-- The searches of a VSEARCH, by row. -/
def State.searchesOf (s : State) (w : WRef) : List (Nat × Search) := s.nse.searches.filter (fun (x : Nat × Search) => x.2.ref = w)

/-- s without the searches of a VSEARCH. -/
def State.dropSearches (s : State) (w : WRef) : State :=
  s.modNse (fun n => { n with searches := n.searches.filter (fun (x : Nat × Search) => x.2.ref ≠ w) })

/-- A VSEARCH whose every part is settled writes its rows and retires (R733). -/
def State.settleSearch (s : State) (w : WRef) : State :=
  let xs := (s.searchesOf w).map (·.2)
  if xs = [] || xs.any (fun x => x.parts.any (fun p => p.status = 0)) then s
  else match s.searchWork w with
    | none => s.dropSearches w
    | some k =>
      let puts := (xs.map (fun x => (List.range (64 + 16 * x.k)).map (fun i =>
        (k.out, (⟨i, x.row, 0, 0⟩ : Ix), fieldLE (s.resultRow x) i 1)))).flatten
      let o : OpOut := { OpOut.none_ with puts := puts, work := sumN (xs.map (·.vals)) }
      let cov := xs.foldl (fun b x => min b (s.coverage x)) 65536
      let s1 := ((((s.dropSearches w).putAll o).countOut k o).opCell k o.work)
      let s2 := match w with | .step n _ => s1.modInv n (fun v => { v with coverage := min v.coverage cov }) | .entry _ _ => s1
      if cov = 65536 then (s2.retire k St.success (s2.drawn (2 ^ 32))).draw else s2.retire k St.partial_ cov

/-- A VSEARCH ends without a result: OUT is undefined. -/
def State.failSearch (s : State) (w : WRef) (status detail : Nat) : State :=
  match s.searchWork w with
  | none => s.dropSearches w
  | some k =>
    let o := s.undefOut k.out
    ((((s.dropSearches w).putAll o).drawN o.puts.length).retire k status detail)

/-! ## Parts as their requester sees them (R738 to R743) -/

/-- One part of a search settles: done with what it returned, stale or lost. -/
def State.partSettles (s : State) (id sh holder status : Nat) (f : Search → Search) : State :=
  match aget s.nse.searches id with
  | none => s.count (P.nse 0) R.nseLateDrop
  | some x =>
    if !x.parts.any (fun p => p.shard = sh && p.holder = holder && p.status = 0) then
      s.countO (P.nse 0) R.nseLateDrop 1 (s.chanPart x.channel)
    else
      let x1 := f { x with parts := x.parts.map (fun p => if p.shard = sh && p.holder = holder && p.status = 0 then { p with status := status } else p) }
      let s1 := s.modNse (fun n => { n with searches := aput n.searches id x1 })
      let s2 := if status = 3 then (s1.countO (P.nse 0) R.nseMissing 1 (s.chanPart x.channel)).sentinel (P.nse 0) 4 else s1
      s2.settleSearch x.ref

/-- Entries returned by a part join the merge (R723): the K nearest of all, each with its holder. -/
def mergeHits (metric k holder : Nat) (old : List (Nat × Hit)) (new : List Hit) : List (Nat × Hit) :=
  let rec_ := new.map (fun h => (holder, h))
  ((old ++ rec_).foldl (fun (r : List (Nat × Hit)) x =>
    ((r.takeWhile (fun y => !nearer metric x.2 y.2)) ++ [x] ++ r.dropWhile (fun y => !nearer metric x.2 y.2)).take k) [])

/-- A part is lost (R742). -/
def State.partLost (s : State) (id sh holder : Nat) : State := s.partSettles id sh holder 3 (fun x => x)

/-- A part has been searched. -/
def State.partFound (s : State) (id sh holder exp vals : Nat) (trunc degr : Bool) (hits : List Hit) : State :=
  s.partSettles id sh holder 1 (fun x =>
    let metric := (chanShape ((s.channel x.channel).getD [])).metric
    { x with
      exp := (x.exp + exp) % 2 ^ 32
      vals := (x.vals + vals) % 2 ^ 32
      truncated := x.truncated || trunc
      degraded := x.degraded || degr
      hits := mergeHits metric x.k holder x.hits hits })

/-- A part came back with STALE_MAP; gen is the holder's generation (R740, R741). -/
def State.partStale (s : State) (id sh holder gen : Nat) : State :=
  let own := (aget s.nse.searches id).bind (fun (x : Search) => s.chanPart x.channel)
  let s0 := s.countO (P.nse 0) R.nseStaleRx 1 own
  match aget s0.nse.searches id with
  | none => s0.count (P.nse 0) R.nseLateDrop
  | some x =>
    let mine := s0.mapGen x.channel
    let s1 := if gen = mine || seqLater 16 mine gen then s0 else s0.fetchMap x.channel
    if x.staleFail && x.parts.any (fun p => p.shard = sh && p.holder = holder && p.status = 0) then
      s1.failSearch x.ref St.staleMap (x.gen.getD 0)
    else s1.partSettles id sh holder 2 (fun y => y)

/-! ## Parts on their engines (R708 to R710, R742, R745 to R747) -/

/-- Contexts of engine k in use, and their mode: 1 SWITCH, 2 BEAM. -/
def State.nseUsed (s : State) (k : Nat) : Nat := (s.nse.parts.filter (fun (x : Nat × ShardPart) => (x.2.nse.map (·.1)) = some k)).length
def State.nseMode (s : State) (k : Nat) : Nat :=
  (s.nse.parts.findSome? (fun (x : Nat × ShardPart) => match x.2.nse with | some (j, m) => if j = k then some m else none | none => none)).getD 0

/-- READY engines a channel may use here. -/
def State.nsesFor (s : State) (d : Bytes) : List Nat :=
  (List.range 8).filter (fun k => (fieldLE d 8 1).testBit k && s.ready (P.nse k) && !s.gated (P.nse k))

/-- Contexts of a mode. -/
def modeCtx (m : Nat) : Nat := if m = 2 then 32 else 256

/-- The engines that can take one more part in mode m: those in it with a free context, else idle ones (R709). -/
def State.nseFree (s : State) (d : Bytes) (m : Nat) : List Nat :=
  let up := s.nsesFor d
  let same := up.filter (fun k => s.nseMode k = m && s.nseUsed k < modeCtx m)
  if same ≠ [] then same else up.filter (fun k => s.nseUsed k = 0)

/-- Tell the requester of a part what became of it. -/
def State.tellLost (s : State) (p : ShardPart) : State :=
  match p.origin with
  | none => s.partLost p.search p.shard (s.rd P.fab R.fabStatusDeviceId)
  | some (d, id) => s.unicast d (.searchAnswer id p.shard p.gen 0 0 0 4 [])

/-- Remove a part. -/
def State.dropPart (s : State) (n : Nat) : State := s.modNse (fun x => { x with parts := adel x.parts n })

/-- A waiting part takes a context (R709, R710), or is lost where no engine is READY (R746). -/
def State.placePart (s : State) (n : Nat) : State :=
  match aget s.nse.parts n with
  | none => s
  | some p =>
    if p.nse.isSome then s
    else
      let d := (s.channel p.channel).getD []
      let m := 1 + fieldLE d 3 1 % 2
      if s.nsesFor d = [] || (s.shard p.channel p.shard).isNone then (s.dropPart n).tellLost p
      else
        let l := s.nseFree d m
        match l[s.drawn l.length]? with
        | none => s
        | some k => (s.modNse (fun x => { x with parts := aput x.parts n { p with nse := some (k, m) } })).draw

/-- Every waiting part, oldest first. -/
def State.placeParts (s : State) : State := s.each (s.nse.parts.map (·.1)) State.placePart

/-- A new shard part on this device. -/
def State.addPart (s : State) (p : ShardPart) : State :=
  let n := s.nse.nextPart
  (s.modNse (fun x => { x with parts := aput x.parts n p, nextPart := n + 1 })).placePart n

/-- A record the part read lies on a stack that is not READY, or has an uncorrectable error. -/
def State.recDown (s : State) (m : NsImage) (l : List Nat) : Bool := l.any (fun i => !s.stacksReady (m.recAt i) m.recSize)
def State.recBad (s : State) (m : NsImage) (l : List Nat) : Option Nat := (l.find? (fun i => s.poisoned (m.recAt i) m.recSize)).map m.recAt

/-- Count a finished part on its engine (NSE page registers). -/
def State.partCounts (s : State) (k own : Nat) (remote : Bool) (size : Nat) (o : PartOut) : State :=
  let p := P.nse k
  let s1 := (s.countPN p R.nseParts 1 own).sentinel p 0
  let s2 := if remote then (s1.countPN p R.nseRemote 1 own).sentinel p 1 else s1
  let s3 := ((s2.countPN p R.nseExpansions o.exp own).sentinelN p 2 o.exp).countPN p R.nseValues o.read.length own
  let s4 := (s3.countPN p R.nseReadBytes ((o.read.length + o.exp) * size) own).countPN p R.nsePrefetch (o.ahead * size) own
  let s5 := s4.countPN p R.nsePrefetchWaste (o.waste * size) own
  let s6 := (s5.countPN p R.nseMemWait (s5.drawn (2 ^ 32)) own).draw
  (if o.truncated then s6.countPN p R.nseTruncated 1 own else s6).progress p

/-- SHARD_PART_DONE: a started part runs to its end on its engine (R724 to R726, R742). -/
def shardPartDone (n : Nat) (s : State) : State :=
  match aget s.nse.parts n with
  | none => s
  | some p =>
    match p.nse, s.shard p.channel p.shard, s.channel p.channel with
    | some (k, mode), some h, some d =>
      let s0 := s.dropPart n
      let own := chanOwner d
      let m := s.nsImage h.base
      let o := s.runPart h.base p.row p.k p.list p.hops (if mode = 2 then fieldLE d 3 1 / 16 else 0)
      let out :=
        if !s.ready (P.nse k) || s.recDown m o.read then s0.tellLost p
        else match s.recBad m o.read with
          | some a =>
            let s1 := (((s0.countPN (P.nse k) R.nseUe 1 own).sentinel (P.nse k) 5).cause (P.nse k) 8).raise
              ⟨0x0002, P.nse k, a / 64 * 64, 0xFFFF, 0x14, none, 0xFFFF, s.epoch, some own, k / 4, k, 0⟩
            s1.tellLost p
          | none =>
            let hits := o.hits.map (fun x => { x with id := x.id + p.shard * 2 ^ 32 })
            let s1 := s0.partCounts k own p.origin.isSome m.recSize o
            match p.origin with
            | none => s1.partFound p.search p.shard (s.rd P.fab R.fabStatusDeviceId) o.exp o.read.length o.truncated s.degraded hits
            | some (dev, id) =>
              s1.unicast dev (.searchAnswer id p.shard p.gen h.vectors o.exp o.read.length (b2n o.truncated + 2 * b2n s.degraded) hits)
      (out.settleLeaving).placeParts
    | _, _, _ => ((s.dropPart n).tellLost p).settleLeaving

/-- SHARD_PART_DONE. -/
def execShardPartDone (part : Nat) (s : State) : Outcome State Fault Refusal := .next (shardPartDone part s)

/-- An engine has faulted: the parts on it are lost (R747). -/
def State.loseEngine (s : State) (k : Nat) : State :=
  let l := s.nse.parts.filter (fun (x : Nat × ShardPart) => (x.2.nse.map (·.1)) = some k)
  ((l.foldl (fun t (x : Nat × ShardPart) => (t.dropPart x.1).tellLost x.2) s).settleLeaving).placeParts

/-- ERROR_DETECT: R938 to R942, R122 for the work the error touched, R747 for the parts of an engine. -/
def execErrorDetect (e : ErrEvent) (s : State) : Outcome State Fault Refusal :=
  .next (
    let s1 := if knownCode e.code then (s.detect e).workError e else s
    match pageAt (e.page / 0x1000) with
    | some i => if i.kind = .nse && !s1.ready e.page && s.ready e.page then s1.loseEngine i.inst else s1
    | none => s1)

/-! ## VSEARCH (R730 to R738) -/

/-- A query row, packed as a record's vector. -/
def State.queryRow (s : State) (t : Tens) (r : Nat) : Bytes :=
  let cs := (List.range t.d0).map (fun i => s.code t ⟨i, r, 0, 0⟩)
  if fmtBits t.fmt = 4 then (List.range (t.d0 / 2)).map (fun i => BitVec.ofNat 8 (cs.getD (2 * i) 0 + 16 * cs.getD (2 * i + 1) 0))
  else (cs.map (leBytes (fmtBits t.fmt / 8))).flatten

/-- What a VSEARCH's channel does not admit: the byte of BAD_PARAM (R730, R731; LIST of a GRAPH channel). -/
def State.searchBad (s : State) (w : Work) : Option Nat :=
  match s.channel (w.f 40 1) with
  | none => some 40
  | some d =>
    let c := chanShape d
    if w.queue ≠ 0 && chanOwner d ≠ w.part then some 40
    else if w.in0.fmt ≠ c.fmt || w.in0.d0 ≠ c.dims then some 26
    else if c.graph && (w.f 44 2 < 64 || 1024 < w.f 44 2) then some 44
    else none

/-- Dispatch one row: its local parts, then one REQ to each remote holder (R738, R739, R819). -/
def State.dispatchRow (s : State) (w : Work) (r : Nat) : State :=
  let ch := w.f 40 1
  let me := s.rd P.fab R.fabStatusDeviceId
  let loc := (w.f 43 1).testBit 1
  let id := s.nse.nextSearch
  let ents := s.mapEnts ch
  let av := ents.filter (fun e => e.state = 1 && (!loc || e.device = me))
  let x : Search := { ref := w.ref, row := r, channel := ch, gen := (s.shardMap ch).map (·.gen), total := ents.length,
                      totalVec := sumN (ents.map (·.vectors)), parts := av.map (fun e => ⟨e.shard, e.device, e.vectors, 0⟩), hits := [], exp := 0,
                      vals := 0, truncated := false, degraded := false, localOnly := loc, staleFail := (w.f 43 1).testBit 0, k := w.f 42 1 % 128 }
  let s1 := s.modNse (fun n => { n with searches := aput n.searches id x, nextSearch := id + 1 })
  let row := s.queryRow w.in0 r
  let g := x.gen.getD 0
  let s2 := s1.each (av.filter (fun e => e.device = me)) (fun t e =>
    t.addPart ⟨none, id, ch, e.shard, g, none, row, x.k, w.f 44 2, w.f 46 2⟩)
  let devs := (List.range 64).filter (fun d => d ≠ me && av.any (fun e => e.device = d))
  s2.each devs (fun t d =>
    t.unicast d (.searchReq (id % 2 ^ 32) ch g ((av.filter (fun e => e.device = d)).map (·.shard)) x.k (w.f 44 2) (w.f 46 2) row))

/-- Dispatch every row; one with nothing outstanding is settled at once. -/
def State.dispatch (s : State) (w : Work) : State := (s.each (List.range w.in0.d1) (fun t r => t.dispatchRow w r)).settleSearch w.ref

/-- VSEARCH: dispatched once; it retires when its parts have settled. -/
def vsearch (w : WRef) (s : State) : State :=
  if s.searchesOf w ≠ [] then s
  else match s.work w 0x14 with
    | none => s
    | some k =>
      match w with
      | .entry q i =>
        match (s.opReject k).or ((s.searchBad k).map (fun d => (St.badParam, d))) with
        | some (st, d) => s.draw.finish q i st d
        | none =>
          let s1 := ((s.draw.startEntry q i).modEntry q i (fun e => { e with memo := [k.cluster] })).stepTrace k 0x28 k.epoch
          if s1.readsPoison k then s1.memFail k else s1.dispatch k
      | .step _ _ =>
        match s.searchBad k with
        | some d => s.retire k St.badParam d
        | none => if s.readsPoison k then s.memFail k else s.dispatch k

/-- VSEARCH. -/
def execVsearch (w : WRef) (s : State) : Outcome State Fault Refusal := .next (vsearch w s)

/-! ## Over the fabric (R739, R819) -/

/-- Bounce one shard of a request; the holder fetches where its own generation is the older (R740). -/
def State.bounce (s : State) (src id ch sh gen : Nat) : State :=
  let mine := s.mapGen ch
  let s1 := ((s.countO (P.nse 0) R.nseBounced 1 (s.chanPart ch)).sentinel (P.nse 0) 3).unicast src (.searchBounce id sh mine)
  if (s.shardMap ch).isNone || seqLater 16 gen mine then s1.fetchMap ch else s1

/-- SEARCH_REQ: one ANSWER or BOUNCE a shard. A quarantined device bounces (R755; log entry 63). -/
def execSearchReq (port : Nat) (frame : MFrame) (s : State) : Outcome State Fault Refusal :=
  .next (s.fabFor port frame (fun t =>
    match frame.body with
    | .searchReq id ch gen shards k list hops row =>
      t.each shards (fun u sh =>
        let held := match u.shard ch sh with | some h => h.leaving.isNone && !h.check | none => false
        if u.quarantined || (u.shardMap ch).map (·.gen) ≠ some gen || !held then u.bounce frame.src id ch sh gen
        else u.addPart ⟨some (frame.src, id), 0, ch, sh, gen, none, row, k, list, hops⟩)
    | _ => t))

/-- SEARCH_ANSWER: the part joins its search, or is late (R743). -/
def execSearchAnswer (port : Nat) (frame : MFrame) (s : State) : Outcome State Fault Refusal :=
  .next (s.fabFor port frame (fun t =>
    match frame.body with
    | .searchAnswer id sh _ _ exp vals flags hits =>
      if flags.testBit 2 then t.partLost id sh frame.src
      else t.partFound id sh frame.src exp vals (flags.testBit 0) (flags.testBit 1) hits
    | _ => t))

/-- SEARCH_BOUNCE. -/
def execSearchBounce (port : Nat) (frame : MFrame) (s : State) : Outcome State Fault Refusal :=
  .next (s.fabFor port frame (fun t =>
    match frame.body with
    | .searchBounce id sh gen => t.partStale id sh frame.src gen
    | _ => t))

/-- HOLDER_UNREACHABLE: parts outstanding there are lost (R742); the manager's commit counts the failure (R812), and its
maps lose the holder (R735). -/
def holderUnreachable (d : Nat) (s : State) : State :=
  if 64 ≤ d || d = s.rd P.fab R.fabStatusDeviceId || s.reachable d then s
  else
    let out := (s.nse.searches.map (fun (x : Nat × Search) => (x.2.parts.filter (fun p => p.holder = d && p.status = 0)).map (fun p => (x.1, p.shard)))).flatten
    let s1 := out.foldl (fun t (x : Nat × Nat) => t.partLost x.1 x.2 d) s
    if s1.role = 2 then (s1.quadFail 5 d).holderGone d else s1

/-- HOLDER_UNREACHABLE. -/
def execHolderUnreachable (device : Nat) (s : State) : Outcome State Fault Refusal := .next (holderUnreachable device s)

/-- SHARD_RESTORE: after a warm reset a shard's DIGEST is checked again (R748). -/
def shardRestore (ch sh : Nat) (s : State) : State :=
  match s.shard ch sh, s.channel ch with
  | some h, some d =>
    if !h.check then s
    else
      let c := chanShape d
      let n := 256 + h.vectors * c.recSize
      if !s.poisoned h.base n && nsDigestOk c c.recSize h.vectors (s.devRead h.base n) then
        let h1 := { h with check := false }
        (s.modNse (fun x => { x with shards := x.shards.map (fun y => if y = h then h1 else y) })).announceShard h1
      else (s.modNse (fun x => { x with shards := x.shards.filter (· ≠ h) })).countO (P.nse 0) R.nseRestoreFail 1 (s.chanPart ch)
  | _, _ => s

/-- SHARD_RESTORE. -/
def execShardRestore (channel shard : Nat) (s : State) : Outcome State Fault Refusal := .next (shardRestore channel shard s)

end Sys2Proof.Machine
end

