-- ==== Sys2Proof/Machine/Trust.lean ====
section
/-! DEFINITION. Machine/Trust.lean: partition records, secure boot, firmware update, measurements and attestation
(09). -/

namespace Sys2Proof.Machine

open Host (Outcome)

/-! ## Partition records (R412 to R418) -/

/-- Bits of each record byte that carry fields, regions and keys apart; the rest are reserved. -/
def recMask (o : Nat) : Nat :=
  if o = 0 then 3 else if o = 5 then 7 else if o = 0x23 then 0x1F else if o = 0x27 then 0x3F
  else if o = 1 || o = 0xB then 0
  else if o < 0x27 then 0xFF else 0

/-- Bits of byte o of a region entry, or of a key entry, that carry fields. -/
def regionMask (o : Nat) : Nat := if o < 20 then 0xFF else if o = 20 then 3 else 0
def keyMask (o : Nat) : Nat := if o < 4 then 0xFF else if 8 ≤ o && o < 104 then 0xFF else 0

/-- Field bits of byte o of a record with n regions in use (R413). -/
def recordMask (n o : Nat) : Nat :=
  if o < 0x100 then recMask o
  else if o < 0x500 then (if (o - 0x100) / 32 < n then regionMask ((o - 0x100) % 32) else 0)
  else if o < 0x700 then keyMask ((o - 0x500) % 128)
  else 0

/-- Offsets of record bytes with a reserved bit set. -/
def recReserved (r : Memory) : List Nat :=
  let n := leNat (Memory.read r 0x27 1) % 64
  (r.filter (fun c => 2048 ≤ c.1 || (c.2.toNat &&& (0xFF - recordMask n c.1)) ≠ 0)).map (·.1)

/-- Two ranges [a, a1) and [b, b1) overlap. -/
def rangesMeet (a a1 b b1 : Nat) : Bool := a < b1 && b < a1

/-- Ranges of banks in use. -/
def State.bankRanges (s : State) : List (Nat × Nat) :=
  ((s.mods.slots.map (fun x => [(x.2.b0.base, x.2.b0.base + x.2.b0.size), (x.2.b1.base, x.2.b1.base + x.2.b1.size)])).flatten).filter
    (fun x => x.1 < x.2)

/-- A region may take its device range (R420): in memory, off the reserve, the flow table, banks, and other
partitions' regions where either may write. -/
def State.regionPlaced (s : State) (p : Nat) (g : Region) : Bool :=
  g.dbase % 2 ^ 21 = 0 && 0x40000000 ≤ g.dbase && g.dbase + g.size ≤ s.part.code.flowBase &&
  !(s.bankRanges.any (fun b => rangesMeet g.dbase (g.dbase + g.size) b.1 b.2)) &&
  s.trust.records.all (fun x => x.1 = p || (recRegions x.2).all (fun h =>
    !rangesMeet g.dbase (g.dbase + g.size) h.dbase (h.dbase + h.size) || (!g.wr && !h.wr)))

/-- Signature kind and key of the image in a bank (05, Image format). -/
def State.bankSig (s : State) (k : Bank) : Nat × Nat :=
  let n := fieldLE (s.devRead (k.base + 8) 8) 0 8
  let sig := s.devRead (k.base + n - 256) 8
  (fieldLE sig 0 2, fieldLE sig 4 4)

/-- Banks of partition p in STAGED, LIVE or DRAINING. -/
def State.partBanks (s : State) (p : Nat) : List Bank :=
  ((s.mods.slots.filter (fun x => x.2.owned && x.2.owner = p)).map (fun x => [x.2.b0, x.2.b1])).flatten.filter (fun k => 2 ≤ k.state)

/-- KEY_ID and public key of entry k of a record. -/
def recKey (r : Memory) (k : Nat) : Nat × Bytes :=
  (leNat (Memory.read r (0x500 + 128 * k) 4), Memory.read r (0x508 + 128 * k) 96)

/-- Offsets that R434 refuses: the key of a bank in use gone or changed, REQUIRE_SIGNED over an unsigned bank. -/
def State.keyFaults (s : State) (p : Nat) (r : Memory) : List Nat :=
  let old := s.record p
  ((s.partBanks p).map (fun b =>
    let g := s.bankSig b
    if g.1 ≠ 1 then (if (leNat (Memory.read r 0 1)).testBit 1 then [0] else [])
    else match (List.range 4).find? (fun k => (recKey old k).1 = g.2) with
      | none => []
      | some k => match (List.range 4).find? (fun j => (recKey r j).1 = g.2) with
        | none => [0x500 + 128 * k]
        | some j => if (recKey r j).2 = (recKey old k).2 then [] else [0x500 + 128 * j])).flatten

/-- Offsets of every field that a WRITE of record r for partition p finds wrong. -/
def State.recFaults (s : State) (p : Nat) (r : Memory) : List Nat :=
  let f := fun o n => leNat (Memory.read r o n)
  let bad := fun (b : Bool) (o : Nat) => if b then [o] else []
  let gs := recRegions r
  recReserved r ++ bad (1023 < f 2 2) 2 ++ bad (24 < f 4 1) 4 ++
  bad (16 < f 6 1 || (f 6 1 = 0 && (f 0 1).testBit 0)) 6 ++ bad (256 < f 8 2) 8 ++
  bad (256 < f 0xC 2 || 256 < f 0xA 1 + f 0xC 2) 0xC ++ bad (f 0x10 8 % 2 ^ 21 ≠ 0) 0x10 ++
  bad (f 0x18 8 % 2 ^ 21 ≠ 0 || 2 ^ 40 ≤ f 0x18 8) 0x18 ++ bad (2 ^ 28 < f 0x20 4) 0x20 ++ bad (32 < f 0x27 1 % 64) 0x27 ++
  ((List.range gs.length).map (fun i =>
    match gs[i]? with
    | none => []
    | some g =>
      bad (g.pbase % 2 ^ 21 ≠ 0 || 2 ^ 40 < g.pbase + g.size ||
        (gs.take i).any (fun h => rangesMeet g.pbase (g.pbase + g.size) h.pbase (h.pbase + h.size))) (0x100 + 32 * i) ++
      bad (!s.regionPlaced p g) (0x108 + 32 * i) ++
      bad (g.size = 0 || 2 ^ 40 < g.size) (0x110 + 32 * i))).flatten ++
  ((List.range 4).map (fun k => bad ((recKey r k).1 ≠ 0 && (List.range k).any (fun j => (recKey r j).1 = (recKey r k).1))
    (0x500 + 128 * k))).flatten ++
  s.keyFaults p r

/-- Partition p has a queue or a persistent task. -/
def State.partBusy (s : State) (p : Nat) : Bool :=
  s.fe.queues.any (fun x => x.1 ≠ 0 && x.2.qcb.part = p) || (p = 0 && (s.queue 0).isSome) || s.fe.tasks.any (fun t => t.2.part = p)

/-- R416: the record clears ENABLED, removes a region or changes a mapping of a partition in use. -/
def State.recInUse (s : State) (p : Nat) (r : Memory) : Bool :=
  s.partBusy p && ((s.partOn p && !(leNat (Memory.read r 0 1)).testBit 0) ||
    (recRegions (s.record p)).any (fun g => !(recRegions r).any (fun h => h.pbase = g.pbase && h.dbase = g.dbase && h.size = g.size)))

/-- Least of a list of offsets. -/
def leastOffset (l : List Nat) : Option Nat := l.foldl (fun b x => match b with | none => some x | some y => some (min x y)) none

/-- Apply a record (R413), measured into M3. -/
def State.setRecord (s : State) (p : Nat) (bs : Bytes) : State :=
  let r := Memory.write [] 0 bs
  let s1 := ({ s with trust := { s.trust with records := aput s.trust.records p r } }).extend 3 (sha384 bs)
  s1.wr P.part R.partEnabled (putBits (s1.rd P.part R.partEnabled) p 1 (leNat (Memory.read r 0 1)))

/-- PARTITION_CONFIG WRITE (0x53, OP 0): R412 to R416. -/
def partitionConfigWrite (i : Nat) (s : State) : State :=
  match s.entry 0 i with
  | none => s
  | some e =>
    if e.fld 17 1 % 2 ≠ 0 then s
    else if !s.hostGo 0 [e.fld 24 8] then s.count P.dma R.dmaBmeWait
    else s.withCmd 0 i 0x53 (fun t e =>
      let p := e.fld 16 1 % 16
      if t.spPoisoned 0 (e.fld 24 8) 2048 then t.memError 0 i 0 (spaceAddr (e.fld 24 8))
      else
        let bs := t.spRead 0 (e.fld 24 8) 2048
        let r := Memory.write [] 0 bs
        let t1 := t.hostSide (e.fld 24 8) 2048 false
        match leastOffset (t1.recFaults p r) with
        | some o => t1.finish 0 i St.badParam o
        | none =>
          if t1.recInUse p r then t1.finish 0 i St.queueState p
          else (t1.setRecord p bs).finishAny 0 i St.success)

/-- PARTITION_CONFIG_WRITE. -/
def execPartitionConfigWrite (i : Nat) (s : State) : Outcome State Fault Refusal := .next (partitionConfigWrite i s)

/-- PARTITION_CONFIG READ (OP 1). -/
def partitionConfigRead (i : Nat) (s : State) : State :=
  match s.entry 0 i with
  | none => s
  | some e =>
    if e.fld 17 1 % 2 ≠ 1 then s
    else if !s.hostGo 0 [e.fld 24 8] then s.count P.dma R.dmaBmeWait
    else s.withCmd 0 i 0x53 (fun t e =>
      let bs := Memory.read (t.record (e.fld 16 1 % 16)) 0 2048
      ((t.spWrite 0 (e.fld 24 8) 0 bs).hostSide (e.fld 24 8) 2048 true).finishAny 0 i St.success)

/-- PARTITION_CONFIG_READ. -/
def execPartitionConfigRead (i : Nat) (s : State) : Outcome State Fault Refusal := .next (partitionConfigRead i s)

/-! ## Bundles (R424 to R428) -/

/-- Header field of a bundle. -/
def bundleFld (m : Memory) (o n : Nat) : Nat := leNat (Memory.read m o n)

/-- SVN and key slot of a flash bank. -/
def FwBank.svn : FwBank → Nat
  | .factory => Config.factoryHeader 0 % 64
  | .written m _ => bundleFld m 6 1
def FwBank.keyIndex : FwBank → Nat
  | .factory => Config.factoryHeader 1 % 4
  | .written m _ => bundleFld m 7 1
def FwBank.version : FwBank → Nat
  | .factory => Config.fwVersion % 2 ^ 32
  | .written m _ => bundleFld m 8 4
def FwBank.cls : FwBank → Nat
  | .factory => Config.fwClass % 256
  | .written m _ => bundleFld m 12 1

/-- The first failure of a bundle of n bytes, in the order of R431's reasons: 0x20 to 0x23. -/
def State.bundleFault (s : State) (m : Memory) (n : Nat) : Option Nat :=
  let st1 := bundleFld m 16 8
  let size := bundleFld m 24 8
  let key := bundleFld m 7 1
  let pub := Memory.read m 32 96
  if bundleFld m 0 4 ≠ 0x57465844 || bundleFld m 4 2 ≠ 1 || size ≠ n || 2 ^ 23 < n || n < 512 || n < 512 + st1 then some 0x20
  else if 4 ≤ key || s.part.revoked.testBit key || s.part.rootHash[key]? ≠ some (sha384 pub) then some 0x21
  else if bundleFld m 6 1 < s.part.fuseSvn || 64 ≤ bundleFld m 6 1 then some 0x22
  else if !Config.ecdsaVerify pub (sha384 (Memory.read m 0 128 ++ Memory.read m 512 st1)) (Memory.read m 128 96) ||
    !Config.ecdsaVerify pub (sha384 (Memory.read m 0 128 ++ Memory.read m 512 (n - 512))) (Memory.read m 224 96) then some 0x23
  else none

/-- The ROM accepts stage 1 of a flash bank (R424); the shipped bundle's signature holds (log entry 3). -/
def State.stage1Ok (s : State) (b : FwBank) : Bool :=
  match b with
  | .factory => !s.part.revoked.testBit b.keyIndex && s.part.fuseSvn ≤ b.svn
  | .written m n =>
    let pub := Memory.read m 32 96
    bundleFld m 0 4 = 0x57465844 && bundleFld m 4 2 = 1 && 512 + bundleFld m 16 8 ≤ n && b.keyIndex < 4 &&
    !s.part.revoked.testBit b.keyIndex && s.part.rootHash[b.keyIndex]? = some (sha384 pub) && s.part.fuseSvn ≤ b.svn && b.svn < 64 &&
    Config.ecdsaVerify pub (sha384 (Memory.read m 0 128 ++ Memory.read m 512 (bundleFld m 16 8))) (Memory.read m 128 96)

/-- Stage 1 accepts the rest (R425). -/
def bundleOk : FwBank → Bool
  | .factory => true
  | .written m n => 512 ≤ n && bundleFld m 24 8 = n && Config.ecdsaVerify (Memory.read m 32 96)
      (sha384 (Memory.read m 0 128 ++ Memory.read m 512 (n - 512))) (Memory.read m 224 96)

/-- The valid descriptor copy with the higher SEQ. -/
def State.bootCopy (s : State) : Option Nat :=
  (List.range s.trust.descs.length).foldl (fun b k =>
    match s.trust.descs[k]?, b with
    | some d, none => if d.valid then some k else none
    | some d, some j => if d.valid && ((s.trust.descs[j]?.map (·.seq)).getD 0) < d.seq then some k else some j
    | none, _ => b) none

/-- The bank that the descriptor in force names. -/
def State.activeBank (s : State) : Nat := ((s.bootCopy.bind (fun k => s.trust.descs[k]?)).map (·.active)).getD 0

/-- Flash bank b. -/
def State.flashBank (s : State) (b : Nat) : FwBank := (s.trust.banks[b]?).getD .factory

/-- M0 to M2 as the ROM extends them for bank b, from zero (R435). -/
def State.measureBoot (s : State) (b : Nat) : State :=
  let k := s.flashBank b
  let d1 := match k with | .factory => Config.factoryDigest 0 | .written m _ => sha384 (Memory.read m 0 (512 + bundleFld m 16 8))
  let d2 := match k with | .factory => Config.factoryDigest 1 | .written m n => sha384 (Memory.read m 0 n)
  let z := { s with trust := { s.trust with meas := s.trust.meas.mapIdx (fun j v => if j < 3 then zeros 48 else v) } }
  ((z.extend 0 (Config.romMeasure s.part.rootHash s.part.revoked s.part.fuseSvn)).extend 1 d1).extend 2 d2

/-- A failed bank (R426): counted, and the other bank tried by cause BOOT_FALLBACK. -/
def State.bootFail (s : State) (last : Bool) : State :=
  let s1 := s.count P.trust R.trustBootFail
  if last then
    let s2 := (s1.perr P.trust 0x0100).raise (plainErr 0x0013 P.trust 0 2 0 0)
    { s2 with trust := { s2.trust with spiOff := true, stage1 := none } }
  else s1.cause P.trust 8

/-- R424, R426: stage 1 of the active bank, else of the other. -/
def bootRom (s : State) : State :=
  if !s.pins.pwrGood || s.pins.perst || s.trust.spiOff || s.trust.stage1.isSome then s
  else
    let a := s.activeBank
    if s.stage1Ok (s.flashBank a) then
      let s1 := s.measureBoot a
      { s1 with trust := { s1.trust with stage1 := some a } }
    else if s.stage1Ok (s.flashBank (1 - a)) then
      let s1 := (s.bootFail false).measureBoot (1 - a)
      { s1 with trust := { s1.trust with stage1 := some (1 - a) } }
    else (s.bootFail false).bootFail true

/-- BOOT_ROM. -/
def execBootRom (s : State) : Outcome State Fault Refusal := .next (bootRom s)

/-- R428: PENDING of the descriptor that selected bank b burns fuses and is cleared in a new copy. -/
def State.burnPending (s : State) (b : Nat) : State :=
  match s.bootCopy with
  | none => s
  | some k =>
    match s.trust.descs[k]? with
    | none => s
    | some d =>
      if d.active ≠ b || d.pending = 0 then s
      else
        let f := s.flashBank b
        let p1 := if d.pending.testBit 0 then { s.part with fuseSvn := max s.part.fuseSvn f.svn } else s.part
        let p2 := if d.pending.testBit 1 then { p1 with revoked := p1.revoked ||| (2 ^ f.keyIndex - 1) } else p1
        { s with part := p2, trust := { s.trust with descs := s.trust.descs.set (1 - k) { d with seq := d.seq + 1, pending := 0 } } }

/-- TRUST_BOOT and TRUST_REVOKED show the bundle that booted and the fuses. -/
def State.showBoot (s : State) (b : Nat) : State :=
  ((((s.wr P.trust R.trustBootBank b).wr P.trust R.trustBootKeyIndex (s.flashBank b).keyIndex).wr P.trust R.trustBootFwSvn
    (s.flashBank b).svn).wr P.trust R.trustBootFuseSvn s.part.fuseSvn).wr P.trust R.trustRevoked s.part.revoked

/-- After a warm reset M3 takes each retained record in partition order (R435). -/
def State.remeasureRecords (s : State) : State :=
  if 2 ≤ s.rd P.rst R.rstCause then
    s.each (List.range 16) (fun t p => t.extend 3 (sha384 (Memory.read (t.record p) 0 2048)))
  else s

/-- R425, R426, R428: the whole bundle of the bank that stage 1 came from, else the other bank from its stage 1. -/
def bundleVerify (s : State) : State :=
  match s.trust.stage1 with
  | none => s
  | some b =>
    if s.trust.booted.isSome || !s.ready P.hk then s
    else if bundleOk (s.flashBank b) then
      let s1 := s.burnPending b
      ({ s1 with trust := { s1.trust with booted := some b } }).showBoot b |>.remeasureRecords
    else
      let s1 := s.bootFail false
      if b = s.activeBank && s1.stage1Ok (s1.flashBank (1 - b)) then
        let s2 := s1.measureBoot (1 - b)
        { s2 with trust := { s2.trust with stage1 := some (1 - b) } }
      else s1.bootFail true

/-- BUNDLE_VERIFY. -/
def execBundleVerify (s : State) : Outcome State Fault Refusal := .next (bundleVerify s)

/-- FIRMWARE_UPDATE (0x5E): R429 to R431. flashOk: the flash writes and reads back. -/
def firmwareUpdate (i : Nat) (flashOk : Bool) (s : State) : State :=
  match s.entry 0 i with
  | none => s
  | some e =>
    if !s.hostGo 0 [e.fld 16 8] then s.count P.dma R.dmaBmeWait
    else s.withCmd 0 i 0x5E (fun t e =>
      let src := e.fld 16 8
      let n := e.fld 24 8
      let fl := e.fld 32 1
      if 2 ^ 23 < n then t.finish 0 i St.imageRejected 0x20
      else if t.spPoisoned 0 src n then t.memError 0 i 0 (spaceAddr src)
      else
        let bs := t.spRead 0 src n
        let m := Memory.write [] 0 bs
        let t1 := t.hostSide src n false
        match t1.bundleFault m n with
        | some r => t1.finish 0 i St.imageRejected r
        | none =>
          let dst := 1 - t1.activeBank
          let put := fun (f : FwBank) => { t1 with trust := { t1.trust with banks := t1.trust.banks.set dst f } }
          if !flashOk then (put (.written [] 0)).finish 0 i St.imageRejected 0x24
          else
            let t2 := (put (.written m n)).extend 4 (sha384 bs)
            let t3 := if !fl.testBit 0 then t2 else
              match t2.bootCopy with
              | none => t2
              | some k =>
                let d : BootDesc := ⟨((t2.trust.descs[k]?.map (·.seq)).getD 0) + 1, dst, bits fl 1 2, true⟩
                { t2 with trust := { t2.trust with descs := t2.trust.descs.set (1 - k) d } }
            t3.finish 0 i St.success dst)

/-- FIRMWARE_UPDATE. -/
def execFirmwareUpdate (i : Nat) (flashOk : Bool) (s : State) : Outcome State Fault Refusal := .next (firmwareUpdate i flashOk s)

/-! ## Attestation (R436 to R439) -/

/-- LIVE banks owned by partition p, by slot: slot, bank number, bank. -/
def State.liveBanks (s : State) (p : Nat) : List (Nat × Nat × Bank) :=
  s.mods.slots.filterMap (fun x => if x.2.owned && x.2.owner = p then (x.2.inState 3).map (fun b => (x.1, b, x.2.bank b)) else none)

/-- SVN and key slot of the booted bundle. -/
def State.bootSvn (s : State) : Nat := (s.trust.booted.map (fun b => (s.flashBank b).svn)).getD 0
def State.bootKey (s : State) : Nat := (s.trust.booted.map (fun b => (s.flashBank b).keyIndex)).getD 0

/-- The signed part of a REPORT. -/
def State.reportBody (s : State) (p : Nat) (nonce : Bytes) : Bytes :=
  let live := s.liveBanks p
  let r := Memory.read (s.record p) 0 2048
  let head := leBytes 4 0x54505241 ++ leBytes 2 1 ++ leBytes 1 p ++ leBytes 1 (b2n (s.requireSigned p) + 2 * b2n s.degraded) ++
    leBytes 4 (0x400 + 64 * live.length + 96) ++ leBytes 4 live.length ++ padTo 32 nonce ++ leBytes 8 Config.serial ++
    leBytes 4 s.part.code.devCode ++ leBytes 1 Config.stepping ++ leBytes 1 (s.rd P.dev R.devFwClass) ++ zeros 2 ++
    leBytes 4 (s.rd P.dev R.devFwVersion) ++ leBytes 1 s.bootSvn ++ leBytes 1 s.part.fuseSvn ++ leBytes 1 s.bootKey ++
    leBytes 1 (s.trust.booted.getD 0) ++ leBytes 2 s.epoch ++ leBytes 1 s.gen ++ zeros 5 ++ leBytes 8 s.fns ++ zeros 8 ++
    (s.trust.meas.map (padTo 48)).flatten
  let keys := ((List.range 4).map (fun k => if (recKey (s.record p) k).1 = 0 then zeros 48 else sha384 (recKey (s.record p) k).2)).flatten
  padTo 0x400 (padTo 0x1E0 head ++ sha384 r ++ keys ++ padTo 96 (Config.publicKey 1)) ++
  (live.map (fun x =>
    let g := s.bankSig x.2.2
    padTo 64 (leBytes 1 x.1 ++ leBytes 1 x.2.1 ++ leBytes 1 (b2n (g.1 = 1)) ++ zeros 1 ++ leBytes 4 g.2 ++ leBytes 2 x.2.2.fromE ++
      zeros 6 ++ padTo 48 x.2.2.digest))).flatten

/-- The output of an ATTEST: 0 REPORT, 1 DEVICEID_CERT, 2 ALIAS_ENDORSEMENT. -/
def State.attestOutput (s : State) (mode p : Nat) (nonce : Bytes) : Bytes :=
  if mode = 0 then
    let b := s.reportBody p nonce
    b ++ padTo 96 (Config.ecdsaSign 1 (sha384 b))
  else if mode = 1 then Config.deviceCert
  else
    let b := padTo 96 (Config.publicKey 1) ++ ((s.trust.meas.take 3).map (padTo 48)).flatten ++ leBytes 1 s.bootSvn ++ leBytes 1 s.part.fuseSvn
    b ++ padTo 96 (Config.ecdsaSign 0 (sha384 b))

/-- ATTEST (0x5B) in one mode: R437 to R439. -/
def attest (mode i : Nat) (s : State) : State :=
  match s.entry 0 i with
  | none => s
  | some e =>
    if e.fld 17 1 % 4 ≠ mode then s
    else if !s.hostGo 0 ([e.fld 24 8] ++ (if mode = 0 then [e.fld 32 8] else [])) then s.count P.dma R.dmaBmeWait
    else s.withCmd 0 i 0x5B (fun t e =>
      let p := e.fld 16 1 % 16
      if mode = 0 && t.spPoisoned 0 (e.fld 32 8) 32 then t.memError 0 i 0 (spaceAddr (e.fld 32 8))
      else
        let out := t.attestOutput mode p (t.spRead 0 (e.fld 32 8) 32)
        if e.fld 40 4 < out.length then t.finish 0 i St.badParam 40
        else ((t.spWrite 0 (e.fld 24 8) 0 out).hostSide (e.fld 24 8) out.length true).finish 0 i St.success out.length)

/-- ATTEST_REPORT. -/
def execAttestReport (i : Nat) (s : State) : Outcome State Fault Refusal := .next (attest 0 i s)

/-- ATTEST_DEVICEID_CERT. -/
def execAttestDeviceidCert (i : Nat) (s : State) : Outcome State Fault Refusal := .next (attest 1 i s)

/-- ATTEST_ALIAS_ENDORSEMENT. -/
def execAttestAliasEndorsement (i : Nat) (s : State) : Outcome State Fault Refusal := .next (attest 2 i s)

end Sys2Proof.Machine
end

