-- ==== Sys2Proof/Machine/Grant.lean ====
section
/-! DEFINITION. Machine/Grant.lean: the grant of a head entry and the checks of its descriptor (02 R54, R57 to R63; the
bodies of 02, 03, 05, 09, 11, 12, 15, 19), and a failed host read (09 R406). -/

namespace Sys2Proof.Machine

open Host (Outcome)

/-! ## Encodings -/

/-- Bits that an address field with a SPACE bit may have set (R58). -/
def spaceMask : Nat := 2 ^ 64 - 1 - 0x3E

/-- The body fields of a command: offset, bytes, assigned bits. Every other bit of bytes 16 to 63 is reserved. -/
def bodyFields (d : Bytes) : List (Nat × Nat × Nat) :=
  let all := fun (n : Nat) => 2 ^ (8 * n) - 1
  let sp := fun (o : Nat) => (o, 8, spaceMask)
  let launch := [(16, 2, 0xFF), (18, 2, 0xF), (20, 4, all 4), sp 24, (32, 8, if fieldLE d 40 2 = 0 then all 8 else spaceMask),
    (40, 2, all 2), (42, 2, all 2)]
  match fieldLE d 0 1 with
  | 0x41 => launch
  | 0x42 => launch ++ [(44, 2, 0xFF), (46, 1, 0x1F), (47, 1, 0x7F)]
  | 0x43 => [(16, 2, 0xFF), (18, 1, 1)]
  | 0x44 => [(16, 2, 0x3FF), (18, 2, all 2), (20, 2, all 2)]
  | 0x45 => [sp 16, sp 24, (32, 4, all 4)]
  | 0x46 => [(16, 1, 3), (17, 1, 0x1F), (20, 4, all 4), sp 24, sp 32, sp 40, (48, 2, all 2)]
  | 0x47 => [(16, 1, 7), (17, 1, 0xF), (20, 4, all 4), sp 24, (32, 16, all 16)]
  | 0x50 => [(16, 2, all 2), (18, 1, 0xF), (19, 1, 7), (20, 1, 0x1F), (21, 1, 0x1F), (22, 2, 0x7FF), sp 24, sp 32, (40, 1, 0xFF),
      (41, 1, 1)]
  | 0x51 => [(16, 2, all 2), (18, 1, 1)]
  | 0x52 => [(16, 1, 0x1F)]
  | 0x53 => [(16, 1, 0xF), (17, 1, 1), sp 24]
  | 0x54 => [(16, 2, 0xFF), (18, 1, 0xF), sp 24, (32, 8, all 8)]
  | 0x55 => [(16, 32, all 32), (48, 2, all 2), (50, 1, 1), (52, 8, if fieldLE d 50 1 % 2 = 1 then all 8 else 0)]
  | 0x56 => [(16, 2, 0xFF), (18, 1, 1)]
  | 0x57 => [sp 16, (24, 8, all 8), (32, 1, 1)]
  | 0x58 => [(16, 1, 7)]
  | 0x59 => [(16, 1, 3), (17, 1, if (fieldLE d 16 1).testBit 1 then 0xF else 0x3F), (18, 1, 1), (20, 4, all 4)]
  | 0x5A => [(16, 1, 1), (17, 1, 1), (24, 6, all 6), (30, 2, 0xFFF), (32, 1, 0x3F), (33, 1, 0xF)]
  | 0x5B => [(16, 1, 0xF), (17, 1, 3), sp 24, sp 32, (40, 4, all 4)]
  | 0x5C => [(16, 1, 1), (18, 2, all 2), sp 24, (32, 4, all 4)]
  | 0x5D => [(16, 1, 0xFF), (17, 1, 7), (20, 2, 0xFFF), sp 24, (32, 8, all 8)]
  | 0x5E => [sp 16, (24, 8, all 8), (32, 1, 7)]
  | _ => []

/-- The header's fields (02, Command descriptors): EPOCH is one only with EPOCH_PIN. -/
def headFields (d : Bytes) : List (Nat × Nat × Nat) :=
  [(0, 1, 0xFF), (1, 1, 7), (2, 2, 0xFFFF), (4, 2, 0x83FF), (6, 2, if (fieldLE d 1 1).testBit 2 then 0xFFFF else 0), (8, 8, 2 ^ 64 - 1)]

/-- The first byte of [lo, hi) that holds a bit no field of the list assigns (R10, R11). -/
def reservedByte (d : Bytes) (fs : List (Nat × Nat × Nat)) (lo hi : Nat) : Option Nat :=
  ((List.range (hi - lo)).map (· + lo)).find? (fun o =>
    let v := fieldLE d o 1
    let m := match fs.find? (fun (x : Nat × Nat × Nat) => x.1 ≤ o && o < x.1 + x.2.1) with
      | some x => bits x.2.2 (8 * (o - x.1)) 8
      | none => 0
    v &&& m ≠ v)

/-- CODE is assigned (R59; 03 R144). -/
def codeAssigned (c : Nat) : Bool := opAssigned c || (0x40 ≤ c && c ≤ 0x47) || (0x50 ≤ c && c ≤ 0x5E)

/-- CODE is a single operation's (R39). -/
def codeOp (c : Nat) : Bool := c < 0x40

/-- Legal on queue 0 only (R62). -/
def codePriv (c : Nat) : Bool := 0x50 ≤ c && c ≤ 0x5E

/-- The first reserved encoding of bytes 16 to 63: reserved bits, unassigned codes of enumerated fields, and the ring
sizes of QUEUE_CREATE (R43). -/
def bodyReserved (d : Bytes) : Option Nat :=
  let c := fieldLE d 0 1
  let log := fun (o : Nat) => if fieldLE d o 1 < 4 || 16 < fieldLE d o 1 then [o] else []
  if codeOp c then opReserved d true
  else leastOf ((match reservedByte d (bodyFields d) 16 64 with | some o => [o] | none => []) ++
    (if c = 0x50 then log 20 ++ log 21 else []) ++
    (if c = 0x47 && fieldLE d 16 1 % 4 = 3 then [16] else []) ++
    (if c = 0x5B && fieldLE d 17 1 % 4 = 3 then [17] else []) ++
    (if c = 0x5D && 5 ≤ fieldLE d 17 1 % 8 then [17] else []))

/-! ## Values legal in encoding but invalid -/

/-- A TABLE_QUERY or TABLE_WRITE reaches beyond its queue's partition (12 R602). -/
def State.tablePartBad (s : State) (q : Nat) (d : Bytes) : Bool :=
  q ≠ 0 && ((fieldLE d 17 1).testBit 4 || fieldLE d 17 1 % 16 ≠ s.qPart q)

/-- Field offsets whose value is out of its stated range, in any order. -/
def State.paramFaults (s : State) (q : Nat) (d : Bytes) : List Nat :=
  let c := fieldLE d 0 1
  let f := fun (o n : Nat) => fieldLE d o n
  let bad := fun (b : Bool) (o : Nat) => if b then [o] else []
  let launch := bad (f 20 4 % 64 ≠ 0 || 65536 < f 20 4) 20 ++ bad (spaceHost (f 24 8)) 24 ++
    bad (f 40 2 ≠ 0 && spaceHost (f 32 8)) 32 ++ bad (256 < f 40 2) 40
  if codeOp c then
    bad (opGraphOnly c) 0 ++ bad (spaceHost (f 16 8)) 16 ++ bad (f 36 1 < 1 || 64 < f 36 1) 36 ++
    (match opParamBad d (f 36 1) with | some o => [o] | none => [])
  else match c with
  | 0x41 => launch
  | 0x42 => launch ++ bad (f 46 1 < 6 || 16 < f 46 1) 46 ++ bad (f 47 1 < 1 || 64 < f 47 1) 47
  | 0x44 =>
    let tq := f 16 2
    bad (tq = q || (q ≠ 0 && (s.queue tq).isSome && s.qPart tq ≠ s.qPart q)) 16 ++
    bad (f 20 2 = 0 || (match s.queue tq with | some r => decide (r.qcb.sqSize ≤ f 20 2) | none => false)) 20
  | 0x45 => bad (f 32 4 % 64 ≠ 0 || f 32 4 = 0 || 2 ^ 30 < f 32 4) 32
  | 0x46 => bad (s.tablePartBad q d) 17 ++ bad ((f 16 1).testBit 1 && (f 48 2 = 0 || 4096 < f 48 2)) 48
  | 0x47 => bad (s.tablePartBad q d) 17 ++ bad (f 16 1 % 4 = 1 && (f 32 16 % 2 ^ 52 ≠ 0 || (f 32 16).testBit 102)) 32
  | 0x50 => bad (f 16 2 = 0 || 1024 ≤ f 16 2) 16 ++ bad (s.prioMax (f 18 1) < f 19 1) 19 ++ bad (96 ≤ f 22 2) 22
  | 0x51 => bad (f 16 2 = 0 || 1024 ≤ f 16 2) 16
  | 0x52 => bad (f 16 1 = 0) 16
  | 0x54 => bad (f 32 8 % 64 ≠ 0 || f 32 8 < 128 || 2 ^ 34 < f 32 8) 32
  | 0x57 => bad (f 32 1 % 2 = 0 && (f 24 8 % 64 ≠ 0 || 2 ^ 23 < f 24 8)) 24
  | 0x5A => bad (f 16 1 % 2 = 0 && 4 * s.part.code.ioDies ≤ f 32 1) 32
  | 0x5C => bad (f 32 4 < if (f 16 1).testBit 0 then 163872 else 65536) 32
  | 0x5D => bad (f 17 1 % 8 = 1 && (f 32 8 % 16 ≠ 0 || f 32 8 < 272)) 32
  | _ => []

/-! ## Addresses (R57, R58, R63; 09 R422, R1023) -/

/-- An address field of a descriptor: its offset, the bytes behind it, whether they are written. -/
structure AddrUse where
  off : Nat
  len : Nat
  write : Bool
  deriving DecidableEq, Repr

/-- The address fields that a descriptor uses, rising; QUEUE_CREATE's are its new queue's. -/
def State.addrUses (s : State) (d : Bytes) : List AddrUse :=
  let f := fun (o n : Nat) => fieldLE d o n
  let c := f 0 1
  let launch := (if f 20 4 = 0 then [] else [AddrUse.mk 24 (f 20 4) false]) ++ (if f 40 2 = 0 then [] else [⟨32, 8 * f 40 2, false⟩])
  if codeOp c then [⟨16, 64 * f 36 1, false⟩]
  else match c with
  | 0x41 => launch
  | 0x42 => launch
  | 0x45 => [⟨16, f 32 4, false⟩, ⟨24, f 32 4, true⟩]
  | 0x46 =>
    let st := (f 16 1).testBit 0
    let one := if st then 16 else 128
    if (f 16 1).testBit 1 then [⟨32, one * f 48 2, true⟩, ⟨40, 8 + 4 * f 48 2, true⟩] else [⟨24, if st then 8 else 48, false⟩, ⟨32, one, true⟩]
  | 0x47 => [⟨24, 128, false⟩]
  | 0x50 => [⟨24, 64 * 2 ^ f 20 1, false⟩, ⟨32, 32 * 2 ^ f 21 1, true⟩]
  | 0x53 => [⟨24, 2048, f 17 1 % 2 = 1⟩]
  | 0x54 => [⟨24, f 32 8, false⟩]
  | 0x57 => if f 32 1 % 2 = 0 then [⟨16, f 24 8, false⟩] else []
  | 0x5B =>
    let m := f 17 1 % 4
    [⟨24, min (f 40 4) (s.attestOutput m (f 16 1 % 16) (zeros 32)).length, true⟩] ++ (if m = 0 then [⟨32, 32, false⟩] else [])
  | 0x5C => [⟨24, if (f 16 1).testBit 0 then 163872 else 65536, true⟩]
  | 0x5D =>
    let op := f 17 1 % 8
    if op = 0 || op = 4 then [⟨24, 64, false⟩] else if op = 1 then [⟨24, f 32 8, false⟩] else []
  | 0x5E => [⟨16, f 24 8, false⟩]
  | _ => []

/-- The partition and the requester whose memory the addresses name: the new queue's for QUEUE_CREATE. -/
def State.addrOwner (s : State) (q : Nat) (d : Bytes) : Bool × Nat :=
  if fieldLE d 0 1 = 0x50 then (false, fieldLE d 18 1 % 16) else (q = 0, s.qPart q)

/-- The first address field that the firewall refuses. -/
def State.addrHit (s : State) (q : Nat) (d : Bytes) : Option FwHit :=
  let o := s.addrOwner q d
  ((s.addrUses d).find? (fun u => !s.spAdmits o.1 o.2 (fieldLE d u.off 8) u.len u.write)).bind (fun u =>
    let a := fieldLE d u.off 8
    if spaceHost a then none else some (o.2, spaceAddr a, u.write))

/-- The first address field that fails its check. -/
def State.addrBad (s : State) (q : Nat) (d : Bytes) : Option Nat :=
  let o := s.addrOwner q d
  ((s.addrUses d).find? (fun u => !s.spAdmits o.1 o.2 (fieldLE d u.off 8) u.len u.write)).map (·.off)

/-- Device memory that the addresses name lies on READY stacks (08 R382). -/
def State.addrStacksUp (s : State) (q : Nat) (d : Bytes) : Bool :=
  let o := s.addrOwner q d
  (s.addrUses d).all (fun u => spaceHost (fieldLE d u.off 8) || s.partStacksReady o.2 (spaceAddr (fieldLE d u.off 8)) u.len u.write)

/-! ## Resources named by the body that no meaning checks itself (R81, R84) -/


/-! ## The check and the grant -/

/-- The first failure of a descriptor on queue q, in the order of R60: status and DETAIL. -/
def State.descriptorBad (s : State) (q : Nat) (d : Bytes) : Option (Nat × Nat) :=
  let c := fieldLE d 0 1
  if !codeAssigned c then some (St.badDescriptor, 0)
  else match reservedByte d (headFields d) 0 16 with
  | some o => some (St.badDescriptor, o)
  | none =>
    if s.depBad q d then some (St.badDep, fieldLE d 4 2 % 1024)
    else if codePriv c && q ≠ 0 then some (St.priv, c)
    else match bodyReserved d with
    | some o => some (St.badDescriptor, o)
    | none => match leastOf (s.paramFaults q d) with
      | some o => some (St.badParam, o)
      | none => match s.addrBad q d with
        | some o => some (St.badAddress, o)
        | none =>
          if !s.addrStacksUp q d then some (St.noResource, 0x20)
          else if codeOp c && s.clustersFor (s.qPart q) 0 = [] then some (St.noResource, 1)
          else s.queueBad d

/-- The head entry leaves the ring head for slot k with its descriptor (R54, R98). -/
def State.takeHead (s : State) (k q : Nat) (r : Queue) (h : Entry) : State :=
  let d := s.ringDesc r h.idx
  let s1 := ((s.hostSide r.qcb.sqBase 64 false).modEntry q h.idx (fun x =>
    { x with st := .granted, granted := true, slot := k, desc := d, epoch := s.epoch, gen := s.gen })).modQcb q (fun c => { c with sqHead := (h.idx + 1) % c.sqSize })
  (s1.count P.fe R.feGrants).trace 32 0x21 r.qcb.part [(16, 2, q), (18, 2, h.idx), (20, 1, k), (21, 1, fieldLE d 0 1)]

/-- GRANT: the head entry of the queue that slot k serves is granted and its descriptor checked; a failure ends it
without effect. A fetch from a host ring that may not go waits and counts (R405, R1022). An uncorrectable error in a ring in device memory ends it as a read of its work does (09 R1023). -/
def grant (k : Nat) (s : State) : State :=
  match s.slot k with
  | none => s
  | some sl =>
    match sl.queue with
    | none => s
    | some q =>
      match s.queue q, (s.queue q).bind Queue.head with
      | some r, some h =>
        if sl.resetting || s.rst.stopped || !s.ready P.fe then s
        else if !s.canFetch q r then s.count P.dma R.dmaBmeWait
        else if !s.eligible q then s
        else
          let s1 := s.takeHead k q r h
          if s.spPoisoned r.qcb.part (r.qcb.sqBase + 64 * h.idx) 64 then s1.memError q h.idx 0 (spaceAddr r.qcb.sqBase + 64 * h.idx)
          else match s1.descriptorBad q (s.ringDesc r h.idx) with
            | some (st, d) =>
              (if st = St.priv then s1.count P.fe R.fePrivReject
                else if st = St.badAddress then s1.noteHit (s1.addrHit q (s.ringDesc r h.idx)) else s1).finish q h.idx st d
            | none => s1
      | _, _ => s

/-- GRANT. -/
def execGrant (slot : Nat) (s : State) : Outcome State Fault Refusal := .next (grant slot s)

/-! ## A failed host read (09 R406) -/

/-- The entry reads host memory. -/
def State.readsHost (s : State) (e : Entry) : Bool :=
  (s.addrUses e.desc).any (fun u => !u.write && spaceHost (e.fld u.off 8) && e.code ≠ 0x50)

/-- HOST_READ_ERROR: the entry, granted or started, ends with MEMORY_ERROR. -/
def hostReadError (q i : Nat) (s : State) : State :=
  match s.entry q i with
  | none => s
  | some e =>
    if !s.readsHost e || !s.dmaOk (s.qFn q) || e.void then s
    else match e.st with
      | .granted => ((s.startEntry q i).count P.dma R.dmaHostErr).finish q i St.memoryError 0
      | .started => (s.count P.dma R.dmaHostErr).finish q i St.memoryError 0
      | _ => s

/-- HOST_READ_ERROR. -/
def execHostReadError (q i : Nat) (s : State) : Outcome State Fault Refusal := .next (hostReadError q i s)

end Sys2Proof.Machine
end

