-- ==== Sys2Proof/Machine/HostLink.lean ====
section
/-! DEFINITION. Machine/HostLink.lean: functions of the host link, Bus Master Enable, function resets, VFs, the BAR4
window (08 R361, R362; 09). -/

namespace Sys2Proof.Machine

open Host (Outcome)

/-- A function after its reset. -/
def freshFunc (present : Bool) : Func := Func.reset present

/-- s with function fn changed. -/
def State.modFunc (s : State) (fn : Nat) (f : Func → Func) : State :=
  { s with host := { s.host with funcs := s.host.funcs.modify fn f } }

/-- Messages that function fn holds back and may send now. -/
def State.flushMsix (s : State) (fn : Nat) : State :=
  match s.host.funcs[fn]? with
  | none => s
  | some f =>
    let go := if f.present && f.bme && f.msixEn && !f.msixMask then f.vecPend.filter (fun v => f.vecOpen.contains v) else []
    { s with
      host := { s.host with funcs := s.host.funcs.set fn { f with vecPend := f.vecPend.filter (fun v => !go.contains v) } }
      out := { s.out with msix := s.out.msix ++ go.map (fun v => (fn, v)) } }

/-- R405: no DMA for the function from here. -/
def busMasterEnableClear (fn : Nat) (s : State) : State := s.modFunc fn (fun f => { f with bme := false })

/-- BUS_MASTER_ENABLE_CLEAR. -/
def execBusMasterEnableClear (fn : Nat) (s : State) : Outcome State Fault Refusal := .next (busMasterEnableClear fn s)

/-- R1022: work of the function that waited may go again, messages held back leave. -/
def busMasterEnableSet (fn : Nat) (s : State) : State :=
  (s.modFunc fn (fun f => if f.present then { f with bme := true } else f)).flushMsix fn

/-- BUS_MASTER_ENABLE_SET. -/
def execBusMasterEnableSet (fn : Nat) (s : State) : Outcome State Fault Refusal := .next (busMasterEnableSet fn s)

/-- VFs exist while VF Enable is set and NumVFs is above them (R397). -/
def State.setVfs (s : State) (num : Nat) (en : Bool) : State :=
  { s with host := { s.host with
      numVfs := num
      vfEnable := en
      funcs := s.host.funcs.mapIdx (fun i f =>
        if i = 0 then f
        else
          let now := en && i - 1 < num
          if now = f.present then f else freshFunc now)
      shadows := s.host.shadows.filter (fun x => x.1 = 0 || (en && x.1 - 1 < num)) } }

/-- R397: NumVFs is at most 16. -/
def vfEnableChange (num : Nat) (en : Bool) (s : State) : State := if 16 < num then s else s.setVfs num en

/-- VF_ENABLE_CHANGE. -/
def execVfEnableChange (num : Nat) (en : Bool) (s : State) : Outcome State Fault Refusal := .next (vfEnableChange num en s)

/-- R361: one function's configuration, MSI-X state and shadows; the PF's reset clears VF Enable. -/
def functionReset (fn : Nat) (s : State) : State :=
  if !s.fnPresent fn then s
  else
    let s1 := s.modFunc fn (fun f => freshFunc f.present)
    let s2 := { s1 with host := { s1.host with shadows := s1.host.shadows.filter (fun x => x.1 ≠ fn) } }
    if fn = 0 then ({ s2 with host := { s2.host with dueGroups := [] } }).setVfs 0 false else s2

/-- FUNCTION_RESET. -/
def execFunctionReset (fn : Nat) (s : State) : Outcome State Fault Refusal := .next (functionReset fn s)

/-- R362: every virtual function, then the physical function. -/
def hotReset (s : State) : State := functionReset 0 (s.each ((List.range 16).map (· + 1)) (fun t f => functionReset f t))

/-- HOT_RESET. -/
def execHotReset (s : State) : Outcome State Fault Refusal := .next (hotReset s)

/-- WIN_BASE of a function (R399). -/
def State.winOf (s : State) (fn : Nat) : Nat :=
  if fn = 0 then s.rd P.part R.partPfWinLo * 2 ^ 21 + s.rd P.part R.partPfWinHi * 2 ^ 32 else s.recField (fn - 1) 0x18 8

/-- A value returned to a reader. -/
def State.readOut (s : State) (v : Nat) (poisoned : Bool) : State :=
  { s with out := { s.out with reads := (v, poisoned) :: s.out.reads } }

/-- Vectors of a function's MSI-X table (R403). -/
def vectorsOf (fn : Nat) : Nat := if fn = 0 then 512 else 96

/-- A dword of the MSI-X structures below 0x1_0000: message address and data, the mask bit of a control word, pending
bits (R398; log entry 19). -/
def Func.msixDword (f : Func) (fn d : Nat) : Nat :=
  if d < 0x2000 then
    if vectorsOf fn ≤ d / 4 then 0
    else if d % 4 = 3 then b2n (!f.vecOpen.contains (d / 4))
    else (aget f.vecTab d).getD 0
  else sumN ((List.range 32).map (fun k => if f.vecPend.contains ((d - 0x2000) * 32 + k) then 2 ^ k else 0))

/-- A dword written there: the PBA and words of no vector take none. -/
def Func.putMsix (f : Func) (fn d v : Nat) : Func :=
  if 0x2000 ≤ d || vectorsOf fn ≤ d / 4 then f
  else if d % 4 = 3 then
    { f with vecOpen := if v.testBit 0 then f.vecOpen.filter (· ≠ d / 4) else d / 4 :: f.vecOpen.filter (· ≠ d / 4) }
  else { f with vecTab := if v % 2 ^ 32 = 0 then adel f.vecTab d else aput f.vecTab d (v % 2 ^ 32) }

/-- An access of whole dwords to the MSI-X structures; any other reads 0 and writes nothing (log entry 19). -/
def State.msixAccess (s : State) (fn addr size data : Nat) (write : Bool) : State :=
  match s.host.funcs[fn]? with
  | none => s
  | some f =>
    let ds := if addr % 4 = 0 && size % 4 = 0 then List.range (size / 4) else []
    if write then
      (s.modFunc fn (fun g => ds.foldl (fun (x : Func) k => x.putMsix fn (addr / 4 + k) (data / 2 ^ (32 * k) % 2 ^ 32)) g)).flushMsix fn
    else s.readOut (sumN (ds.map (fun k => f.msixDword fn (addr / 4 + k) * 2 ^ (32 * k)))) false

/-- R398 to R402. -/
def bar4WindowAccess (fn addr size data : Nat) (write : Bool) (s : State) : State :=
  if !s.fnPresent fn then s
  else if addr < 0x10000 then s.msixAccess fn addr size data write
  else
    let p := fn - 1
    let a := s.winOf fn + (addr - 0x10000)
    if s.admits p a size write then
      if write then s.partWrite p a (leBytes size data)
      else if s.partPoisoned p a size then s.readOut 0 true
      else s.readOut (leNat (s.partRead p a size)) false
    else
      let s1 := s.fwViolation p a write
      if write then s1 else s1.readOut 0 false

/-- BAR4_WINDOW_ACCESS. -/
def execBar4WindowAccess (fn addr size data : Nat) (write : Bool) (s : State) : Outcome State Fault Refusal :=
  .next (bar4WindowAccess fn addr size data write s)

end Sys2Proof.Machine
end

