-- ==== Sys2Proof/Machine/Links.lean ====
section
/-! DEFINITION. Machine/Links.lean: fabric ports: training, HELLO, credits, marks, forwarding, freeze frames (16 R756 to
R772, R820, R821; 18 R908). -/

namespace Sys2Proof.Machine

open Host (Outcome)

/-- A port in DOWN. -/
def downFPort (t : Nat) : FPort :=
  { st := 0, since := t, lastRx := 0, peer := none, peerSerial := none, credits := [0, 0, 0], sent := [0, 0, 0], recvd := [0, 0, 0],
    owed := [0, 0, 0], owedSince := 0, init := [0, 0, 0], markRx := none, rxIdx := 0, markTx := 0, txIdx := 0, queue := [], helloAt := 0,
    sentHello := none }

/-- The HELLO this device sends on port p. -/
def State.ownHello (s : State) (p : Nat) : Hello :=
  let latest := if s.role = 1 then s.fab.latest else laterEpoch s.epoch s.fabEpoch
  { serial := s.rd P.dev R.devSerial, prio := s.rd P.fab R.fabCfg0Priority, role := s.role, id := s.myId, port := p,
    term := s.rd P.fab R.fabTerm, mgrId := s.mgrId, mgrPrio := (s.fab.mgr.map (·.prio)).getD 0, mgrSerial := (s.fab.mgr.map (·.serial)).getD 0,
    code := s.part.code.num, eligible := (s.ownKey latest).eligible, epoch := s.epoch, fabEpoch := s.fabEpoch, digest := s.configDigest }

/-- Send a HELLO on port p; the next is due in 1 ms. -/
def State.sendHello (s : State) (p : Nat) : State :=
  (s.modFPort p (fun x => { x with helloAt := s.ns + 1000000 })).fabQueue p (s.mkFrame 0xFF (.hello (s.ownHello p)))

/-- The port may train: its page trains, its SERDES is READY, DISABLE is clear. -/
def State.mayTrain (s : State) (p : Nat) : Bool :=
  s.pagePresent (P.fport p) && !s.gated (P.fport p) && 2 ≤ s.rd (P.fport p) R.pgStatusState && s.rd (P.fport p) R.pgStatusState ≠ 4 &&
  !s.on (P.fport p) R.fpCtrl && s.ready (P.serdes (p / 2))

/-- FP_TRAINING: signal on all lanes starts TRAINING; with FEC locked the port passes LOCKED and sends a HELLO (R757). -/
def fpTraining (p : Nat) (s : State) : State :=
  match s.fport p with
  | none => s
  | some x =>
    if !s.mayTrain p then s
    else if x.st = 0 then s.modFPort p (fun y => { y with st := 1, since := s.ns })
    else if x.st = 1 then (s.modFPort p (fun y => { y with st := 3, since := s.ns })).sendHello p
    else s

/-- FP_TRAINING. -/
def execFpTraining (port : Nat) (s : State) : Outcome State Fault Refusal := .next (fpTraining port s)

/-- FP_TRAINING_TIMEOUT: 500 ms without lock, 10 ms without a HELLO (R757). -/
def fpTrainingTimeout (p : Nat) (s : State) : State :=
  match s.fport p with
  | none => s
  | some x =>
    if (x.st = 1 && x.since + 500000000 ≤ s.ns) || (x.st = 3 && x.since + 10000000 ≤ s.ns) then s.modFPort p (fun _ => downFPort s.ns) else s

/-- FP_TRAINING_TIMEOUT. -/
def execFpTrainingTimeout (port : Nat) (s : State) : Outcome State Fault Refusal := .next (fpTrainingTimeout port s)

/-- Frames that waited on a port that goes away are rerouted or dropped (R759). -/
def State.requeue (s : State) (l : List MFrame) : State :=
  s.each (l.filter (fun fr => !linkTyp fr.typ)) (fun t fr => if fr.dst < 64 then t.fabRoute fr else t.count P.fab R.fabNorouteDrop)

/-- A port leaves its state for st; where it was UP its page leaves READY, the manager hears, routes follow. -/
def State.fpLeave (s : State) (p st : Nat) : State :=
  match s.fport p with
  | none => s
  | some x =>
    let s1 := s.modFPort p (fun _ => { downFPort s.ns with st := st })
    if x.st ≠ 5 then s1
    else
      let s2 := ((s1.leaveReady (P.fport p)).setState (P.fport p) (if st = 6 then 4 else 2)).cause (P.fport p) 9
      (s2.report.settleReach).requeue x.queue

/-- R758: the port goes DOWN, counted. -/
def State.fpGoDown (s : State) (p : Nat) : State := (s.count (P.fport p) R.fpDownEvents).fpLeave p 0

/-- FP_DOWN: no frame for 3 µs since one arrived, or FEC lost. -/
def fpDown (p : Nat) (fecLost : Bool) (s : State) : State :=
  match s.fport p with
  | none => s
  | some x =>
    if 3 ≤ x.st && x.st ≤ 5 && (fecLost || (x.lastRx ≠ 0 && max x.since x.lastRx + 3000 ≤ s.ns)) then s.fpGoDown p else s

/-- FP_DOWN. -/
def execFpDown (port : Nat) (fecLost : Bool) (s : State) : Outcome State Fault Refusal := .next (fpDown port fecLost s)

/-! ## HELLO (R771, R772, R820, R821) -/

/-- What an UP link's peer says of its fabric: join it where no manager is known here, or elect where two meet. -/
def State.considerPeer (s : State) (p : Nat) : State :=
  match (s.fport p).bind (·.peer) with
  | none => s
  | some h =>
    if !s.ready P.fab || !s.fup p || h.mgrId = 0xFF then s
    else if s.role = 0 || (s.role = 1 && s.rd P.fab R.fabTerm ≤ h.term) then s.joinFabric h
    else if s.fab.mgr.isSome && (s.fab.mgr.map (·.serial)) ≠ some h.mgrSerial && s.rd P.fab R.fabTerm ≤ h.term then
      s.modFab (fun f => { f with electDue := true })
    else s

/-- The port enters UP (R757, R764). -/
def State.fpUp (s : State) (p : Nat) : State :=
  let s1 := s.modFPort p (fun x => { x with st := 5, since := s.ns, helloAt := s.ns })
  let s2 := ((s1.enterRun (P.fport p) 3).cause (P.fport p) 8)
  (s2.settleReach.report).considerPeer p

/-- Every VC's full count has come. -/
def FPort.granted (x : FPort) : Bool := (x.init.zip fullCredits).all (fun y => y.2 ≤ y.1)

/-- CREDIT_INIT ends when the full counts of both sides are there (R764). -/
def State.settleInit (s : State) (p : Nat) : State :=
  match s.fport p with
  | some x => if x.st = 4 && x.granted then s.fpUp p else s
  | none => s

/-- The initial grants: one frame for CONTROL, one for SEARCH, two for DATA. -/
def State.sendGrants (s : State) (p : Nat) : State :=
  s.each [(0, 1024), (1, 7168), (2, 16383), (2, 8193)] (fun t (g : Nat × Nat) =>
    t.fabQueue p { t.mkFrame 0xFF .credit with crVc := g.1, crCount := g.2 })

/-- A HELLO of the peer. -/
def State.gotHello (s : State) (p : Nat) (h : Hello) : State :=
  match s.fport p with
  | none => s
  | some x =>
    if x.peerSerial.isSome && x.peerSerial ≠ some h.serial then s.fpGoDown p
    else
      let moved := (x.peer.map (fun o => (o.serial, o.id, o.port))) ≠ some (h.serial, h.id, h.port)
      let s1 := s.modFPort p (fun y => { y with peer := some h, peerSerial := some h.serial })
      if x.st = 3 then ((s1.modFPort p (fun y => { y with st := 4, since := s.ns })).sendGrants p).settleInit p
      else if x.st = 5 then ((if moved then s1.report else s1).settleReach).considerPeer p
      else s1

/-- HELLO. -/
def execHello (port : Nat) (frame : MFrame) (s : State) : Outcome State Fault Refusal :=
  .next (s.fabRx port frame (fun t => match frame.body with | .hello h => t.gotHello port h | _ => t))

/-- HELLO_SEND: on each UP port every 1 ms, and on any change of a field (R771). -/
def helloSend (s : State) : State :=
  s.each s.upPorts (fun t p =>
    match t.fport p with
    | some x => if x.helloAt ≤ t.ns || x.sentHello ≠ some (t.ownHello p) then t.sendHello p else t
    | none => t)

/-- HELLO_SEND. -/
def execHelloSend (s : State) : Outcome State Fault Refusal := .next (helloSend s)

/-! ## Credits (R764 to R767) -/

/-- CREDIT_FRAME: the credits are taken by fabRx; CREDIT_INIT may be complete. -/
def execCreditFrame (port : Nat) (frame : MFrame) (s : State) : Outcome State Fault Refusal :=
  .next (s.fabRx port frame (fun t => t.settleInit port))

/-- Return everything owed at once, at most 16,383 credits of one VC a frame. -/
def State.returnAll (s : State) (p : Nat) : State :=
  match s.fport p with
  | none => s
  | some x => s.each (List.range (sumN (x.owed.map (fun n => ceilDiv n 16383)))) (fun t _ => t.fabQueue p (t.mkFrame 0xFF .credit))

/-- CREDIT_RETURN_TIMER: credits have been owed for 1 µs (R766). -/
def creditReturnTimer (p : Nat) (s : State) : State :=
  match s.fport p with
  | none => s
  | some x => if x.st = 5 && x.owed.any (· ≠ 0) && x.owedSince + 1000 ≤ s.ns then s.returnAll p else s

/-- CREDIT_RETURN_TIMER. -/
def execCreditReturnTimer (port : Nat) (s : State) : Outcome State Fault Refusal := .next (creditReturnTimer port s)

/-! ## Marks (R767 to R770) -/

/-- MARK_SEND: a MARK on every UP port that has none of this µs of fabric time yet; frames held for it follow. -/
def markSend (s : State) : State :=
  let us := (s.fab16 / 65536000).toNat
  s.each s.upPorts (fun t p =>
    match t.fport p with
    | some x => if x.markTx = us then t else t.fabQueue p (t.mkFrame 0xFF (.mark us ((t.fab16 - us * 65536000).toNat) x.sent))
    | none => t)

/-- MARK_SEND. -/
def execMarkSend (s : State) : Outcome State Fault Refusal := .next (markSend s)

/-- A MARK of the peer: skipped ones are counted (R770), lost credits come back (R767); in FRAME mode it is an edge of
the trim loop (07 R337). -/
def State.gotMark (s : State) (p us : Nat) (cum : List Nat) : State :=
  match s.fport p with
  | none => s
  | some x =>
    let miss := match x.markRx with | some m => us - m - 1 | none => 0
    let lost := (List.range 3).map (fun v =>
      let d := (cum.getD v 0 + 2 ^ 32 - x.recvd.getD v 0) % 2 ^ 32
      if d < 2 ^ 31 then d else 0)
    let s1 := s.modFPort p (fun y => { y with
      markRx := some us
      recvd := (y.recvd.zip lost).map (fun z => (z.1 + z.2) % 2 ^ 32)
      owed := (y.owed.zip lost).map (fun z => z.1 + z.2) })
    let s2 := (s1.countN (P.fport p) R.fpMarkMiss miss).countN (P.fport p) R.fpCreditResync (lost.filter (· ≠ 0)).length
    let s3 := if s.rd P.clk R.ioscTrimCtrlMode = 2 && s.rd P.clk R.ioscTrimCtrlFramePort = p then
        { s2 with clk := { s2.clk with trimEdge := s.ns } } else s2
    if lost.any (· ≠ 0) then s3.returnAll p else s3

/-- MARK_RECEIVE. -/
def execMarkReceive (port : Nat) (frame : MFrame) (s : State) : Outcome State Fault Refusal :=
  .next (s.fabRx port frame (fun t => match frame.body with | .mark us _ cum => t.gotMark port us cum | _ => t))

/-! ## Transit and freezes -/

/-- MELAZ_FRAME_FORWARD: R761, R786. -/
def execMelazFrameForward (port : Nat) (frame : MFrame) (s : State) : Outcome State Fault Refusal := .next (s.fabFor port frame id)

/-- FREEZE_FRAME: applied at AT, or on receipt where AT has passed (18 R908). -/
def execFreezeFrame (port : Nat) (frame : MFrame) (s : State) : Outcome State Fault Refusal :=
  .next (s.fabFor port frame (fun t =>
    match frame.body with
    | .freeze thaw id at_ =>
      if at_ < t.fns then (t.applyFreeze ⟨thaw, id, at_⟩).count P.obs R.obsFreezeLate
      else { t with obs := { t.obs with freezeWait := t.obs.freezeWait ++ [⟨thaw, id, at_⟩] } }
    | _ => t))

end Sys2Proof.Machine
end

