-- ==== Sys2Proof/Machine/SlowPath.lean ====
section
/-! DEFINITION. Machine/SlowPath.lean: slow-path rings and reinjection (11). -/

namespace Sys2Proof.Machine

open Host (Outcome)

/-- The rings' registers stand on die 0. -/
def ringPage : Nat := P.slowpath 0

/-- Address of entry i of partition p's receive ring. -/
def State.rxEntry (s : State) (p i : Nat) : Nat := s.rd ringPage (R.spRxBase p) + i * 2 ^ (s.rd ringPage (R.spRxCfgEntryLog2 p))

/-- The packet was classified. -/
def Pkt.classified (p : Pkt) : Bool := p.reason = 0 || p.rec_ ≠ zeros 64

/-- TAG of a record: the packet's tag with its ingress port's ETHERTYPE; free for a packet never classified, which has no
verdict tag (log entry 67). -/
def State.recordTag (s : State) (p : Pkt) (e : SlowEnt) : Bytes :=
  if p.classified then beBytes 2 (if p.port < 16 then s.rd (P.port p.port) R.portTagEthertype else R.portTagEthertype.rst) ++ e.tag.drop 2
  else s.drawnBytes 16

/-- The 64-byte record of a slow-path copy (11, Slow-path rings). -/
def slowRecord (p : Pkt) (e : SlowEnt) (tag : Bytes) (cap phase trunc : Nat) : Bytes :=
  let classified := p.classified
  padTo 64 (padTo 32 (leBytes 2 cap ++ leBytes 2 e.frame.length ++ leBytes 1 e.reason ++ leBytes 1 (p.port % 64) ++
      leBytes 1 (phase + 2 * trunc + 4 * b2n classified + 8 * b2n p.epoch.isSome) ++ leBytes 1 (if classified then p.cls else 0) ++
      leBytes 2 (p.epoch.getD 0) ++ leBytes 1 (p.gen % 8) ++ [0] ++ leBytes 4 (flowField p.flow) ++ padTo 12 p.ts) ++ tag)

/-- Deliver slow-path copy n of packet p: written to its ring, or dropped and counted (R545 to R548). -/
def State.deliver (s : State) (n : Nat) (e : SlowEnt) (p : Pkt) : State :=
  let sp := P.slowpath p.die
  let q := e.part
  let s0 := s.modPath (fun t => { t with slow := adel t.slow n })
  let log := s.rd ringPage (R.spRxCfgLog2 q)
  let head := s.rd ringPage (R.spRxHead q)
  let tail := s.rd ringPage (R.spRxTail q)
  let fn := (s.host.funcs[q + 1]?)
  let out :=
    if !s.on ringPage (R.spRxCfgEnable q) || !((fn.map (fun f => f.present && f.bme)).getD false) then s0.count sp R.spNoFunction
    else if !s.ready P.pcie || !s.ready P.dma then s0.count sp R.spDmaDrop
    else if (tail + 1) % 2 ^ log = head % 2 ^ log then s0.count sp R.spRingFull
    else
      let room := 2 ^ (s.rd ringPage (R.spRxCfgEntryLog2 q)) - 64
      let cap := min room e.frame.length
      let ph := (aget s.path.spPhase q).getD 1
      let a := s.rxEntry q tail
      let rec_ := slowRecord p e (s.recordTag p e) cap ph (b2n (room < e.frame.length))
      let s1 := ((s0.hostWrite (a + 64) (e.frame.take cap)).hostWrite a rec_).drawN (if p.classified then 0 else 16) |>.countN P.dma R.dmaWrBytes (64 + cap)
      let t1 := (tail + 1) % 2 ^ log
      let s2 := (s1.wr ringPage (R.spRxTail q) t1).modPath (fun t => { t with
        spPhase := if t1 = 0 then aput t.spPhase q (1 - ph) else t.spPhase
        spIrqDue := if t.spIrqDue.contains q then t.spIrqDue else t.spIrqDue ++ [q] })
      let s3 := s2.countP sp R.spDelivered q
      s3.when (room < e.frame.length) (fun t => t.count sp R.spTrunc)
  out.copyGone e.pkt

/-- SLOW_PATH_DELIVER: the first deliverable copy of the packet, once no copy of an earlier tail of its port waits for
the same ring (R549). -/
def slowPathDeliver (k : Nat) (s : State) : State :=
  match s.path.slow.find? (fun (x : Nat × SlowEnt) => decide (x.2.pkt = k) && x.2.ready), s.pkt k with
  | some (n, e), some p =>
    if s.path.slow.any (fun (x : Nat × SlowEnt) => decide (x.1 < n) && x.2.ready && decide (x.2.part = e.part) &&
        decide ((s.pkt x.2.pkt).map (·.port) = some p.port)) then s
    else s.deliver n e p
  | _, _ => s

/-- SLOW_PATH_DELIVER. -/
def execSlowPathDeliver (pkt : Nat) (s : State) : Outcome State Fault Refusal := .next (slowPathDeliver pkt s)

/-- SLOW_PATH_IRQ: at most once per HOLDOFF µs (R550). The vector is that of the ring, device-wide; die names the page
that wrote the records. -/
def slowPathIrq (die part : Nat) (s : State) : State :=
  let last := aget s.path.spIrqAt part
  let hold := s.rd ringPage (R.spRxHoldoff part) * 1000
  let ok := match last with | some t => decide (t + hold ≤ s.ns) | none => true
  if s.part.code.ioDies ≤ die || !s.path.spIrqDue.contains part || !ok then s
  else
    (s.modPath (fun t => { t with spIrqDue := t.spIrqDue.filter (· ≠ part), spIrqAt := aput t.spIrqAt part s.ns })).msix (part + 1)
      (s.rd ringPage (R.spRxCfgVector part))

/-- SLOW_PATH_IRQ. -/
def execSlowPathIrq (die part : Nat) (s : State) : Outcome State Fault Refusal := .next (slowPathIrq die part s)

/-! ## Reinjection (R552 to R555) -/

/-- A descriptor is bad: a reserved value, both timestamp requests, a length or port out of range (R554). -/
def State.txBad (s : State) (d : Bytes) : Bool :=
  let len := fieldLE d 8 2
  let fl := byteAt d 11
  let re := fl % 2 = 1
  let port := if re then byteAt d 12 else byteAt d 10
  let max := if port = 62 then 9216 else s.rd (P.port port) R.portMaxFrame
  16 ≤ fl || (fl.testBit 1 && fl.testBit 2) || len < 60 ||
  (if re then !(port = 62 || (port < 16 && s.portExists port)) else !(port < 16 && s.portExists port)) ||
  max < len + 4 || byteAt d 10 ≥ 64 || byteAt d 12 ≥ 64 || byteAt d 13 ≥ 8 || (d.drop 14).any (· ≠ 0)

/-- The offset of the PTP message of a frame the host sends: as the built-in graph finds it (R537). -/
def State.ptpOffset (s : State) (f : Bytes) : Option (Nat × Nat) :=
  let w := s.rules.parse builtinGen 0 62 f false
  w.ptp.map (fun o => (o, ptpKind w.key))

/-- REINJECT_DESCRIPTOR: the next descriptor of partition part's transmit ring; die counts it. -/
def reinjectDescriptor (die part : Nat) (s : State) : State :=
  let log := s.rd ringPage (R.spTxCfgLog2 part)
  let head := s.rd ringPage (R.spTxHead part)
  let sp := P.slowpath die
  if s.part.code.ioDies ≤ die || 16 ≤ part || !s.on ringPage (R.spTxCfgEnable part) || !s.ready sp ||
      head % 2 ^ log = s.rd ringPage (R.spTxTail part) % 2 ^ log || !s.dmaOk (part + 1) || !s.ready P.pcie then s
  else
    let d := s.hostRead (s.rd ringPage (R.spTxBase part) + 32 * head) 32
    let fr := s.hostRead (fieldLE d 0 8) (fieldLE d 8 2)
    let fl := byteAt d 11
    let ts := if fl.testBit 2 then 2 else if fl.testBit 1 then 1 else 0
    let s0 := s.countN P.dma R.dmaRdBytes 32
    let s1 :=
      if s.txBad d then s0.count sp R.spTxBad
      else
        let s2 := (s0.countN P.dma R.dmaRdBytes fr.length).count sp R.spTxFrames
        if fl % 2 = 1 then
          let port := byteAt d 12
          s2.receive port fr (port < 16 && s.hasTag port fr) 1 ts 0
        else
          let port := byteAt d 10
          let ptp := s.ptpOffset fr
          let tag := if fl.testBit 3 || ptp.isSome then [] else tagBytes 0 part (b2n s.degraded) 0 1 0 0 0 0 0xFFFFFFFF
          if !s.portReady port || s.portRemote port then s2.notReadyDrop (port / 4)
          else s2.enqueue port (byteAt d 13) ⟨none, fr, tag, false, 0, ts, ptp, 0, false, false, 0, part⟩
    let h := (head + 1) % 2 ^ log
    ((s1.wr ringPage (R.spTxHead part) h).hostWrite (s.rd ringPage (R.spTxWb part)) (leBytes 4 h)).countN P.dma R.dmaWrBytes 4

/-- REINJECT_DESCRIPTOR. -/
def execReinjectDescriptor (die part : Nat) (s : State) : Outcome State Fault Refusal := .next (reinjectDescriptor die part s)

end Sys2Proof.Machine
end

