-- ==== Sys2Proof/Machine/Views.lean ====
section
/-! DEFINITION. Machine/Views.lean: slots, streams and queue control blocks as registers, snapshots and dumps show them
(02 FE_SLOT and the QCB; 03 SEQ; 19 R965, R982, R983). -/

namespace Sys2Proof.Machine

/-! ## Streams (03 SEQ; 19 R983) -/

/-- A stream record: slot, opcode and index of the current step, REASON, WAIT_AUX, WAIT_ON. -/
structure StreamRec where
  slot : Nat
  op : Nat
  step : Nat
  reason : Nat
  aux : Nat
  on : Nat
  /-- invocation of the step -/
  inv : Nat
  deriving DecidableEq, Repr

/-- Slots that run invocations with steps on cluster c, ascending: the i-th has stream i (R40). -/
def State.streamSlots (s : State) (c : Nat) : List Nat :=
  (List.range 32).filter (fun k => s.fe.invs.any (fun (x : Nat × Inv) => x.2.slot = k && x.2.steps.any (fun y => y.cluster = c)))

/-- The current step of an invocation among those that satisfy p: the first started one, else the first that waits. -/
def Inv.current (v : Inv) (p : Step → Bool) : Option Nat :=
  let l := (List.range v.steps.length).map (fun k => v.first + k)
  match l.find? (fun k => match v.step k with | some x => x.st = .started && p x | none => false) with
  | some k => some k
  | none => l.find? (fun k => match v.step k with | some x => x.st = .waiting && p x | none => false)

/-- The earlier unfinished step that holds a unit step k needs, with the unit's code (R129). -/
def Inv.unitWait (v : Inv) (k : Nat) : Option (Nat × Nat) :=
  match v.at_ k with
  | none => none
  | some (d, st) =>
    ((List.range (k - v.first)).find? (fun i => match v.at_ (v.first + i) with
      | some (d1, st1) => !st1.over && st1.cluster = st.cluster && (unitsOf d1 v.tensors &&& unitsOf d v.tensors) ≠ 0
      | none => false)).bind (fun i => (v.op (v.first + i)).bind (fun d1 =>
        ((List.range 6).find? (fun u => (unitsOf d1 v.tensors &&& unitsOf d v.tensors).testBit u)).map (fun u => (v.first + i, u))))

/-- What step k of invocation v waits for: REASON, WAIT_AUX, WAIT_ON (R983). -/
def State.waitOf (s : State) (v : Inv) (k : Nat) : Nat × Nat × Nat :=
  match v.at_ k with
  | none => (0, 0, 0)
  | some (d, st) =>
    let iq := fieldLE d 40 1
    if st.st = .started then
      if fieldLE d 0 1 = 0x18 then (4, 0, iq)
      else if fieldLE d 0 1 = 0x19 then
        (match aget s.fe.iqs iq with
          | some q => if q.items.length < 2 ^ q.log2 then (0, 0, 0) else (2, 0, 768 + iq)
          | none => (2, 0, 768 + iq))
      else if fieldLE d 0 1 = 0x1B then (5, 0, iq)
      else (0, 0, 0)
    else if v.waiting then (2, 0, 0xFFFF)
    else match ((v.deps[k - v.first]?).getD []).find? (fun j => match v.step j with | some x => !x.over | none => true) with
      | some j => (1, ((v.step j).map (fun (x : Step) => x.cluster)).getD 0, j)
      | none => (match v.unitWait k with | some (_, u) => (3, 0, u) | none => (0, 0, 0))

/-- Stream i of cluster c. -/
def State.streamAt (s : State) (c i : Nat) : Option StreamRec :=
  match (s.streamSlots c)[i]? with
  | none => none
  | some k =>
    if 4 ≤ i then none
    else (s.fe.invs.findSome? (fun (x : Nat × Inv) => if x.2.slot = k then (x.2.current (fun y => y.cluster = c)).map (fun j => (x.1, x.2, j)) else none)).map
      (fun (x : Nat × Inv × Nat) =>
        let w := s.waitOf x.2.1 x.2.2
        ⟨k, ((x.2.1.op x.2.2).map (fun d => fieldLE d 0 1)).getD 0, x.2.2, w.1, w.2.1, w.2.2, x.1⟩)

/-! ## Slots (02 FE_SLOT and Progress and hang detection) -/

/-- The task a slot is pinned by. -/
def State.slotTask (s : State) (k : Nat) : Option (Nat × Task) :=
  ((s.slot k).bind (·.pinned)).bind (fun iq => (aget s.fe.tasks iq).map (fun t => (iq, t)))

/-- The queue of a slot: the one mapped to it, or that launched the task it is pinned by. -/
def State.slotQueue (s : State) (k : Nat) : Option Nat :=
  match (s.slot k).bind (·.queue) with
  | some q => some q
  | none => (s.slotTask k).map (fun x => x.2.queue)

/-- Invocations of a slot with steps started. -/
def State.slotSteps (s : State) (k : Nat) : List Bytes :=
  (s.fe.invs.map (fun (x : Nat × Inv) =>
    if x.2.slot = k then ((x.2.ops.zip x.2.steps).filter (fun (y : Bytes × Step) => y.2.st = .started)).map (fun y => y.1) else [])).flatten

/-- The slot's state code when only steps in WAIT_QUEUE run: WAIT_INPUT, else EXECUTING. -/
def runCode (l : List Bytes) : Nat := if l ≠ [] && l.all (fun d => fieldLE d 0 1 = 0x18) then 4 else 3

/-- SLOT_STATE.STATE of slot k. -/
def State.slotState (s : State) (k : Nat) : Nat :=
  match s.slot k with
  | none => 0
  | some x =>
    if x.resetting then 6
    else if x.pinned.isSome then
      (let vs := s.fe.invs.filter (fun (y : Nat × Inv) => y.2.slot = k)
       if vs.all (fun y => y.2.idle) then 4 else runCode (s.slotSteps k))
    else match x.queue.bind s.queue with
      | none => 0
      | some r =>
        let q := x.queue.getD 0
        if r.ents.any (fun e => e.st = .started) then runCode (s.slotSteps k)
        else if ((r.ents.head?).map (fun e => e.st = .finished && (r.qcb.cqFull || s.cePath q r = 1))).getD false then 5
        else if r.inflight ≠ 0 then 3
        else match r.head with
          | none => 1
          | some h =>
            let d := s.ringDesc r h.idx
            if !s.canFetch q r then 3
            else if ((fieldLE d 1 1).testBit 1 && r.ents.head? ≠ some h) || !s.depHolds q d then 2 else 1

/-- SQ_INDEX, STEP, OPCODE of slot k: the oldest started entry and its current step. -/
def State.slotAt (s : State) (k : Nat) : Nat × Nat × Nat :=
  let ofInv := fun (v : Inv) => (match v.current (fun _ => true) with
    | some j => (j, ((v.op j).map (fun d => fieldLE d 0 1)).getD 0)
    | none => (0, 0))
  match s.slotTask k with
  | some (_, t) =>
    (match s.fe.invs.find? (fun (x : Nat × Inv) => x.2.slot = k && !x.2.idle) with
      | some (_, v) => (t.index, (ofInv v).1, (ofInv v).2)
      | none => (t.index, 0, 0))
  | none =>
    match (s.slotQueue k).bind (fun q => (s.queue q).map (fun r => (q, r))) with
    | none => (0, 0, 0)
    | some (q, r) =>
      match r.ents.find? (fun e => e.st = .started) with
      | none => (0, 0, 0)
      | some e =>
        (match s.fe.invs.find? (fun (x : Nat × Inv) => x.2.queue = q && x.2.index = e.idx && !x.2.isTask) with
          | some (_, v) => (e.idx, (ofInv v).1, (ofInv v).2)
          | none => (e.idx, 0, e.code))

/-- Entries granted or started of the queue mapped to slot k. -/
def State.slotInflight (s : State) (k : Nat) : Nat := (((s.slot k).bind (·.queue)).bind s.queue).map (·.inflight) |>.getD 0

/-- The SLOT_STATE word. -/
def State.slotWord (s : State) (k : Nat) : Nat :=
  s.slotState k + 16 * b2n ((s.slot k).bind (·.pinned)).isSome + 65536 * ((s.slotQueue k).getD 0 % 1024) + 2 ^ 28 * (s.slotInflight k % 8)

/-! ## Queue control blocks (02) -/

/-- SQ_HEAD: the next entry to be granted. -/
def Queue.sqHeadNow (r : Queue) : Nat := match r.head with | some e => e.idx | none => r.qcb.sqTail

/-- The 64 bytes of queue q's control block; zeros where there is none (02, QCB table). -/
def State.qcbBytes (s : State) (q : Nat) : Bytes :=
  match s.queue q with
  | none => zeros 64
  | some r =>
    let c := r.qcb
    leBytes 8 c.sqBase ++ leBytes 8 c.cqBase ++ leBytes 1 c.sqLog2 ++ leBytes 1 c.cqLog2 ++ leBytes 1 c.prio ++ leBytes 1 c.part ++
      leBytes 2 r.sqHeadNow ++ leBytes 2 c.sqTail ++ leBytes 2 c.cqTail ++ leBytes 2 c.cqHead ++ leBytes 2 c.vector ++ leBytes 1 c.quantum ++
      leBytes 1 (c.state % 8 + 8 * c.phase + 16 * c.irqEn) ++ leBytes 8 c.retired ++ leBytes 4 c.ceDropped ++ leBytes 4 c.dbReject ++
      leBytes 2 c.slot ++ leBytes 2 c.persist ++ zeros 12

/-! ## Stream records (19, Snapshot format; R965) -/

/-- The 16-byte record of stream i of cluster c. -/
def State.streamBytes (s : State) (c i : Nat) : Bytes :=
  let done := leBytes 4 (s.rd (P.seq c) (R.seqDone i)) ++ zeros 4
  match s.streamAt c i with
  | none => zeros 8 ++ done
  | some r => leBytes 1 (r.slot + 128) ++ leBytes 1 r.op ++ leBytes 2 r.step ++ leBytes 1 r.reason ++ leBytes 1 r.aux ++ leBytes 2 r.on ++ done

/-- A stream's part of a SEQ entry: record, descriptor, the tensors its step names (R965). -/
def State.seqStream (s : State) (c i : Nat) : Bytes :=
  padTo 8192 (s.streamBytes c i ++
    (match s.streamAt c i with
      | none => []
      | some r =>
        match s.inv r.inv with
        | none => []
        | some v =>
          match v.op r.step with
          | none => []
          | some d => d.take 64 ++ (((List.range 5).map (opSlot d)).filter (· ≠ 0xFFFF)).flatMap (fun t => ((v.tensors[t]?).getD []).take 64)))

/-- The SEQ section entry of cluster c, 32 KiB. -/
def State.seqSection (s : State) (c : Nat) : Bytes := (List.range 4).flatMap (s.seqStream c)

end Sys2Proof.Machine
end

