-- ==== Sys2Proof/Machine/Readout.lean ====
section
/-! DEFINITION. Machine/Readout.lean: what a read of BAR0 returns: stored fields, fields that show state kept elsewhere,
windows, the view of a virtual function, page images (06; 18 Tenant filtering; 19 R966). -/

namespace Sys2Proof.Machine

/-! ## Fields that show state kept elsewhere -/

/-- Which of n indexed fields f is. -/
def Fld.isOf (f : Fld) (g : Nat → Fld) (n : Nat) : Option Nat := (List.range n).find? (fun i => f = g i)

/-- READY bits of a list of pages, lowest first. -/
def State.readyMask (s : State) (l : List Nat) : Nat := sumN (l.zipIdx.map (fun x => if s.ready x.1 && !s.gated x.1 then 2 ^ x.2 else 0))

/-- A mask of the numbers below n that satisfy p. -/
def maskOf (n : Nat) (p : Nat → Bool) : Nat := sumN ((List.range n).map (fun i => if p i then 2 ^ i else 0))

/-- COMMIT_STATE: 2 ARMED, 3 FLIPPING of a fabric commit; a local one is done at one edge (05). -/
def State.commitCode (s : State) : Nat :=
  if s.rd P.fabEpoch R.qState = 3 then 2 else if s.rd P.fabEpoch R.qState = 4 then 3 else 0

/-- DEV page. -/
def State.liveDev (s : State) (f : Fld) : Option Nat :=
  if f = R.epochCurrent then some s.epoch
  else if f = R.epochResident then some s.mods.epochs.length
  else if f = R.commitState then some s.commitCode
  else if f = R.devStepping then some (Config.stepping % 256)
  else if f = R.devSerial then some (Config.serial % 2 ^ 64)
  else if f = R.devIrqPending then some (maskOf 32 s.groupPending)
  else if f = R.devIrqPages then some (sumN ((s.assertingPages (s.rd P.dev R.devIrqSel)).map (fun n => 2 ^ groupIndex n)))
  else match f.isOf R.epochIdEpoch 4 with
  | some i => some (((s.mods.epochs[i]?).map (·.id)).getD 0)
  | none => match f.isOf R.epochIdValid 4 with
    | some i => some (b2n (decide (i < s.mods.epochs.length)))
    | none => (f.isOf R.epochDrain 4).map (fun i => ((s.mods.epochs[i]?).map (·.drain)).getD 0)

/-- RST page. -/
def State.liveRst (s : State) (f : Fld) : Option Nat :=
  if f = R.rstPartCmd then some (sumN (s.rst.parts.map (fun x => 2 ^ x.1)))
  else if f = R.rstReadyMap0Cl then some (s.readyMask ((List.range 16).map P.cl))
  else if f = R.rstReadyMap0Nse then some (s.readyMask ((List.range 8).map P.nse))
  else if f = R.rstReadyMap0Hbm then some (s.readyMask ((List.range 8).map P.hbm))
  else if f = R.rstReadyMap1Port then some (s.readyMask ((List.range 16).map P.port))
  else if f = R.rstReadyMap1Pipe then some (s.readyMask ((List.range 8).map P.parse) &&& s.readyMask ((List.range 8).map P.classp))
  else if f = R.rstReadyMap1Flow then some (s.readyMask ((List.range 4).map P.flow))
  else if f = R.rstReadyMap1Station then some (s.readyMask ((List.range 4).map P.station))
  else if f = R.rstReadyMap2Device then
    some (s.readyMask [P.clk, P.hk, P.pwr, P.thm, P.plant, P.trust, P.pcie, P.dma, P.part, P.fe, P.fab, P.obs, P.flt])
  else if f = R.rstReadyMap2Iod then some (s.readyMask ((List.range 4).map P.iod))
  else if f = R.rstReadyMap2Fport then some (s.readyMask ((List.range 8).map P.fport))
  else none

/-- IOD page of die d. -/
def State.liveIod (s : State) (d : Nat) (f : Fld) : Option Nat :=
  if f = R.iodReadyPort then some (s.readyMask ((List.range 4).map (fun j => P.port (4 * d + j))))
  else if f = R.iodReadyFport then some (s.readyMask [P.fport (2 * d), P.fport (2 * d + 1)])
  else if f = R.iodReadyParse then some (s.readyMask [P.parse (2 * d), P.parse (2 * d + 1)])
  else if f = R.iodReadyClass then some (s.readyMask [P.classp (2 * d), P.classp (2 * d + 1)])
  else if f = R.iodReadyBlocks then
    some (s.readyMask [P.flow d, P.station d, P.trig d, P.hold d, P.verdict d, P.rate d, P.slowpath d, P.serdes d, P.ptp d])
  else if f = R.iodMode then some (b2n (decide (s.rd (P.flow d) R.pgStatusState = 0x80)))
  else none

/-- FE_SLOT page. -/
def State.liveSlot (s : State) (f : Fld) : Option Nat :=
  match f.isOf R.slotStateState 32 with
  | some k => some (s.slotState k)
  | none => match f.isOf R.slotStatePinned 32 with
  | some k => some (b2n (s.slotTask k).isSome)
  | none => match f.isOf R.slotStateQueue 32 with
  | some k => some ((s.slotQueue k).getD 0)
  | none => match f.isOf R.slotStateInflight 32 with
  | some k => some (s.slotInflight k)
  | none => match f.isOf R.slotSqIndex 32 with
  | some k => some (s.slotAt k).1
  | none => match f.isOf R.slotStepStep 32 with
  | some k => some (s.slotAt k).2.1
  | none => match f.isOf R.slotStepOpcode 32 with
  | some k => some (s.slotAt k).2.2
  | none => match f.isOf R.slotIqIq 32 with
  | some k => some (((s.slotTask k).map (·.1)).getD 0)
  | none => (f.isOf R.slotIqValid 32).map (fun k => b2n (s.slotTask k).isSome)

/-- SEQ page of cluster n. -/
def State.liveSeq (s : State) (n : Nat) (f : Fld) : Option Nat :=
  let st := fun (i : Nat) (g : StreamRec → Nat) => ((s.streamAt n i).map g).getD 0
  match f.isOf R.seqStreamSlot 4 with
  | some i => some (st i (·.slot))
  | none => match f.isOf R.seqStreamValid 4 with
  | some i => some (st i (fun _ => 1))
  | none => match f.isOf R.seqStreamStep 4 with
  | some i => some (st i (·.step))
  | none => match f.isOf R.seqWaitOpcode 4 with
  | some i => some (st i (·.op))
  | none => (f.isOf R.seqWaitReason 4).map (fun i => st i (·.reason))

/-- FOREST page of cluster n: the step its engine runs. -/
def State.liveForest (s : State) (n : Nat) (f : Fld) : Option Nat :=
  let runs := (s.fe.invs.map (fun (x : Nat × Inv) =>
    ((List.range x.2.steps.length).filterMap (fun j => match x.2.at_ (x.2.first + j) with
      | some (d, st) => if st.st = .started && st.cluster = n && codeForest (fieldLE d 0 1) then some (x.2.first + j, d) else none
      | none => none)))).flatten
  let mine := s.mem.forest.filter (fun r => r.cluster = n)
  if f = R.feStateState then some ((runs.head?.map (fun (x : Nat × Bytes) => if fieldLE x.2 0 1 = 0x13 then 3 else 2)).getD 0)
  else if f = R.feStateStream then some ((runs.head?.map (fun (x : Nat × Bytes) => b2n (fieldLE x.2 0 1 = 0x13 && fieldLE x.2 40 1 % 2 = 1))).getD 0)
  else if f = R.feStateStep then some ((runs.head?.map (fun (x : Nat × Bytes) => x.1)).getD 0)
  else if f = R.feResidentForests then some (mine.filter (fun r => !r.table)).length
  else if f = R.feResidentTables then some (mine.filter (fun r => r.table)).length
  else if f = R.feMemUsed then some (ceilDiv (sumN ((mine.filter (fun r => !r.table)).map (fun r => r.bytes.length))) 1024)
  else none

/-- NSE page k: offsets 0x100 to 0x17F read the same on every page (R750). -/
def State.liveNse (s : State) (k : Nat) (f : Fld) : Option Nat :=
  let ch := s.rd (P.nse 0) R.nseChSel
  let ent := (s.mapEnts ch).find? (fun e => e.shard = s.rd (P.nse 0) R.nseShardSel)
  if f = R.nseStateMode then some (s.nseMode k)
  else if f = R.nseStateCtxUsed then some (s.nseUsed k)
  else if f = R.nseMapGenGen then some (s.mapGen ch)
  else if f = R.nseMapGenValid then some (b2n (s.shardMap ch).isSome)
  else if f = R.nseMapEntryDevice then some ((ent.map (·.device)).getD 0)
  else if f = R.nseMapEntryState then some ((ent.map (·.state)).getD 0)
  else if f = R.nseMapVectors then some ((ent.map (·.vectors)).getD 0)
  else if 0x800 ≤ f.pos && f.pos < 0xC00 then some (s.rd (P.nse 0) f)
  else none

/-- CLASS pages. -/
def State.liveClass (s : State) (f : Fld) : Option Nat :=
  let r := s.rules
  if f = R.classGenCurrent then some r.cur
  else if f = R.classGenLive then some (sumN (r.live.map (fun g => 2 ^ g)))
  else if f = R.classGenBuilding then some (r.building.getD 0)
  else if f = R.classGenBuildValid then some (b2n r.building.isSome)
  else if f = R.classGenSweep then some (b2n (decide (r.sweep ≠ [])))
  else if f = R.classUsed then some r.exact.length
  else if f = R.classUsed2Ternary then some r.ternary.length
  else if f = R.classUsed2Range then some r.ranges.length
  else if f = R.classUsed2Profiles then some r.profiles.length
  else (f.isOf R.classDrain 8).map (fun g => ((aget r.gens g).map (·.drain)).getD 0)

/-- VERDICT page of die d: the tracker that TRK_SEL names. -/
def State.liveVerdict (s : State) (d : Nat) (f : Fld) : Option Nat :=
  let t := s.tracker d (s.rd (P.verdict d) R.trkSel)
  if f = R.trkCtrlEnable then some (b2n t.enable)
  else if f = R.trkCtrlFreeze then some (b2n t.freeze)
  else if f = R.trkTarget then some t.target
  else if f = R.trkGain then some t.gain
  else if f = R.trkSlew then some t.slew
  else if f = R.trkMin then some (ofS 32 t.lo)
  else if f = R.trkMax then some (ofS 32 t.hi)
  else if f = R.trkTheta then some (ofS 32 (t.theta / 65536))
  else if f = R.trkAbove then some t.above
  else if f = R.trkBelow then some t.below
  else if f = R.trkClamped then some t.clamped
  else none

/-- HOLD page of die d. -/
def State.liveHold (s : State) (d : Nat) (f : Fld) : Option Nat :=
  if f = R.holdOcc then some (s.holdOcc d)
  else if f = R.holdPkts then some (s.path.pkts.filter (fun (x : Nat × Pkt) => x.2.held && decide (x.2.die = d))).length
  else (f.isOf R.holdPartOcc 16).map (fun p => s.holdPart d p)

/-- FPORT page f. -/
def State.liveFport (s : State) (n : Nat) (f : Fld) : Option Nat :=
  match s.fport n with
  | none => none
  | some x =>
    if f = R.fpStateState then some x.st
    else if f = R.fpStatePeerId then some ((x.peer.map (fun h => h.id % 64)).getD 0)
    else if f = R.fpStatePeerPort then some ((x.peer.map (fun h => h.port % 8)).getD 0)
    else if f = R.fpPeerSerial then some (x.peerSerial.getD 0)
    else (f.isOf R.fpCredit 3).map (fun v => satN 16 (x.credits.getD v 0))

/-- A FAB_ROUTE entry (16, registers). -/
def routeWord (e : RouteEnt) : Nat :=
  sumN (e.hops.zipIdx.map (fun x => (x.1 % 8 + 8) * 2 ^ (4 * x.2))) + e.dist % 64 * 2 ^ 16 + b2n e.self * 2 ^ 31

/-- OBS page. -/
def State.liveObs (s : State) (f : Fld) : Option Nat :=
  let a := s.mkAcc (s.rd P.obs R.markerSel)
  if f = R.obsFreezeSrcSw then some (s.rd P.obs R.obsFreezeSw)
  else if f = R.obsFreezeSrcPin then some (b2n (s.pins.freezeIn && s.on P.obs R.obsFreezePinEn))
  else if f = R.obsFreezeSrcFabric then some (b2n (s.obs.freezeId.isSome && s.on P.obs R.obsFreezeFabricEn))
  else if f = R.obsFreezeSrcFrozen then some (b2n s.frozen)
  else if f = R.mkPairs then some a.pairs
  else if f = R.mkSumNs then some a.sum
  else if f = R.mkMinNs then some a.min
  else if f = R.mkMaxNs then some a.max
  else if f = R.mkOrphans then some a.orphans
  else (f.isOf R.histBin 16).map (fun b => (aget s.obs.bins (16 * s.rd P.obs R.histSel + b)).getD 0)

/-- An edge's 8 bytes as a number (19, Graph in memory). -/
def WEdge.code (e : WEdge) : Nat := e.waiter + e.holder * 2 ^ 16 + e.reason * 2 ^ 32 + e.flags * 2 ^ 40

/-- Fields of the other pages. -/
def State.liveOther (s : State) (i : PageInfo) (f : Fld) : Option Nat :=
  match i.kind with
  | .feGlobal =>
    if f = R.feQueuesActive then some s.queuesActive else if f = R.feSlotsPinned then some s.pinnedCount else none
  | .cl => if f = R.clCmUsed then some (ceilDiv (s.cmUsed i.inst) 1024) else none
  | .core =>
    if f = R.coreState then some (if (s.codesOn (i.inst / 8)).any (fun c => c = 1 || c = 2) then 2 else 0) else none
  | .clk =>
    if f = R.clkCk4Count then some s.time.ck4 else if f = R.fmcCtrlStart then some (s.rd P.clk R.fmcStatusBusy) else none
  | .flow =>
    if f = R.flowGeomLog2 then some s.part.code.flowLog2
    else if f = R.flowDirty then some (((s.tab.caches.getD i.inst []).filter (fun (x : Nat × FlowLine) => x.2.dirty)).length)
    else if f = R.flowTpInuse then some (s.tpUsed i.inst) else none
  | .station => if f = R.stationCount then some (s.stCopy i.inst).length else none
  | .fab => if f = R.fabDigest then some (leNat s.configDigest) else if f = R.fabReach then some s.reachMask else none
  | .fabRoute => (f.isOf R.routeEntry 64).map (fun d => ((s.fab.routes[d]?).map routeWord).getD 0)
  | .hbm =>
    if f = R.hbmStatusTrained then some (b2n (decide (s.rd (P.hbm i.inst) R.pgStatusState = 3)))
    else if f = R.hbmStatusSelfRefresh then some (b2n (s.rst.held && decide (s.rd (P.hbm i.inst) R.pgStatusState ≠ 3))) else none
  | .obsTrace =>
    if f = R.trPending then some ((s.obs.bufs.map (fun b => sumN (b.recs.map List.length))).foldl max 0) else none
  | .flt => if f = R.fltLogWr then some (s.flt.seq % 2 ^ 32) else none
  | .cruise =>
    if f = R.crzCmdGo || f = R.crzStatusBusy then some (b2n s.flt.cruise.isSome) else none
  | .wfg => if f = R.wfgEdge then some (((s.flt.wfg[s.rd P.wfg R.wfgEdgeSel]?).map WEdge.code).getD 0) else none
  | _ => none

/-- Fields of a die's page that read on every die as on die 0 (10 R461; 11, the rings; 12, Registers). -/
def sharedField (k : PT) (f : Fld) : Bool :=
  let o := f.pos / 8
  match k with
  | .flow => (0x40 ≤ o && o < 0x70) || 0xC0 ≤ o
  | .station => (0x40 ≤ o && o < 0x48) || (0x6C ≤ o && o < 0x84)
  | .ptp => f = R.ptpRate || f = R.ptpCtrlPtpSrc || (0x68 ≤ o && o < 0x6C)
  | .slowpath => 0x200 ≤ o && o < 0x600
  | _ => false

/-- The page whose state field f of a page shows. -/
def shownInfo (i : PageInfo) (f : Fld) : PageInfo := if sharedField i.kind f then { i with inst := 0 } else i

/-- The offset of that page. -/
def shownPage (i : PageInfo) (p : Nat) (f : Fld) : Nat :=
  if sharedField i.kind f then (match i.kind with | .flow => P.flow 0 | .ptp => P.ptp 0 | .slowpath => P.slowpath 0 | _ => P.station 0) else p

/-- What field f of page p reads as through the physical function, the page neither absent nor gated. -/
def State.live (s : State) (i : PageInfo) (p : Nat) (f : Fld) : Nat :=
  if f.acc = .wo then 0
  else if f = R.pgStatusBusy then b2n (s.busy p)
  else if f = R.pgIrqSet then s.rd p R.pgIrqStatus
  else
    let j := shownInfo i f
    let own := match i.kind with
      | .dev => s.liveDev f
      | .rst => s.liveRst f
      | .iod => s.liveIod j.inst f
      | .feSlot => s.liveSlot f
      | .seq => s.liveSeq j.inst f
      | .forest => s.liveForest j.inst f
      | .nse => s.liveNse j.inst f
      | .parse => if f = R.parseStatesUsed then some s.rules.states.length else none
      | .classp => s.liveClass f
      | .verdict => s.liveVerdict j.inst f
      | .hold => s.liveHold j.inst f
      | .fport => s.liveFport j.inst f
      | .obs => s.liveObs f
      | _ => s.liveOther j f
    own.getD (s.rd (shownPage i p f) f)

/-! ## Windows and page identity -/

/-- PG_ID and PG_CAP (06, The common page header). BLOCK_CAP is the part's; every page raises interrupts, counts progress
and takes SOFT_RESET; it tallies where it has counters of its own. -/
def PageInfo.ident (i : PageInfo) (c : Code) (p : Nat) : Bytes :=
  leBytes 1 1 ++ leBytes 1 i.inst ++ leBytes 2 i.kind.code ++ leBytes 3 (Config.blockCap (p / 0x1000)) ++
  leBytes 1 (1 + 2 + 4 * b2n ((ownFlds c i.kind).any (fun f => f.acc = .cnt)) + 8 * b2n i.gate.isSome + 16 * b2n (decide (i.mirror ≠ 0)) + 32)

/-- The descriptor of a search channel, with what the DX2 writes into it (15). -/
def State.chanBytes (s : State) (ch : Nat) : Bytes :=
  match s.channel ch with
  | none => zeros 64
  | some d =>
    let hs := s.nse.shards.filter (fun h => h.channel = ch)
    padTo 64 (putAt (putAt d 10 (leBytes 2 hs.length)) 16 (leBytes 8 (sumN (hs.map (·.size)))))

/-- The operation table of a partition set (18 R894): STEPS and WORK per class and format. -/
def State.opsWindow (s : State) (part : Option Nat) : Bytes :=
  ((List.range 128).map (fun k =>
    let ps := match part with | some p => [p] | none => List.range 16
    let cell := fun (g : Nat × Nat → Nat) => sumN (ps.map (fun p => ((aget s.obs.ops (p * 128 + k)).map g).getD 0))
    leBytes 8 (cell (·.1)) ++ leBytes 8 (cell (·.2)))).flatten

/-- A bucket record (13, Rate buckets). -/
def Bucket.bytes (b : Bucket) : Bytes :=
  leBytes 4 b.rate ++ leBytes 4 b.burst ++ leBytes 8 b.tokens ++ leBytes 8 b.last ++ leBytes 1 b.exceed ++ leBytes 1 b.dscp ++ zeros 2 ++ leBytes 4 b.count

/-- The bytes GATE_LIST shows: the admin list, or the operating one (10). -/
def State.gateWindow (s : State) (port : Nat) : Bytes :=
  match s.eport port with
  | none => zeros 2048
  | some e =>
    if s.on (P.gate port) R.gateCtrlView then
      padTo 2048 (((e.oper.map (·.ents)).getD []).flatMap (fun x => leBytes 4 x.1 ++ leBytes 4 x.2))
    else Memory.read e.admin 0 2048

/-- Windows of page p: offset, bytes; part: the partition a virtual function reads for. -/
def State.windows (s : State) (i : PageInfo) (p : Nat) (part : Option Nat) : List (Nat × Bytes) :=
  (0, i.ident s.part.code p) ::
  (match i.kind with
    | .dev => [(0x40, leBytes 4 s.part.code.devCode), (0x300, s.mslotBytes (s.rd P.dev R.msSelect))]
    | .trust => [(0x50, padTo 48 (s.trust.meas.getD (s.rd P.trust R.trustMeasSel) []))]
    | .port => [(0x110, padTo 16 ((((s.eport i.inst).map (·.fifo)).getD []).headD []))]
    | .gate => [(0x800, s.gateWindow i.inst)]
    | .ptp => [(0x70, padTo 16 s.path.ptp.ppsIn)]
    | .rate => [(0x60, (s.bucket i.inst (s.rd (P.rate i.inst) R.rateSel)).bytes)]
    | .nse => [(0x140, s.chanBytes (s.rd (P.nse 0) R.nseChSel))]
    | .obs => [(0x800, s.opsWindow part)]
    | .obsTap => [(0x100, padTo 64 ((aget s.obs.taps (s.rd P.obsTap R.tapEntrySel)).getD []))]
    | .flt => [(0x100, padTo 64 ((aget s.flt.log (s.rd P.flt R.fltRecSel)).getD []))]
    | _ => [])

/-- The 32 bits at bit position b of a field of value v at pos. -/
def fieldPart (pos w v b : Nat) : Nat := if pos < b + 32 && b < pos + w then (if b ≤ pos then (v % 2 ^ w) <<< (pos - b) else (v % 2 ^ w) >>> (b - pos)) % 2 ^ 32 else 0

/-- The word at offset o of a page, given what each field and window reads as. -/
def wordOf (flds : List Fld) (val : Fld → Nat) (wins : List (Nat × Bytes)) (o : Nat) : Nat :=
  sumN ((flds.filter (fun f => decide (f.pos < 8 * o + 32 ∧ 8 * o < f.pos + f.w))).map (fun f => fieldPart f.pos f.w (val f) (8 * o))) +
  sumN (wins.map (fun w => if w.1 ≤ o && o < w.1 + w.2.length then fieldLE w.2 (o - w.1) 4 else 0))

/-! ## Page images (19 R966) -/

/-- The 4 KiB image of page p: retained contents, nothing cleared. -/
def State.pageImage (s : State) (p : Nat) : Bytes :=
  match pageAt (p / 0x1000) with
  | none => zeros 4096
  | some i =>
    let flds := pageFlds s.part.code i.kind
    ((List.range 1024).map (fun k => leBytes 4 (wordOf flds (s.live i p) (s.windows i p none) (4 * k)))).flatten

/-- The page's block is powered off (17 R829). -/
def State.poweredOff (s : State) (p : Nat) : Bool :=
  match pageAt (p / 0x1000) with
  | none => false
  | some i => match i.kind with
    | .cl | .seq | .qsu | .forest => (s.rd P.pwr R.pwrOff).testBit i.inst
    | .core => (s.rd P.pwr R.pwrOff).testBit (i.inst / 8)
    | .nse => (s.rd P.pwr R.pwrOff).testBit (16 + i.inst)
    | _ => false

/-- Present pages that are not powered off, ascending. -/
def State.dumpPages (s : State) : List Nat := (pageNumbers.map (· * 0x1000)).filter (fun p => s.pagePresent p && !s.poweredOff p)

/-- A field read through a selector window: a tracker of TRK_SEL, a map entry, a marker accumulator (18 R912). -/
def selected (k : PT) (f : Fld) : Bool :=
  match k with
  | .verdict => R.trkSel.pos < f.pos && f.pos ≤ R.trkClamped.pos
  | .nse => R.nseShardSel.pos < f.pos && f.pos ≤ R.nseMapVectors.pos
  | .obs => (R.markerSel.pos < f.pos && f.pos ≤ R.mkOrphans.pos) || (R.histSel.pos < f.pos && f.pos < R.markerSel.pos - 32 * 32)
  | _ => false

/-- Counter registers of a page in ascending offset, a 64-bit one as two words (R878, R890). -/
def State.counterEntries (s : State) (p : Nat) : List (Nat × Nat) :=
  match pageAt (p / 0x1000) with
  | none => []
  | some i =>
    let cs := (pageFlds s.part.code i.kind).filter (fun f => f.acc = .cnt && !selected i.kind f)
    let ws := (cs.map (fun f => if f.w ≤ 32 then [(f.pos, f, 0)] else [(f.pos, f, 0), (f.pos + 32, f, 32)])).flatten
    let ins := fun (l : List (Nat × Fld × Nat)) (x : Nat × Fld × Nat) => l.takeWhile (fun y => y.1 < x.1) ++ x :: l.dropWhile (fun y => y.1 < x.1)
    (ws.foldl ins []).map (fun x => (p + x.1 / 8 / 4 * 4, bits (s.live i p x.2.1) x.2.2 (min 32 x.2.1.w)))

/-! ## What a function sees (06, Partition windows; 18 R909 to R912) -/

/-- Page i appears to function fn. -/
def State.sees (s : State) (fn : Nat) (i : PageInfo) : Bool :=
  if fn = 0 then true
  else
    let p := fn - 1
    if i.mirror = 1 then true
    else if i.mirror = 2 then (match i.kind with
      | .cl | .seq | .qsu | .forest => (s.clusterGrant p).testBit i.inst
      | .core => (s.clusterGrant p).testBit (i.inst / 8)
      | .nse => (s.nseGrant p).testBit i.inst
      | .port => (s.portGrant p).testBit i.inst
      | .verdict => s.portGrant p / 2 ^ (4 * i.inst) % 16 ≠ 0
      | _ => false)
    else false

/-- Counters of PORT that are device-wide. -/
def portWide : List Fld :=
  [R.rxFcsErr, R.rxRunt, R.rxOversize, R.rxPause, R.rxPfc, R.rxFecCorr, R.rxFecUncorr, R.rxAssemblyErr, R.txLinkDrop, R.tsFifoOverrun, R.tsStatus]

/-- Field f is a partition-attributed counter; PG_PROGRESS never is (R880). -/
def attributed (k : PT) (f : Fld) : Bool :=
  f.acc = .cnt && 512 ≤ f.pos && (match k with
    | .cl | .seq | .core | .qsu | .forest | .nse | .verdict => true
    | .port => !portWide.contains f
    | _ => false)

/-- The object a selector window shows belongs to partition part. -/
def State.selectedOwn (s : State) (i : PageInfo) (part : Nat) : Bool :=
  match i.kind with
  | .verdict => recPart (s.classRec s.rules.cur (s.rd (P.verdict i.inst) R.trkSel)) = part
  | .nse => match s.channel (s.rd (P.nse 0) R.nseChSel) with
    | some d => chanOwner d = part
    | none => false
  | .obs => s.rd P.obs (R.markerCfgPartition (s.rd P.obs R.markerSel)) = part
  | _ => true

/-- What field f of page p reads as through function fn (R294). -/
def State.fieldVia (s : State) (fn : Nat) (i : PageInfo) (p : Nat) (f : Fld) : Nat :=
  if fn = 0 then s.live i p f
  else
    let part := fn - 1
    if f.acc = .rc || ((List.range 6).any (fun k => f = R.pgSentinel k)) then 0
    else if i.kind = .obs && ((List.range 16).any (fun b => f = R.histBin b)) then 0
    else if selected i.kind f then (if s.selectedOwn i part then s.live i p f else 0)
    else if attributed i.kind f then
      (aget s.obs.shares ((8 * (if i.kind = .nse && 0x800 ≤ f.pos && f.pos < 0xC00 then P.nse 0 else p) + f.pos) * 16 + part)).getD 0
    else s.live i p f

/-- Offset o of page i is hidden from virtual functions (R296). -/
def hiddenOffset (i : PageInfo) (o : Nat) : Bool := i.kind = .dev && !(o < 0x80 || (0x200 ≤ o && o < 0x240))

/-- The windows function fn reads. -/
def State.windowsVia (s : State) (fn : Nat) (i : PageInfo) (p : Nat) : List (Nat × Bytes) :=
  if fn = 0 then s.windows i p none
  else if i.kind = .nse && !s.selectedOwn i (fn - 1) then [(0, i.ident s.part.code p)]
  else s.windows i p (some (fn - 1))

/-- The 32-bit word at BAR0 offset a through function fn; zero where the page is absent, gated or hidden (R279 to R283,
R293). -/
def State.wordVia (s : State) (fn a : Nat) : Nat :=
  let p := a / 0x1000 * 0x1000
  let o := a % 0x1000 / 4 * 4
  match pageAt (a / 0x1000) with
  | none => 0
  | some i =>
    if s.gated p || !s.sees fn i || (fn ≠ 0 && hiddenOffset i o) then 0
    else wordOf (pageFlds s.part.code i.kind) (s.fieldVia fn i p) (s.windowsVia fn i p) o

end Sys2Proof.Machine
end

