-- ==== Sys2Proof/Machine/Cruise.lean ====
section
/-! DEFINITION. Machine/Cruise.lean: Cruise captures, the snapshot and the wait-for graph (19 R976 to R988). -/

namespace Sys2Proof.Machine

open Host (Outcome)

/-! ## Credited paths (R982) -/

/-- A path: index, items held, credits of the sender, MAX. -/
structure PathRec where
  index : Nat
  occ : Nat
  credits : Nat
  max : Nat
  deriving DecidableEq, Repr

/-- A path of a class whose depth no chapter gives: MAX is a value of the part, at least 1. -/
def openPath (cls inst occ : Nat) : PathRec :=
  let m := max 1 (Config.pathMax cls % 65536)
  ⟨256 * cls + inst, min occ m, m - occ, m⟩

/-- Steps started on cluster n. -/
def State.startedOn (s : State) (n : Nat) : Nat :=
  sumN (s.fe.invs.map (fun (x : Nat × Inv) => (x.2.steps.filter (fun y => y.st = .started && y.cluster = n)).length))

/-- Units busy on cluster n, with the slot of the step each runs. -/
def State.unitsOn (s : State) (n : Nat) : List (Nat × Nat) :=
  (s.fe.invs.map (fun (x : Nat × Inv) =>
    ((x.2.ops.zip x.2.steps).map (fun (y : Bytes × Step) =>
      if y.2.st = .started && y.2.cluster = n then
        ((List.range 6).filter (fun u => (unitsOf y.1 x.2.tensors).testBit u)).map (fun u => (u, x.2.slot)) else [])).flatten)).flatten

/-- Every path of a present instance, ascending. -/
def State.paths (s : State) : List PathRec :=
  let dies := s.part.code.ioDies
  let nstk := s.part.code.stacks
  (List.range 16).map (fun n => openPath 0 n (s.startedOn n)) ++
  ((List.range 16).map (fun n => (List.range 6).map (fun u => openPath 1 (8 * n + u) ((s.unitsOn n).filter (fun x => x.1 = u)).length))).flatten ++
  ((List.range 16).map (fun n => (List.range nstk).map (fun k => openPath 2 (8 * n + k) 0))).flatten ++
  s.fe.iqs.map (fun (x : Nat × InQueue) => PathRec.mk (768 + x.1) x.2.items.length (2 ^ x.2.log2 - x.2.items.length) (2 ^ x.2.log2)) ++
  ((List.range 16).map (fun n => (List.range dies).map (fun d => openPath 4 (4 * n + d) 0))).flatten ++
  ((List.range 8).map (fun k => (List.range nstk).map (fun j => openPath 5 (8 * k + j) 0))).flatten ++
  ((List.range (2 + dies)).map (fun a => ((List.range (2 + dies)).filter (· ≠ a)).map (fun b => openPath 6 (6 * a + b) 0))).flatten ++
  (List.range dies).map (fun d =>
    let o := (s.tab.learns.filter (fun x => x.die = d)).length
    PathRec.mk (1792 + d) o (Config.learnCredits - o) Config.learnCredits) ++
  ((List.range (2 * dies)).map (fun f => (List.range 3).map (fun v =>
    let x := s.fport f
    let c := (x.map (fun p => p.credits.getD v 0)).getD 0
    PathRec.mk (2048 + 3 * f + v) ((x.map (fun p => (p.queue.filter (fun fr => fr.vc = v)).length)).getD 0) c (fullCredits.getD v 0)))).flatten ++
  (List.range 8).map (fun e => openPath 9 e 0) ++
  ((List.range dies).map (fun a => ((List.range dies).filter (· ≠ a)).map (fun b => openPath 10 (4 * a + b) 0))).flatten

/-! ## The snapshot (R976, Snapshot format) -/

/-- The 32-byte record of slot k. -/
def State.slotRecord (s : State) (k : Nat) : Bytes :=
  let at_ := s.slotAt k
  let t := s.slotTask k
  let head := ((s.slot k).bind (·.queue)).bind (fun q => (s.queue q).bind (fun r => r.head.map (fun h => s.ringDesc r h.idx)))
  leBytes 4 (s.slotWord k) ++ leBytes 4 (s.rd P.feSlot (R.slotProgress k)) ++ leBytes 2 at_.1 ++ leBytes 2 at_.2.1 ++ leBytes 1 at_.2.2 ++
    leBytes 1 ((t.map (·.1)).getD 0) ++ leBytes 1 (b2n t.isSome) ++ [0] ++ leBytes 2 ((head.map (fun d => fieldLE d 4 2)).getD 0) ++ zeros 2 ++
    leBytes 8 ((head.map (fun d => fieldLE d 8 8)).getD 0) ++ zeros 4

/-- A queue's record. -/
def queueRecord (q : Nat) (r : Queue) : Bytes :=
  let c := r.qcb
  leBytes 2 q ++ leBytes 1 (c.state % 8 + 16 * c.part) ++ leBytes 1 (if c.slot < 32 then c.slot else 0xFF) ++
    leBytes 2 r.sqHeadNow ++ leBytes 2 c.sqTail ++ leBytes 2 c.cqTail ++ leBytes 2 c.cqHead ++ leBytes 4 c.retired

/-- Items of input queue n taken and not retired. -/
def State.itemsTaken (s : State) (n : Nat) : Nat :=
  sumN (s.fe.invs.map (fun (x : Nat × Inv) => if x.2.iq = n then b2n x.2.item.isSome + x.2.extra.length else 0))

/-- A block's record. -/
def State.blockRecord (s : State) (p : Nat) : Bytes :=
  match pageAt (p / 0x1000) with
  | none => zeros 16
  | some i => leBytes 4 p ++ leBytes 4 (wordOf headerFlds (s.live i p) [] 0x0C) ++ leBytes 4 (s.rd p R.pgProgress) ++
      leBytes 4 (wordOf headerFlds (s.live i p) [] 0x1C)

/-- Bound input queues. -/
def State.boundIqs (s : State) : List (Nat × InQueue) := s.fe.iqs.filter (fun (x : Nat × InQueue) => x.2.bound.isSome)

/-- The snapshot of this CK4 edge. -/
def State.snapshot (s : State) (fatal : Bool) : Bytes :=
  let ps := s.paths
  let qs := s.fe.queues.filter (fun (x : Nat × Queue) => x.2.qcb.state ≠ 0)
  let iqs := s.boundIqs
  let blocks := s.dumpPages
  let n := 64 + 1024 + 1024 + 8 * ps.length + 16 * qs.length + 8 * iqs.length + 16 * blocks.length
  padTo 64 (leBytes 4 0x315A5243 ++ leBytes 2 1 ++ leBytes 1 (b2n fatal + 2 * b2n s.frozen + 4 * b2n s.degraded) ++
      leBytes 1 (s.rd P.fab R.fabStatusDeviceId) ++ leBytes 8 s.time.ck4 ++ leBytes 8 s.fns ++ leBytes 2 s.epoch ++ leBytes 1 s.gen ++ [0] ++
      leBytes 2 ps.length ++ leBytes 2 qs.length ++ leBytes 2 iqs.length ++ leBytes 2 blocks.length ++ leBytes 4 n) ++
    ((List.range 32).map s.slotRecord).flatten ++
    ((List.range 64).map (fun j => padTo 16 ((s.streamBytes (j / 4) (j % 4)).take 12))).flatten ++
    (ps.map (fun x => leBytes 2 x.index ++ leBytes 2 x.occ ++ leBytes 2 x.credits ++ leBytes 2 x.max)).flatten ++
    (qs.map (fun (x : Nat × Queue) => queueRecord x.1 x.2)).flatten ++
    (iqs.map (fun (x : Nat × InQueue) => leBytes 1 x.1 ++ leBytes 1 (x.2.bound.getD 0) ++ leBytes 2 x.2.items.length ++
      leBytes 2 (2 ^ x.2.log2 - x.2.items.length) ++ leBytes 2 (s.itemsTaken x.1))).flatten ++
    (blocks.map s.blockRecord).flatten

/-! ## The wait-for graph (R984 to R988) -/

/-- A node's code. -/
def node (kind inst : Nat) : Nat := kind * 4096 + inst % 4096

/-- Streams of slot k: their numbers 4n + i. -/
def State.slotStreams (s : State) (k : Nat) : List Nat :=
  (List.range 64).filter (fun j => ((s.streamAt (j / 4) (j % 4)).map (fun r => decide (r.slot = k))).getD false)

/-- An edge before its flags: waiter, holder, REASON. -/
abbrev RawEdge := Nat × Nat × Nat

/-- Edges of slot k. -/
def State.slotEdges (s : State) (k : Nat) : List RawEdge :=
  let me := node 1 k
  let st := s.slotState k
  let q := (s.slotQueue k).getD 0
  let streams := s.slotStreams k
  (if st = 3 then streams.map (fun j => (me, node 2 j, 9)) else []) ++
  (if st = 2 then
    (match (s.queue q).bind (fun r => r.head.map (fun h => (r, h))) with
      | none => []
      | some (r, h) =>
        let d := s.ringDesc r h.idx
        (if s.depHolds q d then [] else [(me, node 5 (fieldLE d 4 2 % 1024), 1)]) ++
        (if (fieldLE d 1 1).testBit 1 && r.ents.head? ≠ some h then streams.map (fun j => (me, node 2 j, 2)) else [])) else []) ++
  (if st = 4 then
    (match s.slotTask k with
      | some (iq, _) => [(me, node 6 iq, 5)]
      | none => (s.slotSteps k).map (fun d => (me, node 6 (fieldLE d 40 1), 5))) else []) ++
  (if st = 5 then [(me, node 8 q, 7)] else [])

/-- Edges of stream j. -/
def State.streamEdges (s : State) (j : Nat) : List RawEdge :=
  let me := node 2 j
  match s.streamAt (j / 4) (j % 4) with
  | none => []
  | some r =>
    let v := s.inv r.inv
    if r.reason = 1 then ((s.slotStreams r.slot).filter (fun x => x / 4 = r.aux)).map (fun x => (me, node 2 x, 1))
    else if r.reason = 2 then
      if r.on = 0xFFFF then
        ((s.fe.invs.filter (fun (x : Nat × Inv) => x.2.scratch.isSome && some x.2.mslot = v.map (fun (y : Inv) => y.mslot))).map
          (fun x => (s.slotStreams x.2.slot).map (fun y => (me, node 2 y, 8)))).flatten
      else [(me, node 4 r.on, 3)]
    else if r.reason = 3 then [(me, node 3 (8 * (j / 4) + r.on), 4)]
    else if r.reason = 4 then [(me, node 6 r.on, 5)]
    else if r.reason = 5 then
      ((s.slotStreams r.slot).filter (fun x => x ≠ j && ((s.streamAt (x / 4) (x % 4)).map (fun y => y.inv = r.inv && !(y.reason = 5 && y.on = r.on))).getD false)).map
        (fun x => (me, node 2 x, 6))
    else []

/-- Edges of a path whose sender holds no credit. -/
def State.pathEdges (s : State) (p : PathRec) : List RawEdge :=
  let me := node 4 p.index
  if p.credits ≠ 0 then []
  else
    let c := p.index / 256
    let n := p.index % 256
    if c = 3 then
      (match (aget s.fe.iqs n).bind (·.bound) with
        | some k => (s.slotStreams k).map (fun j => (me, node 2 j, 10))
        | none => [])
    else if c = 7 then [(me, node 7 (P.station 0 / 0x1000), 10)]
    else if c = 8 then [(me, node 10 (((s.fport (n / 3)).bind (·.peer)).map (·.id) |>.getD 0), 12)]
    else []

/-- Queues with an entry that waits for Bus Master Enable: the j-th of them waits on DMA engine j mod 8. -/
def State.bmeEdges (s : State) : List RawEdge :=
  let qs := s.fe.queues.filter (fun (x : Nat × Queue) =>
    !((s.host.funcs[s.qFn x.1]?).map (·.bme)).getD false &&
    x.2.ents.any (fun e => e.st = .granted && (s.addrUses e.desc).any (fun u => spaceHost (e.fld u.off 8))))
  qs.zipIdx.map (fun x => (node 4 (2304 + x.2 % 8), node 8 x.1.1, 11))

/-- Insert an edge in the order WAITER, HOLDER, REASON; one that stands there already is left out. -/
def putEdge (x : RawEdge) : List RawEdge → List RawEdge
  | [] => [x]
  | y :: l =>
    if x = y then y :: l
    else if x.1 < y.1 || (x.1 = y.1 && (x.2.1 < y.2.1 || (x.2.1 = y.2.1 && x.2.2 < y.2.2))) then x :: y :: l
    else y :: putEdge x l

/-- Every edge, sorted (R984). A mapped queue waits where it holds entries not yet granted. -/
def State.rawEdges (s : State) : List RawEdge :=
  let slots := ((List.range 32).map s.slotEdges).flatten
  let queues := s.fe.queues.filterMap (fun (x : Nat × Queue) =>
    if x.2.head.isSome then ((List.range 32).find? (fun k => (s.slot k).bind (·.queue) = some x.1)).map (fun k => (node 5 x.1, node 1 k, 9)) else none)
  let streams := ((List.range 64).map s.streamEdges).flatten
  let units := ((List.range 16).map (fun n => ((s.unitsOn n).map (fun x =>
    ((s.slotStreams x.2).filter (fun j => j / 4 = n)).map (fun j => (node 3 (8 * n + x.1), node 2 j, 9)))).flatten)).flatten
  let iqs := (s.boundIqs.filter (fun x => x.2.items = [])).map (fun x => (node 6 x.1, node 9 x.1, 5))
  (slots ++ queues ++ streams ++ units ++ (s.paths.map s.pathEdges).flatten ++ s.bmeEdges ++ iqs).foldl (fun l e => putEdge e l) []

/-- The page whose progress a unit shows: QSU and Forest Engine their own, the others the CL page. -/
def unitPage (x : Nat) : Nat := if x % 8 = 2 then P.qsu (x / 8) else if x % 8 = 3 then P.forest (x / 8) else P.cl (x / 8)

/-- The record of size n whose first k bytes spell id, among c records from offset o of a snapshot. -/
def findRec (a : Bytes) (o n k id : Nat) : Nat → Bytes
  | 0 => []
  | c + 1 => if fieldLE a o k = id then (a.drop o).take n else findRec a (o + n) n k id c

/-- What must change between snapshots for a holder to have made progress (R985); an input queue's record stands for it. -/
def progressOf (a : Bytes) (h : Nat) : Bytes :=
  let x := h % 4096
  let np := fieldLE a 28 2
  let nq := fieldLE a 30 2
  let ni := fieldLE a 32 2
  let nb := fieldLE a 34 2
  let o1 := 2112 + 8 * np
  let o2 := o1 + 16 * nq
  let o3 := o2 + 8 * ni
  match h / 4096 with
  | 1 => (a.drop (64 + 32 * x + 4)).take 4
  | 2 => (a.drop (1088 + 16 * x + 8)).take 4
  | 3 => ((findRec a o3 16 4 (unitPage x) nb).drop 8).take 4
  | 4 => ((findRec a 2112 8 2 x np).drop 2).take 4
  | 5 => ((findRec a o1 16 2 x nq).drop 12).take 4
  | 6 => findRec a o2 8 1 x ni
  | 7 => ((findRec a o3 16 4 (x * 0x1000) nb).drop 8).take 4
  | _ => []

/-- STALLED: the holder made no progress (R985). -/
def stalled (a b : Bytes) (h : Nat) : Bool := h / 4096 < 8 && progressOf a h = progressOf b h

/-- Nodes reached from a set along edges, n rounds. -/
def reachFrom (es : List RawEdge) : Nat → List Nat → List Nat
  | 0, l => l
  | n + 1, l =>
    let more := (es.filter (fun e => l.contains e.1 && !l.contains e.2.1)).map (fun e => e.2.1)
    if more = [] then l else reachFrom es n (more.eraseDups ++ l)

/-- Nodes on a common cycle with x, x among them; empty where x is on none. -/
def cycleOf (es : List RawEdge) (x : Nat) : List Nat :=
  let back := es.map (fun e => (e.2.1, e.1, e.2.2))
  let n := es.length
  let fwd := reachFrom es n ((es.filter (fun e => e.1 = x)).map (fun e => e.2.1))
  let bwd := reachFrom back n ((back.filter (fun e => e.1 = x)).map (fun e => e.2.1))
  fwd.filter (fun y => bwd.contains y)

/-- A graph: edges with flags, nodes, cycles, roots, first root, first node on a cycle, TRUNC. -/
structure Graph where
  edges : List WEdge
  nodes : Nat
  cycles : Nat
  roots : Nat
  root : Nat
  cycle : Nat
  trunc : Bool
  deriving DecidableEq, Repr

/-- The graph of the present edges between snapshots a and b (R985 to R988). -/
def State.graph (s : State) (a b : Bytes) : Graph :=
  let all := s.rawEdges
  let es := all.take 4096
  let nodes := insAll ((es.map (fun e => e.1)) ++ es.map (fun e => e.2.1))
  let cyc := nodes.map (fun x => (x, cycleOf es x))
  let mates := fun (x : Nat) => (aget cyc x).getD []
  let heads := cyc.filter (fun x => x.2 ≠ [] && x.2.all (fun y => x.1 ≤ y))
  let roots := nodes.filter (fun x => x / 4096 < 8 && es.any (fun e => e.2.1 = x && stalled a b x) && !es.any (fun e => e.1 = x))
  { edges := es.map (fun e => ⟨e.1, e.2.1, e.2.2, b2n ((mates e.1).contains e.2.1) + 2 * b2n (stalled a b e.2.1)⟩)
    nodes := nodes.length
    cycles := heads.length
    roots := roots.length
    root := roots.headD 0
    cycle := ((cyc.find? (fun x => x.2 ≠ [])).map (·.1)).getD 0
    trunc := decide (4096 < all.length) }
where
  /-- distinct numbers, ascending -/
  insAll (l : List Nat) : List Nat := (sortN l).eraseDups

/-- The graph in memory. -/
def Graph.bytes (g : Graph) (ckA ckB : Nat) : Bytes :=
  leBytes 4 0x31474657 ++ leBytes 2 1 ++ leBytes 2 g.nodes ++ leBytes 2 g.edges.length ++ leBytes 2 g.cycles ++ leBytes 2 g.roots ++
    leBytes 1 (b2n g.trunc) ++ [0] ++ leBytes 8 ckA ++ leBytes 8 ckB ++ (g.edges.map (fun e => leBytes 8 e.code)).flatten

/-- The WFG page shows a graph. -/
def State.showGraph (s : State) (g : Graph) : State :=
  let w := P.wfg
  let s1 := (((s.count w R.wfgSeq).wr w R.wfgCountsNodes g.nodes).wr w R.wfgCountsEdges g.edges.length).wr w R.wfgFoundCycles g.cycles
  let s2 := (((s1.wr w R.wfgFoundRoots g.roots).wr w R.wfgFirstRoot g.root).wr w R.wfgFirstCycle g.cycle).wr w R.wfgFlags (b2n g.trunc)
  let s3 := ({ s2 with flt := { s2.flt with wfg := g.edges } }).cause w 8
  if g.cycles = 0 then s3 else s3.cause w 9

/-! ## Captures (R976 to R981) -/

/-- Begin: snapshot A is taken at this edge; the second one, if any, INTERVAL µs on. -/
def State.cruiseBegin (s : State) (entry : Option Nat) (dst : Nat) (wfg : Bool) (us : Nat) : State :=
  let wait := if wfg then (if us = 0 then 1000 else us) * 1000 else 0
  let c : Cruise := ⟨entry, dst, wfg, s.ns + wait, s.snapshot false, s.time.ck4⟩
  let s1 := (((s.wr P.cruise R.crzStatusDone 0).wr P.cruise R.crzStatusErr 0).count P.cruise R.crzCount).wr P.cruise R.crzCk4 s.time.ck4
  { s1 with flt := { s1.flt with cruise := some c } }

/-- The Cruise is over. -/
def State.cruiseOver (s : State) : State := { s with flt := { s.flt with cruise := none } }

/-- Write out what a Cruise that is due gives, and end it (R978); its host side waits for Bus Master Enable (09 R405). -/
def State.cruiseStep (s : State) : State :=
  match s.flt.cruise with
  | none => s
  | some c =>
    if s.ns < c.due || (spaceHost c.dst && !s.dmaOk 0) then s
    else
      let la := c.a.length
      let s1 := s.spWrite 0 c.dst 0 c.a
      let r : State × Nat :=
        if c.wfg then
          let b := s.snapshot false
          let g := s.graph c.a b
          let gb := g.bytes c.ck4 s.time.ck4
          let ob := roundUp la 64
          let og := ob + roundUp b.length 64
          ((((s1.spWrite 0 c.dst ob b).spWrite 0 c.dst og gb).showGraph g).count P.cruise R.crzCount, la + b.length + gb.length)
        else (s1, la)
      let s2 := r.1.when (spaceHost c.dst) (fun t => t.countN P.dma R.dmaWrBytes r.2)
      let s3 := ((s2.wr P.cruise R.crzBytes r.2).wr P.cruise R.crzStatusDone 1).cause P.cruise 8
      match c.entry with
      | some i => s3.cruiseOver.finish 0 i St.success r.2
      | none => s3.cruiseOver

/-- CRUISE (0x5C). -/
def cruise (i : Nat) (s : State) : State :=
  match s.grantedCmd 0 i 0x5C with
  | some e =>
    if s.flt.cruise.isSome then s.finish 0 i St.noResource 0x90
    else if !s.hostGo 0 [e.fld 24 8] then s.count P.dma R.dmaBmeWait
    else ((s.startEntry 0 i).cruiseBegin (some i) (e.fld 24 8) (e.fld 16 1 % 2 = 1) (e.fld 18 2)).cruiseStep
  | none => if (s.flt.cruise.bind (·.entry)) = some i then s.cruiseStep else s

/-- CRUISE. -/
def execCruise (i : Nat) (s : State) : Outcome State Fault Refusal := .next (cruise i s)

/-- A GO refused before any capture. -/
def State.cruiseErr (s : State) : State := (s.wr P.cruise R.crzStatusDone 0).wr P.cruise R.crzStatusErr 1

/-- CRZ_GO: R979 to R981. -/
def crzGo (s : State) : State :=
  let dst := s.rd P.cruise R.crzDst
  let wfg := s.on P.cruise R.crzCmdWfg
  let need := if wfg then 163872 else 65536
  if !s.pagePresent P.cruise || !s.ready P.cruise then s
  else if s.flt.cruise.isSome then s.perr P.flt 0x0100
  else if s.rd P.cruise R.crzMax < need then s.cruiseErr
  else if !s.spAdmits true 0 dst need true then s.cruiseErr.perr P.flt 0x0101
  else (s.cruiseBegin none dst wfg (s.rd P.cruise R.crzInterval)).cruiseStep

/-- CRZ_GO. -/
def execCrzGo (s : State) : Outcome State Fault Refusal := .next (crzGo s)

/-- The fatal path ends a running Cruise (R980). -/
def State.endCruise (s : State) : State :=
  match s.flt.cruise with
  | none => s
  | some c =>
    let s1 := s.cruiseOver.cruiseErr
    match c.entry with
    | some i => s1.finish 0 i St.internal 0
    | none => s1

/-! ## The trace ring in a dump (R967) -/

/-- Bytes of the newest records of the trace ring, where it lies in device memory: at most 16 MiB, oldest first. -/
def State.traceRingTail (s : State) : Bytes :=
  let base := s.rd P.obsTrace R.trBase
  let lg := s.rd P.obsTrace R.trLog2
  let w := s.rd P.obsTrace R.trWr
  if spaceHost base || w = 0 then []
  else
    let n := min w (min (2 ^ lg) (2 ^ 19))
    ((List.range n).map (fun k => s.partRead 0 (spaceAddr base + 32 * ((w - n + k) % 2 ^ lg)) 32)).flatten

/-- A line of that ring holds an uncorrectable error. -/
def State.traceRingPoisoned (s : State) : Bool :=
  let base := s.rd P.obsTrace R.trBase
  !spaceHost base && s.rd P.obsTrace R.trWr ≠ 0 && s.partPoisoned 0 (spaceAddr base) (32 * 2 ^ s.rd P.obsTrace R.trLog2)

end Sys2Proof.Machine
end

