-- ==== Sys2Proof/Machine/Egress.lean ====
section
/-! DEFINITION. Machine/Egress.lean: gate lists, window fit, egress, preemption, links, egress timestamps, PTP and PPS
(10). -/

namespace Sys2Proof.Machine

open Host (Outcome)

/-! ## Gate lists (R470 to R478) -/

/-- The segments of one cycle: start, end, gates; the last entry holds to the cycle's end (R471). -/
def GateList.segs (g : GateList) : List (Nat × Nat × Nat) :=
  let r := g.ents.foldl (fun (r : Nat × List (Nat × Nat × Nat)) (e : Nat × Nat) =>
    if g.cycle ≤ r.1 then r else (min g.cycle (r.1 + e.2), r.2 ++ [(r.1, min g.cycle (r.1 + e.2), e.1)])) (0, [])
  match r.2.getLast? with
  | some (a, _, x) => if r.1 < g.cycle then r.2.dropLast ++ [(a, g.cycle, x)] else r.2
  | none => []

/-- Position in its cycle of a PTP time in 2^-16 ns. -/
def GateList.pos16 (g : GateList) (t : Int) : Nat := ((t - (g.base : Int) * 65536) % ((g.cycle : Int) * 65536)).toNat

/-- The gates at a PTP time in 2^-16 ns. -/
def GateList.gatesAt (g : GateList) (t : Int) : Nat :=
  let p := g.pos16 t
  ((g.segs.find? (fun x => x.1 * 65536 ≤ p && p < x.2.1 * 65536)).map (fun x => x.2.2)).getD 0

/-- Longest run of open segments, counting a wrap once; none where the gate never closes (R478; log entry 46). -/
def GateList.window (g : GateList) (tc : Nat) : Option Nat :=
  let l := g.segs
  if l.all (fun x => x.2.2.testBit tc) then none
  else some ((l ++ l).foldl (fun (r : Nat × Nat) x =>
    if x.2.2.testBit tc then (r.1 + (x.2.1 - x.1), max r.2 (r.1 + (x.2.1 - x.1))) else (0, r.2)) (0, 0)).2

/-- The time in 2^-16 ns from t until TC tc's gate next closes; 0 where it is closed; none where it never closes. -/
def GateList.openFor (g : GateList) (tc : Nat) (t : Int) : Option Nat :=
  let l := g.segs
  let p := g.pos16 t
  if l.all (fun x => x.2.2.testBit tc) then none
  else
    let rest := l.filter (fun x => p < x.2.1 * 65536)
    let r := (rest ++ l).foldl (fun (r : Nat × Bool) x =>
      if r.2 && x.2.2.testBit tc then (r.1 + (x.2.1 - x.1) * 65536, true) else (r.1, false)) (0, true)
    let first := ((rest.head?).map (fun x => x.1 * 65536)).getD p
    some (r.1 - (p - first))

/-- The gates of port p now: all open without gate control, GATE_INIT_STATES before the first list, the last entry's
during an extension (R470, R474, R477). -/
def State.gatesNow (s : State) (p : Nat) : Nat :=
  if !s.on (P.gate p) R.gateCtrlEnable then 255
  else match s.eport p with
    | none => 255
    | some e =>
      match e.oper with
      | none => s.rd (P.gate p) R.gateInitStates
      | some g =>
        match e.extend with
        | some c => if c * 65536 ≤ s.ptp16 then ((g.segs.getLast?).map (fun x => x.2.2)).getD 0 else g.gatesAt s.ptp16
        | none => g.gatesAt s.ptp16

/-- How long TC tc's gate of port p stays open from now, in 2^-16 ns; none: it does not close. -/
def State.gateLeft (s : State) (p tc : Nat) : Option Nat :=
  if !s.on (P.gate p) R.gateCtrlEnable then none
  else if !(s.gatesNow p).testBit tc then some 0
  else match s.eport p with
    | none => none
    | some e =>
      match e.oper with
      | none => none
      | some g =>
        match e.extend, e.pendingList with
        | some c, some (ch, _) => if c * 65536 ≤ s.ptp16 then some (ch * 65536 - s.ptp16).toNat else g.openFor tc s.ptp16
        | _, _ => g.openFor tc s.ptp16

/-- The admin list of port p. -/
def State.adminList (s : State) (p : Nat) : List (Nat × Nat) :=
  let m := ((s.eport p).map (·.admin)).getD []
  (List.range (s.rd (P.gate p) R.gateAdminLen)).map (fun i =>
    (leNat (Memory.read m (8 * i) 1), leNat (Memory.read m (8 * i + 4) 4)))

/-- GATE_COMMIT: R473 to R476. -/
def gateCommit (port : Nat) (s : State) : State :=
  let g := P.gate port
  if !s.portExists port || s.gated g then s
  else
    let n := s.rd g R.gateAdminLen
    let cyc := s.rd g R.gateAdminCycle
    let l := s.adminList port
    if n < 1 || 256 < n || l.any (fun x => x.2 < 8) || cyc < 64 || 1000000000 < cyc then (s.wr g R.gateCtrlCommit 0).illegal g
    else
      let base := s.rd g R.gateAdminBase
      -- the first base + k * cycle at least 2 µs after now
      let want := (s.ptp16 + 2000 * 65536 + 65535) / 65536
      let ch := base + (want - base + (cyc - 1)) / cyc * cyc
      let gl : GateList := ⟨l, base, cyc⟩
      let ext := match (s.eport port).bind (·.oper) with
        | none => none
        | some o =>
          let cs := (o.base : Int) + (ch - o.base) / o.cycle * o.cycle
          if cs < ch && ch ≤ cs + s.rd g R.gateAdminCycleExt then some cs else none
      ((s.modPort port (fun e => { e with pendingList := some (ch, gl), extend := ext })).wr g R.gateCtrlCommit 1).wr g R.gateChange (ofS 64 ch)

/-- GATE_COMMIT. -/
def execGateCommit (port : Nat) (s : State) : Outcome State Fault Refusal := .next (gateCommit port s)

/-- GATE_LIST_CHANGE: the change time has come (R473, R474, R478, R483). -/
def gateListChange (port : Nat) (s : State) : State :=
  let g := P.gate port
  match (s.eport port).bind (·.pendingList) with
  | none => s
  | some (ch, gl) =>
    if s.ptp16 < ch * 65536 then s
    else
      let s1 := s.modPort port (fun e => { e with oper := some gl, pendingList := none, extend := none })
      let s2 := ((s1.wr g R.gateCtrlCommit 0).wr g R.gateOperBase gl.base).wr g R.gateOperCycle gl.cycle
      let s3 := s2.each (List.range 8) (fun t tc => t.wr g (R.gateMaxWindow tc) ((gl.window tc).getD 0xFFFFFFFF))
      (s3.wr g R.gateOperStates (s3.gatesNow port)).cause g 8

/-- GATE_LIST_CHANGE. -/
def execGateListChange (port : Nat) (s : State) : Outcome State Fault Refusal := .next (gateListChange port s)

/-- GATE_EVENT: an interval ended; GATE_OPER_STATES shows the gates now open. -/
def gateEvent (port : Nat) (s : State) : State :=
  if !s.portExists port || s.gated (P.gate port) then s else s.wr (P.gate port) R.gateOperStates (s.gatesNow port)

/-- GATE_EVENT. -/
def execGateEvent (port : Nat) (s : State) : Outcome State Fault Refusal := .next (gateEvent port s)

/-! ## Egress timestamps (R465 to R468) -/

/-- The one's complement checksum c of a message in which bytes old at an even place became new. -/
def csumPatch (c : Nat) (old new : Bytes) : Nat :=
  let w := fun (b : Bytes) => sumN ((List.range (b.length / 2)).map (fun i => u16be b (2 * i)))
  let inv := sumN ((List.range (old.length / 2)).map (fun i => 0xFFFF - u16be old (2 * i)))
  let t := (0xFFFF - c) + inv + w new
  let t1 := t % 65536 + t / 65536
  let t2 := t1 % 65536 + t1 / 65536
  let r := 0xFFFF - t2
  if r = 0 then 0xFFFF else r

/-- Write bytes x at offset o of a PTP message's frame, fixing the UDP checksum: zero over IPv4, patched over IPv6. -/
def ptpPut (f : Bytes) (p : Nat × Nat) (o : Nat) (x : Bytes) : Bytes :=
  let at_ := p.1 + o
  let f1 := putAt f at_ x
  if p.2 = 4 then putAt f1 (p.1 - 2) [0, 0]
  else if p.2 = 6 then putAt f1 (p.1 - 2) (beBytes 2 (csumPatch (u16be f (p.1 - 2)) ((f.drop at_).take x.length) x))
  else f1

/-- Egress timestamp of a frame begun at start, PTP time in 2^-16 ns: the end of its SFD at the ball. -/
def State.egressStamp (s : State) (port start : Nat) : Int :=
  s.ptpAt ((start : Int) + 64 * 65536 / max 1 (s.portRate port) + ps16 (s.rd (P.port port) R.portTsLatTx)) / 2 ^ 40

/-- Take the egress timestamp of the frame on the wire, once: into the two-step FIFO, into a one-step Sync, into
correctionField as a transparent clock. -/
def State.stampCur (s : State) (port : Nat) : State :=
  match s.eport port with
  | none => s
  | some ep =>
    match ep.cur with
    | none => s
    | some c =>
      match c.ent.ptp with
      | none => s
      | some (o, k) =>
        let ty := byteAt c.bytes o % 16
        let s0 := s.modPort port (fun e => { e with cur := some { c with ent := { c.ent with ptp := none } } })
        if 3 < ty then s0
        else
          let ts := s.egressStamp port c.start
          let pp := P.port port
          let s1 :=
            if c.ent.tsReq = 1 || s.on pp R.portPtp then
              if 64 ≤ ep.fifo.length then s0.count pp R.tsFifoOverrun
              else
                let ent := stampBytes ts ++ leBytes 2 (u16be c.bytes (o + 30)) ++ leBytes 1 ty ++ leBytes 1 (byteAt c.bytes (o + 4))
                ((s0.modPort port (fun e => { e with fifo := e.fifo ++ [ent] })).wr pp R.tsStatus (ep.fifo.length + 1)).cause pp 10
            else s0
          let v := ts.toNat
          let b1 := if c.ent.tsReq = 2 && ty = 0 then
              ptpPut c.bytes (o, k) 34 (beBytes 6 (v / 65536 / 1000000000) ++ beBytes 4 (v / 65536 % 1000000000))
            else c.bytes
          let b2 := if s.on (P.ptp 0) R.ptpCtrlPtpTcEn && c.ent.pkt.isSome then
              ptpPut b1 (o, k) 8 (beBytes 8 (ofS 64 (toS 64 (fieldBE b1 (o + 8) 8) + (ts - c.ent.ingress))))
            else b1
          s1.modPort port (fun e => { e with cur := e.cur.map (fun x => { x with bytes := b2 }) })

/-- EGRESS_TIMESTAMP. -/
def execEgressTimestamp (port : Nat) (s : State) : Outcome State Fault Refusal := .next (s.stampCur port)

/-- TS_POP: the head entry leaves (R466). -/
def tsPop (port : Nat) (s : State) : State :=
  match s.eport port with
  | none => s
  | some ep =>
    if !s.portExists port || s.gated (P.port port) then s
    else (s.modPort port (fun e => { e with fifo := e.fifo.drop 1 })).wr (P.port port) R.tsStatus (ep.fifo.length - 1)

/-- TS_POP. -/
def execTsPop (port : Nat) (s : State) : Outcome State Fault Refusal := .next (tsPop port s)

/-! ## Egress (R446 to R457, R479 to R500) -/

/-- Preemption is active and TC tc preemptable (R487). -/
def State.preemptable (s : State) (port tc : Nat) : Bool :=
  s.on (P.port port) R.portStatusPreemptActive && (s.rd (P.gate port) R.gateTcPreempt).testBit tc

/-- Time on the wire of n bytes with preamble and gap at r Gb/s, in 2^-16 ns, rounded up. -/
def wire16 (n r : Nat) : Nat := ceilDiv ((n + 20) * 8 * 65536) (max 1 r)

/-- n bytes and the guard end within a left-over time (R479), exactly. -/
def fits (n r guard : Nat) (left : Option Nat) : Bool :=
  match left with
  | none => true
  | some l => decide ((n + 20) * 8 * 65536 + guard * 65536 * r ≤ l * r)

/-- The frame with tag t of ETYPE e directly after its source address, over one that stands there (R493, R495). -/
def withTag (f t : Bytes) (e : Nat) : Bytes :=
  let t1 := beBytes 2 e ++ t.drop 2
  if 28 ≤ f.length && u16be f 12 = e then f.take 12 ++ t1 ++ f.drop 28 else f.take 12 ++ t1 ++ f.drop 12

/-- The port wants a tag in this frame (R494, R496). -/
def State.wantsTag (s : State) (port : Nat) (e : EgrEnt) : Bool :=
  e.tag ≠ [] && e.left = 0 && (s.rd (P.port port) R.portTagTagTx = 2 || (s.rd (P.port port) R.portTagTagTx = 1 && e.ask))

/-- The tail of entry e's frame is known good, or it needs none. -/
def State.tailIn (s : State) (e : EgrEnt) : Bool :=
  match e.pkt with
  | none => true
  | some k => match s.pkt k with | some p => p.tail = 1 | none => true

/-- TC tc of the port is paused (R449, R450). -/
def State.tcPaused (s : State) (ep : EPort) (tc : Nat) : Bool := s.ns < ep.paused || s.ns < ep.pfc.getD tc 0

/-- What a head may do now: wait, leave its queue as too long for its window, or start with these bytes, tagged or not
(why not), as a fragment of this many bytes or whole, before its tail or not. -/
inductive HeadFate where
  | wait (held : Bool)
  | oversize
  | go (bytes : Bytes) (tagged : Bool) (mtu fit : Bool) (frag : Nat) (cut : Bool)
  deriving DecidableEq, Repr

/-- Bytes of the largest first or next fragment: its frame bytes without mCRC; 0 where none fits (R488, R489). left is
what remains of the frame, its FCS counted. -/
def State.fragLen (s : State) (port left : Nat) (room : Option Nat) : Nat :=
  match room with
  | none => 0
  | some l =>
    let r := s.portRate port
    let guard := s.rd (P.gate port) R.gateGuardNs
    let n := (l * r - guard * 65536 * r) / (8 * 65536) - 20
    let carried := min (n - 4) (left - 64)
    if 64 * (1 + s.rd (P.port port) R.portCfgAddFrag) ≤ carried + 4 && 64 < left then carried else 0

/-- The test of a head of TC tc (R448, R454, R479 to R491, R497). -/
def State.headFate (s : State) (port tc : Nat) (ep : EPort) (e : EgrEnt) (only : Bool) : HeadFate :=
  let pp := P.port port
  let r := s.portRate port
  let guard := s.rd (P.gate port) R.gateGuardNs
  let gateOn := s.on (P.gate port) R.gateCtrlEnable
  let cut := !s.tailIn e
  if s.tcPaused ep tc then .wait false
  else if cut && (gateOn || e.inRate = 0 || e.inRate < r || !only || s.preemptable port tc) then .wait false
  else
    let want := s.wantsTag port e
    let tag := if e.early && cut then putAt e.tag 3 (leBytes 1 (byteAt e.tag 3 ||| 1)) else e.tag
    let full := withTag e.frame tag (s.rd pp R.portTagEthertype)
    let mtu := want && s.rd pp R.portMaxFrame < full.length + 4
    let tagged := want && !mtu
    let b := if tagged then full else e.frame
    let bare := e.frame
    let left := s.gateLeft port tc
    let len := b.length + 4 - e.left
    let maxw := ((s.eport port).bind (·.oper)).bind (fun g => g.window tc)
    let suppress := s.on (P.gate port) R.gatePolicy && tagged
    let pre := s.preemptable port tc && (128 ≤ len || 0 < e.left)
    let fragEver := pre && (match maxw with | none => true | some w => decide (0 < s.fragLen port len (some (w * 65536))))
    let tooLong := fun (n : Nat) => gateOn && (match maxw with | none => false | some w => !fits n r guard (some (w * 65536)))
    if !fragEver && tooLong (if suppress then bare.length + 4 else len) then .oversize
    else if left = some 0 then .wait true
    else if fits len r guard left && !(suppress && tooLong len) then .go b tagged mtu false 0 cut
    else if suppress && fits (bare.length + 4) r guard left then .go bare false mtu true 0 cut
    else if fragEver && 0 < s.fragLen port len left then .go b tagged mtu false (s.fragLen port len left) cut
    else .wait true

/-- Take the head of TC tc off its queue. -/
def State.popHead (s : State) (port tc : Nat) : State := s.modPort port (fun e => { e with queues := e.queues.modify tc (·.drop 1) })

/-- Start the head of TC tc (R448): the frame is on the wire. -/
def State.startHead (s : State) (port tc : Nat) (e : EgrEnt) (bytes : Bytes) (tagged mtu fit : Bool) (frag : Nat) (cut : Bool) : State :=
  let pp := P.port port
  let n := if frag = 0 then bytes.length + 4 - e.left else frag + 4
  let start := s.time.base
  let cur : EgrCur := ⟨{ e with frame := bytes }, start, start + wire16 n (s.portRate port), (bytes.drop e.left).take (if frag = 0 then bytes.length else frag),
    frag, tc, cut⟩
  let s1 := (s.popHead port tc).modPort port (fun x => { x with cur := some cur })
  let s2 := s1.when tagged (fun t => t.countP pp R.tagInserted e.part)
  let s3 := s2.when mtu (fun t => t.countP pp R.tagSuppressedMtu e.part)
  let s4 := s3.when fit (fun t => t.countP pp R.tagSuppressedFit e.part)
  match e.pkt with
  | some k => match s4.pkt k with
    | some p => s4.when (cut && e.early && tagged) (fun t => t.countP (P.verdict p.die) R.verdictProvisional (recPart p.rec_))
    | none => s4
  | none => s4

/-- Serve TC tc: drop heads too long for it, count a head held, start one that may (fuel: heads that may be dropped).
The second part says whether a frame started. -/
def State.serveTc (s : State) (port tc : Nat) : Nat → State × Bool
  | 0 => (s, false)
  | n + 1 =>
    match s.eport port with
    | none => (s, false)
    | some ep =>
      match (ep.queues.getD tc []) with
      | [] => (s, false)
      | e :: rest =>
        match s.headFate port tc ep e (rest = []) with
        | .wait held =>
          if held && !e.counted then
            (((s.modPort port (fun x => { x with queues := x.queues.modify tc (fun q => { e with counted := true } :: q.drop 1) })).countP
              (P.port port) R.heldForWindow e.part).sentinel (P.port port) 5, false)
          else (s, false)
        | .oversize =>
          let s1 := (s.popHead port tc).countP (P.port port) R.oversizeForSchedule e.part
          (match e.pkt with | some k => s1.copyGone k | none => s1).serveTc port tc n
        | .go b tagged mtu fit frag cut => (s.startHead port tc e b tagged mtu fit frag cut, true)

/-- Serve the TCs of a list, highest first, until a frame starts (R448). -/
def State.serve (s : State) (port : Nat) : List Nat → State
  | [] => s
  | tc :: l =>
    let q := (((s.eport port).map (fun e => (e.queues.getD tc []).length)).getD 0)
    let r := s.serveTc port tc (q + 1)
    if r.2 then r.1 else r.1.serve port l

/-- A fragment has been sent: it goes out, and the rest of its frame waits at the head of its queue (R489, R490). -/
def State.endFragment (s : State) (port : Nat) (c : EgrCur) (n : Nat) : State :=
  let sent := c.bytes.take n
  let e1 := { c.ent with left := c.ent.left + n, counted := false }
  let s1 := s.modPort port (fun x => { x with cur := none, queues := x.queues.modify c.tc (e1 :: ·) })
  let s2 := { s1 with out := { s1.out with eth := (port, c.start / 65536, sent, true) :: s1.out.eth } }
  s2.countP (P.port port) R.preemptFragments c.ent.part

/-- The frame on the wire has ended: counted, sent, its copy gone (R455). -/
def State.endFrame (s0 : State) (port : Nat) : State :=
  let s := s0.stampCur port
  match (s.eport port).bind (·.cur) with
  | none => s
  | some c =>
    let pp := P.port port
    let bad := match c.ent.pkt with | some k => c.cut && ((s.pkt k).map (fun p => decide (p.tail = 2))).getD false | none => false
    let s1 := s.modPort port (fun x => { x with cur := none })
    let s2 := { s1 with out := { s1.out with eth := (port, c.start / 65536, c.bytes, !bad) :: s1.out.eth } }
    let s3 := (((s2.countP pp R.txFrames c.ent.part).countPN pp R.txBytes (c.ent.frame.length + 4) c.ent.part).sentinel pp 1).progress pp
    match c.ent.pkt with
    | some k => s3.copyGone k
    | none => s3

/-- What has ended on the port by now: a fragment, or a frame whose tail is known. -/
def State.settleTx (s : State) (port : Nat) : State :=
  match (s.eport port).bind (·.cur) with
  | none => s
  | some c =>
    if s.time.base < c.stop then s
    else if c.frag ≠ 0 then s.endFragment port c c.frag
    else
      let known : Bool := match c.ent.pkt with | some k => !c.cut || ((s.pkt k).map (fun p => decide (p.tail ≠ 0))).getD true | none => true
      if known then s.endFrame port else s

/-- Express heads preempt a preemptable frame in progress (R487): it ends as a fragment where 802.3br allows it, at
least the minimum fragment sent and 64 bytes left. -/
def State.expressPreempt (s : State) (port : Nat) : State :=
  match s.eport port with
  | none => s
  | some ep =>
    match ep.cur with
    | none => s
    | some c =>
      let r := s.portRate port
      let sent := (s.time.base - c.start) * r / (8 * 65536) - 8
      let total := c.ent.frame.length + 4 - c.ent.left
      let express := (List.range 8).any (fun tc => !s.preemptable port tc && (match ep.queues.getD tc [] with
        | [] => false
        | e :: rest => match s.headFate port tc ep e (rest = []) with | .go _ _ _ _ _ _ => true | _ => false))
      if s.preemptable port c.tc && !c.cut && express && 64 * (1 + s.rd (P.port port) R.portCfgAddFrag) ≤ sent + 4 && sent + 64 ≤ total &&
          0 < sent then s.endFragment port c sent else s

/-- EGRESS_START. -/
def egressStart (port : Nat) (s : State) : State :=
  if !s.portReady port || s.portRemote port || s.rst.stopped then s
  else
    let s1 := (s.settleTx port).expressPreempt port
    match (s1.eport port).bind (·.cur) with
    | some _ => s1
    | none => s1.serve port [7, 6, 5, 4, 3, 2, 1, 0]

/-- EGRESS_START. -/
def execEgressStart (port : Nat) (s : State) : Outcome State Fault Refusal := .next (egressStart port s)

/-- PREEMPT_FRAGMENT: the fragment on the wire ends at its gate close (R489). -/
def preemptFragment (port : Nat) (s : State) : State :=
  match (s.eport port).bind (·.cur) with
  | some c => if c.frag ≠ 0 && c.stop ≤ s.time.base then s.endFragment port c c.frag else s
  | none => s

/-- PREEMPT_FRAGMENT. -/
def execPreemptFragment (port : Nat) (s : State) : Outcome State Fault Refusal := .next (preemptFragment port s)

/-- PREEMPT_VERIFY: one verify attempt, or none with VERIFY_DIS (R485). -/
def preemptVerify (port : Nat) (ok : Bool) (s : State) : State :=
  let pp := P.port port
  if !s.portReady port || !s.on pp R.portCfgPreemptEn then s
  else match s.eport port with
    | none => s
    | some e =>
      if e.preempt || 3 ≤ e.verifyTries then s
      else if ok || s.on pp R.portCfgVerifyDis then
        (s.modPort port (fun x => { x with preempt := true })).wr pp R.portStatusPreemptActive 1
      else
        let s1 := s.modPort port (fun x => { x with verifyTries := x.verifyTries + 1 })
        if e.verifyTries + 1 = 3 then s1.cause pp 11 else s1

/-- PREEMPT_VERIFY. -/
def execPreemptVerify (port : Nat) (ok : Bool) (s : State) : Outcome State Fault Refusal := .next (preemptVerify port ok s)

/-- PAUSE_EXPIRY: pauses that have ended leave PORT_STATUS (R449, R450, R484). -/
def pauseExpiry (port : Nat) (s : State) : State :=
  match s.eport port with
  | none => s
  | some e =>
    let pp := P.port port
    let m := ((List.range 8).filter (fun i => s.ns < e.pfc.getD i 0)).foldl (fun a i => a + 2 ^ i) 0
    ((s.wr pp R.portStatusPaused (b2n (s.ns < e.paused))).wr pp R.portStatusPfcPaused m)

/-- PAUSE_EXPIRY. -/
def execPauseExpiry (port : Nat) (s : State) : Outcome State Fault Refusal := .next (pauseExpiry port s)

/-! ## Links (R445) -/

/-- PORT_LINK_UP: PCS and FEC lock on a port in training. -/
def portLinkUp (port : Nat) (s : State) : State :=
  let pp := P.port port
  if !s.portExists port || s.gated pp || s.rd pp R.pgStatusState ≠ 2 || s.rd pp R.portCfgSpeed = 0 || !s.on pp R.pgCtrlEnable ||
      !s.ready (P.serdes (port / 4)) then s
  else s.withPhase (fun t =>
    let t1 := (((t.wr pp R.portStatusLink 1).wr pp R.portStatusPcsLock 1).cause pp 8).enterRun pp 3
    let act := t1.on pp R.portCfgPreemptEn && t1.on pp R.portCfgVerifyDis
    (t1.modPort port (fun e => { e with preempt := act, verifyTries := 0 })).wr pp R.portStatusPreemptActive (b2n act))

/-- PORT_LINK_UP. -/
def execPortLinkUp (port : Nat) (s : State) : Outcome State Fault Refusal := .next (portLinkUp port s)

/-- Frames queued at and on the wire of a port are dropped, counted in TX_LINK_DROP. -/
def State.flushPort (s : State) (port : Nat) : State :=
  match s.eport port with
  | none => s
  | some ep =>
    let ents := (ep.cur.map (·.ent)).toList ++ ep.queues.flatten
    let s1 := s.modPort port (fun e => { e with cur := none, queues := e.queues.map (fun _ => []) })
    s1.each ents (fun t e =>
      let t1 := t.count (P.port port) R.txLinkDrop
      match e.pkt with | some k => t1.copyGone k | none => t1)

/-- PORT_LINK_DOWN. -/
def portLinkDown (port : Nat) (s : State) : State :=
  let pp := P.port port
  if !s.portExists port || !s.on pp R.portStatusLink then s
  else s.withPhase (fun t =>
    let t1 := ((((t.flushPort port).wr pp R.portStatusLink 0).wr pp R.portStatusPcsLock 0).wr pp R.portStatusPreemptActive 0).cause pp 9
    let t2 := (t1.modPort port (fun e => { e with preempt := false, verifyTries := 0, paused := 0, pfc := zeros8 })).sentinel pp 3
    (t2.setState pp 2).setReady pp false)
where
  /-- No TC paused. -/
  zeros8 : List Nat := List.replicate 8 0

/-- PORT_LINK_DOWN. -/
def execPortLinkDown (port : Nat) (s : State) : Outcome State Fault Refusal := .next (portLinkDown port s)

/-! ## PTP and PPS (R458 to R462, R469) -/

/-- PTP_CAPTURE: PTP time into the die's PTP_TIME registers. -/
def ptpCapture (die : Nat) (s : State) : State :=
  let p := P.ptp die
  if s.part.code.ioDies ≤ die || s.gated p then s
  else
    let v := s.ptp16.toNat
    ((s.wr p R.ptpTimeNs (v / 65536 % 1000000000)).wr p R.ptpTimeSec (v / 65536 / 1000000000)).wr p R.ptpTimeFrac (v % 65536)

/-- PTP_CAPTURE. -/
def execPtpCapture (die : Nat) (s : State) : Outcome State Fault Refusal := .next (ptpCapture die s)

/-- PTP_STEP: on die 0 alone (R461); ns is the s64 value written. -/
def ptpStep (die ns : Nat) (s : State) : State :=
  if die ≠ 0 || s.gated (P.ptp 0) then s else s.ptpRebase (toS 64 ns)

/-- PTP_STEP. -/
def execPtpStep (die ns : Nat) (s : State) : Outcome State Fault Refusal := .next (ptpStep die ns s)

/-- PTP_RATE_WRITE: the new rate holds from its commit edge (R460, R461). -/
def ptpRateWrite (die rate : Nat) (s : State) : State :=
  if die ≠ 0 || s.gated (P.ptp 0) then s else (s.ptpRebase 0).wr (P.ptp 0) R.ptpRate rate

/-- PTP_RATE_WRITE. -/
def execPtpRateWrite (die rate : Nat) (s : State) : Outcome State Fault Refusal := .next (ptpRateWrite die rate s)

/-- PPS_IN_EDGE: an active edge of PPS_IN. -/
def ppsInEdge (s : State) : State :=
  if !s.on (P.ptp 0) R.ptpPpsCtrlPpsInEn then s
  else
    let v := s.ptp16.toNat
    s.modPath (fun t => { t with ptp := { t.ptp with
      ppsIn := leBytes 4 (v / 65536 / 1000000000) ++ leBytes 4 (v / 65536 / 1000000000 / 2 ^ 32) ++ leBytes 4 (v / 65536 % 1000000000) ++ leBytes 4 (v % 65536) } })

/-- PPS_IN_EDGE. -/
def execPpsInEdge (s : State) : Outcome State Fault Refusal := .next (ppsInEdge s)

/-- PPS_OUT_EDGE: a PTP second boundary has passed since the last pulse. -/
def ppsOutEdge (s : State) : State :=
  let sec := (s.ptpNs / 1000000000).toNat
  if !s.on (P.ptp 0) R.ptpPpsCtrlPpsOutEn || sec ≤ s.path.ptp.ppsSec then s
  else
    let s1 := s.modPath (fun t => { t with ptp := { t.ptp with ppsSec := sec, ppsHighUntil := s.ns + s.rd (P.ptp 0) R.ptpPpsCtrlPpsOutWidth } })
    { s1 with pins := { s1.pins with ppsOut := true } }

/-- PPS_OUT_EDGE. -/
def execPpsOutEdge (s : State) : Outcome State Fault Refusal := .next (ppsOutEdge s)

end Sys2Proof.Machine
end

