-- ==== Sys2Proof/Machine/FabTime.lean ====
section
/-! DEFINITION. Machine/FabTime.lean: fabric time: the exchange with the parent, the servo, TIME_DEGRADED (16 R790 to
R794). -/

namespace Sys2Proof.Machine

open Host (Outcome)

/-- A member that follows a parent's time: WORKER, or QUARANTINE (log entry 61). -/
def State.follows (s : State) : Bool := s.role = 3 || s.role = 4

/-- TIME_REQ: every 16 µs, stamped at departure. -/
def timeReq (s : State) : State :=
  match s.parentPort with
  | none => s
  | some p =>
    if !s.follows || s.ns < s.fab.reqSent + 16000 then s
    else (s.modFab (fun f => { f with reqSent := s.ns })).fabQueue p (s.mkFrame 0xFF (.timeReq s.fab16))

/-- TIME_REQ. -/
def execTimeReq (s : State) : Outcome State Fault Refusal := .next (timeReq s)

/-- TIME_REQ_RECEIVE: the parent stamps arrival and departure of its RESP. -/
def execTimeReqReceive (port : Nat) (frame : MFrame) (s : State) : Outcome State Fault Refusal :=
  .next (s.fabRx port frame (fun t =>
    match frame.body with
    | .timeReq t1 => t.fabQueue port (t.mkFrame 0xFF (.timeResp t1 frame.arrival t.fab16))
    | _ => t))

/-- The parent's time minus the own, in 2^-16 ns (R790): halves and picoseconds are divided towards zero (log entry
20). -/
def timeOffset (t1 t2 t3 t4 asymPs : Int) : Int := Int.tdiv ((t2 - t1) - (t4 - t3)) 2 - Int.tdiv (asymPs * 65536) 1000

/-- The servo (R791): a step beyond 2000 ns, else a correction spread over the next 16 µs, 6400 CK4 edges. -/
def State.timeServo (s : State) (o : Int) : State :=
  if s.on P.fabTime R.ftCtrl then { s with time := { s.time with spread := 0, spreadEdges := 0 } }
  else if 2000 * 65536 < o.natAbs then
    (({ s with time := { s.time with corr := s.time.corr + o } }).modFab (fun f => { f with acc := 0 })).count P.fabTime R.ftSteps
  else
    let acc := clampI (s.fab.acc + o) (-(100000 * 65536)) (100000 * 65536)
    let corr := clampI (o / 4 + acc / 64) (-(1600 * 65536)) (1600 * 65536)
    ({ s with time := { s.time with spread := s.time.spread + corr, spreadEdges := 6400 } }).modFab (fun f => { f with acc := acc })

/-- The tolerance in 2^-16 ns. -/
def State.timeTol (s : State) : Nat := s.rd P.fab R.fabCfg1TimeTolNs * 65536

/-- One exchange towards TIME_DEGRADED and back (R792). -/
def State.judge (s : State) (o : Int) : State :=
  let l := (o :: s.fab.lastO).take 4
  let beyond := l.length = 4 && s.timeTol * 4 < sumN (l.map Int.natAbs)
  let good := if 2 * o.natAbs ≤ s.timeTol then s.fab.goodRun + 1 else 0
  let s1 := s.modFab (fun f => { f with lastO := l, badRun := if beyond then f.badRun + 1 else 0, goodRun := good, lastExch := s.ns })
  if s1.degraded && 16 ≤ good then s1.wr P.fabTime R.ftStatusTimeDegraded 0 else s1

/-- TIME_RESP: the exchange with the parent completes. -/
def State.exchanged (s : State) (p : Nat) (t1 t2 t3 t4 : Int) : State :=
  let o := timeOffset t1 t2 t3 t4 (toS 16 (s.rd (P.fport p) R.fpAsymPs))
  let delay := Int.tdiv ((t4 - t1) - (t3 - t2)) 2
  let s1 := ((s.wr P.fabTime R.ftOffset (ofS 32 (Int.tdiv o 65536))).wr P.fabTime R.ftDelay (delay / 65536).toNat).count P.fabTime R.ftExchanges
  ((s1.wr P.fabTime R.ftStatusSynced (b2n (o.natAbs ≤ s.timeTol))).timeServo o).judge o

/-- TIME_RESP. -/
def execTimeResp (port : Nat) (frame : MFrame) (s : State) : Outcome State Fault Refusal :=
  .next (s.fabRx port frame (fun t =>
    match frame.body with
    | .timeResp t1 t2 t3 => if t.follows && t.parentPort = some port then t.exchanged port t1 t2 t3 frame.arrival else t
    | _ => t))

/-- TIME_DEGRADED_ENTER: four exchanges running whose mean is out of tolerance, or none for 1 ms (R792). -/
def timeDegradedEnter (s : State) : State :=
  if s.follows && !s.degraded && (4 ≤ s.fab.badRun || s.fab.lastExch + 1000000 ≤ s.ns) then
    (s.wr P.fabTime R.ftStatusTimeDegraded 1).modFab (fun f => { f with goodRun := 0 })
  else s

/-- TIME_DEGRADED_ENTER. -/
def execTimeDegradedEnter (s : State) : Outcome State Fault Refusal := .next (timeDegradedEnter s)

end Sys2Proof.Machine
end

