-- ==== Sys2Proof/Machine/Fatal.lean ====
section
/-! DEFINITION. Machine/Fatal.lean: the fatal path, Landing and its host mirror (19 R956 to R975). -/

namespace Sys2Proof.Machine

open Host (Outcome)

/-- Copy n bytes of memory src from a to memory dst at b. -/
def Memory.copyTo (src : Memory) (a n : Nat) (dst : Memory) (b : Nat) : Memory :=
  (src.filter (fun c => a ≤ c.1 && c.1 < a + n)).foldl (fun m c => Memory.put m (b + (c.1 - a)) c.2) (dst.clear b (b + n))

/-- Sections in the order they are written: type, Landing offset, what they hold. R964's contents of the control
cores are free values (log entry 21). -/
def State.sections (s : State) (snap : Bytes) : List (Nat × Nat × Bytes) :=
  let cms := bitList (s.rd P.flt R.fltDumpCfgCm) 16
  [(1, 0x1000, ((List.range 128).map (fun k => padTo 64 ((aget s.flt.log k).getD []))).flatten),
   (2, 0x3000, s.pageImage P.fltAon),
   (3, 0x10000, snap),
   (7, 0x100000, (s.dumpPages.map s.pageImage).flatten),
   (4, 0x20000, padTo 65536 ((List.range 1024).map s.qcbBytes).flatten ++ s.pageImage P.fe ++ s.pageImage P.feSlot),
   (6, 0x80000, ((List.range 16).map s.seqSection).flatten),
   (5, 0x40000, s.drawnBytes (21 * 8192))] ++
  (if s.on P.flt R.fltDumpCfgTraceEn then
    [(8, 0x500000, (((s.obs.bufs.map (fun b => b.recs.flatten)).flatten) ++ s.traceRingTail).take (16 * 2 ^ 20))] else []) ++
  (if cms = [] then [] else
    [(9, 0x2000000, ((cms.take 14).map (fun n => Memory.read s.mem.cm (n * 2 ^ 24) (2 ^ 24))).flatten)])

/-- Section i of the header, by TYPE - 1. -/
def sectionEntry (typ status off size crc : Nat) : Bytes :=
  leBytes 2 typ ++ leBytes 1 status ++ leBytes 1 0 ++ leBytes 4 off ++ leBytes 4 size ++ leBytes 4 crc ++ zeros 16

/-- A written section: type, status, offset, size, CRC. -/
abbrev SecEnt := Nat × Nat × Nat × Nat × Nat

/-- The 4 KiB Landing header. -/
def State.landingHeader (s : State) (f : Fatal) (state : Nat) (mirrored : Bool) (secs : List SecEnt) : Bytes :=
  padTo 4096 (leBytes 4 0x31444E4C ++ leBytes 2 1 ++ leBytes 1 state ++
    leBytes 1 (b2n s.logFailed + 2 * b2n f.hwOnly + 4 * b2n mirrored + 8 * b2n s.degraded) ++
    leBytes 4 (s.rd P.fltAon R.aonDumpSeq) ++ leBytes 2 f.seconds ++ leBytes 2 0 ++ leBytes 8 f.ftime ++ leBytes 8 f.ck4 ++
    leBytes 4 s.part.code.devCode ++ leBytes 4 (s.rd P.dev R.devFwVersion) ++ leBytes 8 Config.serial ++
    leBytes 1 (s.rd P.fab R.fabStatusDeviceId) ++ leBytes 1 0 ++ leBytes 2 f.epoch ++ leBytes 1 f.gen ++ zeros 11 ++
    padTo 64 f.trigger ++
    ((List.range 9).map (fun i => match secs.find? (fun e => e.1 = i + 1) with
      | some (t, st, o, n, c) => sectionEntry t st o n c
      | none => zeros 32)).flatten)

/-- Write one section: its entry says COMPLETE, or FAILED where a line it read from is uncorrectable (R970). -/
def State.writeSection (s : State) (x : Nat × Nat × Bytes) : State × SecEnt :=
  if x.1 = 8 && s.traceRingPoisoned then (s, (8, 4, x.2.1, 0, 0))
  else (s.devWrite x.2.1 x.2.2, (x.1, 1, x.2.1, x.2.2.length, crc32c x.2.2))

/-- Write a list of sections in order. -/
def State.writeSections : State → List (Nat × Nat × Bytes) → State × List SecEnt
  | s, [] => (s, [])
  | s, x :: xs =>
    let r := s.writeSection x
    let q := State.writeSections r.1 xs
    (q.1, r.2 :: q.2)

/-- End of the last section written. -/
def secEnd (secs : List SecEnt) : Nat := secs.foldl (fun b e => max b (e.2.2.1 + e.2.2.2.1)) 0x1000

/-- The mirror may be written (R974). -/
def State.mirrorGo (s : State) : Bool := s.ready P.pcie && s.dmaOk 0 && s.rd P.flt R.fltMirrorCfgMib ≠ 0

/-- Copy Landing to the host mirror up to offset e, the header last (R972, R973). -/
def State.mirror (s : State) (e : Nat) : State :=
  let base := s.rd P.flt R.fltMirrorBase
  let size := s.rd P.flt R.fltMirrorCfgMib * 2 ^ 20
  let stop := min e size
  let body := Memory.copyTo s.mem.dev 0x1000 (stop - 0x1000) s.mem.host (base + 0x1000)
  let hd := s.devRead 0 4096
  let all := b2n (decide (e ≤ size))
  let hd1 := putAt hd 7 (leBytes 1 (fieldLE hd 7 1 ||| (4 * all)))
  let s1 := ({ s with mem := { s.mem with host := body } }).hostWrite base hd1
  let s2 := (s1.countN P.dma R.dmaWrBytes stop).wr P.fltAon R.aonLandingMirrored all
  ((s2.wr P.flt R.fltMirrorStatusDone 1).wr P.flt R.fltMirrorCmd 0).cause P.flt 9

/-- Offset after the last section that the Landing header names. -/
def State.landingEnd (s : State) : Nat :=
  secEnd ((List.range 9).map (fun i => let e := s.devRead (128 + 32 * i) 16; (i + 1, 0, fieldLE e 4 4, fieldLE e 8 4, 0)))

/-- R975: a copy on command; while the host side may not move it waits. -/
def mirrorCopy (s : State) : State :=
  if s.on P.flt R.fltMirrorCmd then s.perr P.flt 0x0102
  else if s.mirrorGo then s.mirror s.landingEnd
  else s.wr P.flt R.fltMirrorCmd 1

/-- MIRROR_COPY. -/
def execMirrorCopy (s : State) : Outcome State Fault Refusal := .next (mirrorCopy s)

/-- A waiting copy goes once it may. -/
def State.mirrorResume (s : State) : State :=
  if s.on P.flt R.fltMirrorCmd && s.mirrorGo then s.mirror s.landingEnd else s

/-- Step 7, or the end of THERMTRIP's path (R959). -/
def State.fatalEnd (s : State) (f : Fatal) : State :=
  if f.code = 0x22 then { s with flt := { s.flt with fatal := some { f with done := true } } }
  else ({ s with flt := { s.flt with fatal := none } }).requestWarm f.warmCause

/-- The snapshot of step 2, ending a Cruise in progress (R980). -/
def State.fatalSnapshot (s : State) : State × Bytes :=
  let s1 := s.endCruise
  (s1, s1.snapshot true)

/-- Steps 4 to 6: header WRITING, sections, header, mirror. n limits how many sections were begun (R957). -/
def State.dump (s : State) (f : Fatal) (snap : Bytes) (limit : Option Nat) : State :=
  let s0 := (s.wr P.fltAon R.aonDumpSeq (s.rd P.fltAon R.aonDumpSeq + 1)).wr P.fltAon R.aonLandingPending 1
  let s1 := (s0.devWrite 0 (s0.landingHeader f 1 false [])).wr P.fltAon R.aonLandingState 1
  let all := s1.sections snap
  let mine := if f.hwOnly then all.take 4 else all
  match limit with
  | none =>
    let r := s1.writeSections mine
    if f.hwOnly then r.1.devWrite 0 (r.1.landingHeader f 1 false r.2)
    else
      let cm14 := (bitList (s.rd P.flt R.fltDumpCfgCm) 16).length ≤ 14
      let st := if r.2.all (fun e => e.2.1 = 1) && cm14 then 2 else 3
      let s2 := (r.1.devWrite 0 (r.1.landingHeader f st false r.2)).wr P.fltAon R.aonLandingState st
      let e := secEnd r.2
      if s2.on P.flt R.fltMirrorCfgOnFatal && s2.mirrorGo then s2.mirror e else s2
  | some n =>
    let k := s1.drawn (n + 1)
    let r := s1.draw.writeSections (mine.take k)
    let part := match mine[k]? with
      | some x =>
        let m := (r.1.drawn (x.2.2.length + 1))
        some (x, x.2.2.take m)
      | none => none
    let s2 := match part with | some (x, bs) => r.1.draw.devWrite x.2.1 bs | none => r.1
    let e2 := r.2 ++ (match part with | some (x, bs) => [(x.1, 2, x.2.1, bs.length, crc32c bs)] | none => []) ++
      (mine.drop (k + 1)).map (fun x => (x.1, 3, x.2.1, 0, 0))
    (s2.devWrite 0 (s2.landingHeader f 3 false e2)).wr P.fltAon R.aonLandingState 3

/-- The path from step 2 on: R961 and R962 say when no dump is written. -/
def State.fatalRun (s : State) (limit : Option Nat) : State :=
  match s.flt.fatal with
  | none => s
  | some f =>
    if f.done then s
    else
      let c := s.fatalSnapshot
      if !c.1.ready (P.hbm 0) then (c.1.wr P.fltAon R.aonLandingState 4).fatalEnd f
      else if c.1.on P.fltAon R.aonLandingKeepFirst && c.1.on P.fltAon R.aonLandingPending then
        (c.1.devWrite 14 (leBytes 2 (satN 16 (fieldLE (c.1.devRead 14 2) 0 2 + 1)))).fatalEnd f
      else (c.1.dump f c.2 limit).fatalEnd f

/-- Deadline of the dump in device ns (R957). -/
def State.dumpDeadline (s : State) (f : Fatal) : Nat := f.detect + s.rd P.flt R.fltDumpBudget * 1000000

/-- R956 to R963: the dump ends within its budget. -/
def fatalPath (s : State) : State :=
  match s.flt.fatal with
  | none => s
  | some f => if s.ns ≤ s.dumpDeadline f then s.fatalRun none else s

/-- FATAL_PATH. -/
def execFatalPath (s : State) : Outcome State Fault Refusal := .next (fatalPath s)

/-- R957: at the budget's end a free number of sections is complete and one is in progress. -/
def dumpBudgetExpiry (s : State) : State :=
  match s.flt.fatal with
  | none => s
  | some f => if s.dumpDeadline f ≤ s.ns then s.fatalRun (some 8) else s

/-- DUMP_BUDGET_EXPIRY. -/
def execDumpBudgetExpiry (s : State) : Outcome State Fault Refusal := .next (dumpBudgetExpiry s)

end Sys2Proof.Machine
end

