-- ==== Sys2Proof/Machine/Tally.lean ====
section
/-! DEFINITION. Machine/Tally.lean: tally latches and records (18 R881 to R891). -/

namespace Sys2Proof.Machine

open Host (Outcome)

/-- The block of one page (R890): its counters as they stand, retained values while gated. -/
def State.pageBlock (s : State) (p : Nat) : PageBlock := ⟨p, s.gated p, s.frozen && s.on p R.pgTallyCtrlFreezeEn, s.counterEntries p⟩

/-- Present, powered pages with LATCH_EN, ascending. -/
def State.latchPages (s : State) : List Nat := s.dumpPages.filter (fun p => s.on p R.pgTallyCtrlLatchEn)

/-- A latch edge (R882, R886 to R888). -/
def State.latch (s : State) (early : Bool) : State :=
  if 2 ≤ s.obs.latches.length then { s with obs := { s.obs with skipped := s.obs.skipped + 1 } }
  else
    let pages := s.latchPages
    let seq := (s.rd P.obs R.obsTallySeq + 1) % 2 ^ 64
    let l : Latch := ⟨seq, 0, s.fns, s.time.ck4, s.rd P.obs R.obsTallyPeriod, satN 16 s.obs.skipped, s.frozen, s.degraded, early,
      pages.map s.pageBlock, s.obs.ops, s.obs.bins⟩
    let s1 := (s.wr P.obs R.obsTallySeq seq).each pages (fun t p => t.wr p R.pgTallyCtrlLatchSeq seq)
    ({ s1 with obs := { s1.obs with latches := s1.obs.latches ++ [l], skipped := 0 } }).sentinel P.obs 0

/-- TALLY_NOW: R886. -/
def execTallyNow (s : State) : Outcome State Fault Refusal := .next (s.latch true)

/-- R882: at a boundary. -/
def tallyLatch (s : State) : State :=
  if s.fns < s.obs.nextTally then s
  else
    let s1 := s.latch false
    { s1 with obs := { s1.obs with nextTally := s.nextBoundary (s.rd P.obs R.obsTallyPeriod) } }

/-- TALLY_LATCH. -/
def execTallyLatch (s : State) : Outcome State Fault Refusal := .next (tallyLatch s)

/-- A page block's bytes. -/
def PageBlock.bytes (b : PageBlock) : Bytes :=
  leBytes 4 b.page ++ leBytes 2 b.ents.length ++ leBytes 1 (b2n b.gated + 2 * b2n b.frozen) ++ leBytes 1 0 ++
  (b.ents.map (fun e => leBytes 4 (e.1 % 4096) ++ leBytes 4 e.2)).flatten

/-- The OPS section (R894): partition, class, format order. -/
def opsBytes (ops : List (Nat × Nat × Nat)) : Bytes :=
  ((List.range 2048).map (fun k => match aget ops k with
    | some (a, b) => leBytes 8 a ++ leBytes 8 b
    | none => zeros 16)).flatten

/-- The HIST section. -/
def State.histBytes (s : State) (bins : List (Nat × Nat)) : Bytes :=
  ((List.range 16).map (fun h => leBytes 2 (s.rd P.obs (R.histCfgKind h)) ++ leBytes 2 (s.rd P.obs (R.histCfgIndex h)) ++ zeros 4 ++
    ((List.range 16).map (fun b => leBytes 8 ((aget bins (16 * h + b)).getD 0))).flatten)).flatten

/-- A tally record (R889). -/
def State.tallyRecord (s : State) (l : Latch) : Bytes :=
  let blocks := (l.blocks.map PageBlock.bytes).flatten
  let ops := opsBytes l.ops
  let hist := s.histBytes l.bins
  let o := 64 + blocks.length
  let h := o + ops.length
  leBytes 4 0x31594C54 ++ leBytes 2 1 ++ leBytes 1 (b2n l.frozen + 2 * b2n l.degraded + 4 * b2n l.early) ++ leBytes 1 0 ++
  leBytes 8 l.seq ++ leBytes 8 s.obs.ftPrev ++ leBytes 8 l.ft ++ leBytes 8 l.ck4 ++ leBytes 4 l.period ++
  leBytes 4 (h + hist.length) ++ leBytes 2 l.blocks.length ++ leBytes 2 l.skipped ++ leBytes 1 (s.rd P.fab R.fabStatusDeviceId) ++
  leBytes 1 s.gen ++ leBytes 2 s.epoch ++ leBytes 4 o ++ leBytes 4 h ++ blocks ++ ops ++ hist

/-- R884, R891: the oldest latch goes to the ring 2 µs after its edge. -/
def tallyRecordWrite (s : State) : State :=
  match s.obs.latches with
  | [] => s
  | l :: rest =>
    let drop := { s with obs := { s.obs with latches := rest } }
    let base := s.rd P.obs R.tallyBase
    let slots := 2 ^ s.rd P.obs R.tallyCfgLog2
    let w := s.rd P.obs R.tallyWr
    if s.fns < l.ft + 2000 then s
    else if !s.on P.obs R.tallyCfgEnable then drop
    else if !s.on P.obs R.tallyCfgWrap && (w + 1) % slots = s.rd P.obs R.tallyRd % slots then drop.count P.obs R.tallyLost
    else if !s.ringGo base then s.count P.dma R.dmaBmeWait
    else
      let bs := s.tallyRecord l
      let s1 := ((drop.refilled.ringWrite base (w % slots * 2 ^ 18) bs).wr P.obs R.tallyWr ((w + 1) % slots)).wr P.obs R.tallyBytes bs.length
      (({ s1 with obs := { s1.obs with ftPrev := l.ft } }).payTrace bs.length).cause P.obs 9

/-- TALLY_RECORD_WRITE. -/
def execTallyRecordWrite (s : State) : Outcome State Fault Refusal := .next (tallyRecordWrite s)

end Sys2Proof.Machine
end

