-- ==== Sys2Proof/Machine/Reset.lean ====
section
/-! DEFINITION. Machine/Reset.lean: power, PERST, warm and partition resets, blocks that come up and go down, ENABLE,
soft reset (06 R270 to R275; 08; 20 R995 to R1014). -/

namespace Sys2Proof.Machine

open Host (Outcome)

/-! ## What a reset keeps (R368) -/

/-- Fields of the new state that keep their value of the old one. -/
def State.keeping (new old : State) (l : List (Nat × Fld)) : State := new.each l (fun t x => t.wr x.1 x.2 (old.rd x.1 x.2))

/-- CLK_STATE, DESKEW_STAT, REF_OK (07 R350). -/
def clkKept : List (Nat × Fld) :=
  ([R.clkStateState, R.clkStateRefSrc, R.clkStateRefOk, R.clkStateSwallowLevel] ++
    (List.range 5).flatMap (fun i => [R.deskewStatTap i, R.deskewStatLock i, R.deskewStatErr i])).map (fun f => (P.clk, f))

/-- RST_CAUSE, RST_COUNTS, RST_ORDER, RST_WB_LOST; the always-on island; PWM duty (R360). -/
def perstKept (c : Code) : List (Nat × Fld) :=
  clkKept ++ [R.rstCause, R.rstCountsWarm, R.rstCountsPerst, R.rstOrder, R.rstWbLost].map (fun f => (P.rst, f)) ++
  (pageFlds c .fltAon).map (fun f => (P.fltAon, f)) ++ (List.range 4).map (fun o => (P.plant, R.pwmDutyOut o))

/-- Also the PCIe link, the count of boot failures, the flows each partition holds. -/
def warmKept (c : Code) : List (Nat × Fld) :=
  perstKept c ++ [R.pcieLinkSpeed, R.pcieLinkWidth, R.pcieLinkLtssm].map (fun f => (P.pcie, f)) ++ [(P.trust, R.trustBootFail)] ++
  (List.range 16).map (fun p => (P.flow 0, R.flowPartCount p))

/-- A cold reset: everything but the fuses, the flash, what lies outside the device and what is driven into it. -/
def State.coldReset (s : State) (straps : Straps) : State :=
  let z := State.init { s.part with straps := straps }
  { z with
    pending := s.pending
    free := s.free
    out := s.out
    mem := { z.mem with host := s.mem.host }
    pins := { z.pins with pwrGood := s.pins.pwrGood, perst := s.pins.perst, refclk := s.pins.refclk, freezeIn := s.pins.freezeIn, ppsIn := s.pins.ppsIn }
    trust := { z.trust with descs := s.trust.descs, banks := s.trust.banks } }

/-- What every reset but the cold one leaves: clocks, time, the always-on island, the fault log. -/
def State.runningReset (s : State) (kept : List (Nat × Fld)) : State :=
  let c := s.coldReset s.part.straps
  let z := { c with
    time := ⟨s.time.ck4, s.time.base, 0, 0, 0⟩
    clk := s.clk
    pins := { s.pins with ppsOut := false }
    flt := { c.flt with seq := s.flt.seq, log := s.flt.log, wdtServiced := s.ns }
    rst := { c.rst with stopped := s.pins.thermtrip }
    obs := { c.obs with nextTally := (s.time.base / 65536 / 1000000000 + 1) * 1000000000, tokensAt := s.ns }
    tab := { c.tab with ageAt := s.ns, skidAt := s.ns }
    path := { c.path with anchorAt := s.ns } }
  z.keeping s kept

/-! ## Frames on the wire (R357) -/

/-- Each frame on the wire of a network port ends here with a wrong FCS. -/
def State.endFrames (s : State) : State :=
  s.each (List.range 16) (fun t p => match (t.eport p).bind (·.cur) with
    | none => t
    | some c =>
      let sent := c.bytes.take ((t.time.base - c.start) * t.portRate p / (8 * 65536) - 8)
      { (t.modPort p (fun e => { e with cur := none })) with
        out := { t.out with eth := (p, c.start / 65536, sent, false) :: t.out.eth } })

/-! ## Power good and PERST -/

/-- The straps as POWER_GOOD_RISE gives them: BOOT_ORDER [0], PLANT_DRIVE [1], SPI_QUAD [2], MGMT_SMB [3], MGMT_ADDR [5:4],
TEST_MODE [6]. -/
def strapsOf (v : Nat) : Straps := ⟨v.testBit 0, v.testBit 1, v.testBit 2, v.testBit 3, bits v 4 2, v.testBit 6⟩

/-- R351, R995, R1013: the cold reset; outputs keep their state until a block changes them (R998). -/
def powerGoodRise (straps : Nat) (s : State) : State :=
  if s.pins.pwrGood then s
  else
    let z := s.coldReset (strapsOf straps)
    { z with pins := { z.pins with pwrGood := true, lowState := true } }

/-- POWER_GOOD_RISE. -/
def execPowerGoodRise (straps : Nat) (s : State) : Outcome State Fault Refusal := .next (powerGoodRise straps s)

/-- R996: the whole device in reset, every output in its state of Signal groups. -/
def powerGoodFall (s : State) : State :=
  if !s.pins.pwrGood then s
  else
    let z := s.coldReset s.part.straps
    { z with pins := { z.pins with pwrGood := false, lowState := true }, rst := { z.rst with held := true } }

/-- POWER_GOOD_FALL. -/
def execPowerGoodFall (s : State) : Outcome State Fault Refusal := .next (powerGoodFall s)

/-- A reset cause is recorded, its count saturating. -/
def State.resetCause (s : State) (cause : Nat) (f : Fld) : State := (s.countSat P.rst f).wr P.rst R.rstCause cause

/-- R353, R357: the blocks in PERST's scope are held in reset. With power not good the pin alone changes (R1000). -/
def perstAssert (s : State) : State :=
  if s.pins.perst then s
  else
    let s0 := { s with pins := { s.pins with perst := true } }
    if !s.pins.pwrGood then s0
    else
      let z := (s0.endFrames.runningReset (perstKept s.part.code)).resetCause 1 R.rstCountsPerst
      { z with rst := { z.rst with held := true } }

/-- PERST_ASSERT. -/
def execPerstAssert (s : State) : Outcome State Fault Refusal := .next (perstAssert s)

/-- R353, R354: bring-up starts, HBM zeroed; EXTEST, CLAMP and HIGHZ act no more (20 R1011). -/
def perstDeassert (s : State) : State :=
  if !s.pins.perst then s
  else
    let s0 := { s with pins := { s.pins with perst := false, jtag := if 3 ≤ s.pins.jtag then 0 else s.pins.jtag } }
    if !s.pins.pwrGood then s0
    else { s0 with
      rst := { s0.rst with held := false }
      mem := { s0.mem with dev := [], poison := [], cm := [], core := [], forest := [] } }

/-- PERST_DEASSERT. -/
def execPerstDeassert (s : State) : Outcome State Fault Refusal := .next (perstDeassert s)

/-! ## Warm reset (R355 to R360) -/

/-- RST_CMD_WARM: R355, a write to RST_CMD from the physical function. -/
def rstCmdWarm (data : Nat) (s : State) : State :=
  if !s.pins.pwrGood || s.pins.perst then s
  else if data % 256 = 0xA5 && data.testBit 8 then s.requestWarm 2 else s.illegal P.rst

/-- RST_CMD_WARM. -/
def execRstCmdWarm (data : Nat) (s : State) : Outcome State Fault Refusal := .next (rstCmdWarm data s)

/-- Dirty lines of the flow caches: die, entry. -/
def State.dirtyLines (s : State) : List (Nat × Nat) :=
  (List.range 4).flatMap (fun d => (((s.tab.caches[d]?).getD []).filter (fun (x : Nat × FlowLine) => x.2.dirty)).map (fun x => (d, x.1)))

/-- Every dirty line whose stack is READY is written back (R356). -/
def State.writeAllBack (s : State) : State :=
  s.each s.dirtyLines (fun t x => if t.stacksReady (t.flowAddr x.2) 128 then t.writeBack x.1 x.2 else t)

/-- A line leaves its cache unwritten; the entry in HBM stands again, CACHED clear. -/
def State.loseLine (s : State) (d idx : Nat) : State :=
  match s.lineOf d idx with
  | none => s
  | some l =>
    let was := ctxValid l.ctx
    let old := s.devRead (s.flowAddr idx) 128
    let s1 := if was then s.addFlow (ctxPart l.ctx) (-1) else s
    let s2 := if ctxValid old then s1.addFlow (ctxPart old) 1 else s1
    ((s2.modCache d (fun m => amod m idx (fun x => { x with dirty := false }))).devWrite (s.flowAddr idx + 102)
      (leBytes 1 (putBits (byteAt old 102) 2 1 0)))

/-- Every line leaves its cache clean. -/
def State.emptyCaches (s : State) : State :=
  s.each ((List.range 4).flatMap (fun d => ((s.tab.caches[d]?).getD []).map (fun x => (d, x.1)))) (fun t x => t.dropLine x.1 x.2)

/-- The dies are reset, HBM in self-refresh (R356): what the Warm column keeps is kept; RESTORE is due. -/
def State.warmDies (s : State) (cause : Nat) : State :=
  let z := (s.endFrames.emptyCaches)
  let t := (z.runningReset (warmKept s.part.code)).resetCause cause R.rstCountsWarm
  { t with
    mem := { t.mem with dev := z.mem.dev, poison := z.mem.poison }
    host := { s.host with dueGroups := [], shadows := [] }
    trust := { t.trust with records := s.trust.records }
    nse := { t.nse with channels := s.nse.channels, shards := s.nse.shards.map (fun h => { h with check := true, leaving := none }) }
    rst := { t.rst with held := true, restoring := true } }

/-- WARM_RESET: R356. A dirty line whose stack is not READY waits for the time limit of R358. -/
def warmReset (s : State) : State :=
  match s.rst.warm with
  | none => s
  | some cause =>
    let s1 := s.writeAllBack
    if s1.dirtyLines = [] then (s1.wr P.rst R.rstWbLost 0).warmDies cause else s1

/-- WARM_RESET. -/
def execWarmReset (s : State) : Outcome State Fault Refusal := .next (warmReset s)

/-- FLOW_WRITEBACK_TIMEOUT: 4 ms have passed; the lines still dirty are lost (R358). -/
def flowWritebackTimeout (s : State) : State :=
  match s.rst.warm with
  | none => s
  | some cause =>
    if s.ns < s.rst.warmAt + 4000000 then s
    else
      let l := s.dirtyLines
      ((s.each l (fun t x => t.loseLine x.1 x.2)).wr P.rst R.rstWbLost l.length).warmDies cause

/-- FLOW_WRITEBACK_TIMEOUT. -/
def execFlowWritebackTimeout (s : State) : Outcome State Fault Refusal := .next (flowWritebackTimeout s)

/-! ## Blocks come up and go down (R376 to R380) -/

/-- What page p requires. -/
def requiresOf (p : Nat) : List Nat := ((bringOrder.find? (fun x => x.1 = p)).map (·.2)).getD []

/-- Core k of cluster n can set READY as soon as its cluster does. -/
def State.coreMay (s : State) (n k : Nat) : Bool :=
  let p := P.core n k
  s.pagePresent p && !s.gated p && !s.on p R.pgStatusFault && s.rd p R.pgStatusState ≠ 4 && s.on p R.pgCtrlEnable

/-- Page p is a cluster no core of which could set READY with it (R125). -/
def State.coreless (s : State) (p : Nat) : Bool :=
  match pageAt (p / 0x1000) with
  | some i => i.kind = .cl && (List.range 8).all (fun k => !s.coreMay i.inst k)
  | none => false

/-- Page p's block has initialised, as far as other state of the machine shows it. -/
def State.initialised (s : State) (p : Nat) : Bool :=
  if p = P.clk then 2 ≤ s.clkState && (List.range 5).all (fun i => !s.receives i || s.on P.clk (R.deskewStatLock i))
  else if p = P.hk then s.trust.stage1.isSome && !s.flt.hkStopped
  else if p = P.trust then s.trust.booted.isSome
  else !s.coreless p

/-- The page is of a network or fabric port, which its link brings up. -/
def isLink (p : Nat) : Bool :=
  match pageAt (p / 0x1000) with
  | some i => i.kind = .port || i.kind = .fport
  | none => false

/-- What a block does as it comes up beside READY. -/
def State.upEffects (s : State) (p : Nat) : State :=
  match pageAt (p / 0x1000) with
  | none => s
  | some i => match i.kind with
    | .trust =>
      let b := s.flashBank (s.trust.booted.getD 0)
      (s.wr P.dev R.devFwVersion b.version).wr P.dev R.devFwClass b.cls
    | .pwr => s.railsNominal
    | .pcie => (((s.wr p R.pcieLinkSpeed 5).wr p R.pcieLinkWidth 16).wr p R.pcieLinkLtssm (s.drawn 64)).draw
    | .ptp =>
      if i.inst = 0 then
        { s with path := { s.path with ptp := { s.path.ptp with val := (s.time.base : Int) * 2 ^ 40, at_ := s.ptpSource } } }
      else s
    | .core => s.settleCores (i.inst / 8)
    | .cl =>
      -- R125 and R376 require a cluster and a core of each other: they set READY together (log entry 64)
      if s.ready p then
        (s.each (List.range 8) (fun t k =>
          if t.coreMay i.inst k then (t.wr (P.core i.inst k) R.pgCtrlSoftReset 0).enterRun (P.core i.inst k) 3 else t)).settleCores i.inst
      else s
    | .station => s.modTab (fun t => { t with station := t.station.set i.inst ((t.station[0]?).getD []) })
    | _ => s

/-- The block of page p is usable: READY in RUNNING, or CACHE_ONLY (R376, R378), or DISABLED while ENABLE is 0. -/
def State.comeUp (s : State) (p : Nat) : State :=
  let s1 := (s.wr p R.pgCtrlSoftReset 0).setDegraded p (isFlow p && !s.flowStacksReady)
  let s2 := (s1.enterRun p (if isFlow p && !s.flowStacksReady then 0x80 else 3)).upEffects p
  (({ s2 with pins := { s2.pins with lowState := false } }).startTraining)

/-- The block may come up now. -/
def State.mayComeUp (s : State) (p : Nat) : Bool :=
  s.pins.pwrGood && (!s.pins.perst || p = P.clk) && !s.part.straps.testMode && s.pagePresent p && !s.gated p && !s.on p R.pgStatusFault &&
  !s.ready p && s.rd p R.pgStatusState ≠ 4 && !isLink p && s.requirementsMet p (requiresOf p) && s.initialised p

/-- R376. -/
def blockReady (page : Nat) (s : State) : State :=
  let p := page / 0x1000 * 0x1000
  if s.mayComeUp p then s.withPhase (fun t => t.comeUp p) else s

/-- BLOCK_READY. -/
def execBlockReady (page : Nat) (s : State) : Outcome State Fault Refusal := .next (blockReady page s)

/-- R377; HBM stack 0 lost after it was READY is a fatal error (19 R938). -/
def blockNotReady (page : Nat) (s : State) : State :=
  let p := page / 0x1000 * 0x1000
  match pageAt (p / 0x1000) with
  | none => s
  | some i =>
    if !s.ready p then s
    else match i.kind with
      | .port => portLinkDown i.inst s
      | .fport => s.fpLeave i.inst 0
      | .core => s.withPhase (fun t => (t.leaveReady p).settleCores (i.inst / 8))
      | .hbm =>
        let s1 := s.withPhase (fun t => t.leaveReady p)
        if i.inst = 0 then s1.raise (plainErr 0x0027 p 0 0 0 0) else s1
      | _ => s.withPhase (fun t => t.leaveReady p)

/-- BLOCK_NOT_READY. -/
def execBlockNotReady (page : Nat) (s : State) : Outcome State Fault Refusal := .next (blockNotReady page s)

/-- R379: FLOW of a die whose stacks are READY again runs on HBM; duplicates merge once no die is left in CACHE_ONLY (12
R583). -/
def cacheOnlyEnd (die : Nat) (s : State) : State :=
  let p := P.flow die
  if s.part.code.ioDies ≤ die || s.rd p R.pgStatusState ≠ 0x80 || !s.flowStacksReady then s
  else
    let s1 := (s.setState p 3).setDegraded p false
    if s1.flowSplit then s1 else s1.mergeCaches

/-- CACHE_ONLY_END. -/
def execCacheOnlyEnd (die : Nat) (s : State) : Outcome State Fault Refusal := .next (cacheOnlyEnd die s)

/-! ## ENABLE and soft reset (06 R271 to R275) -/

/-- A write reaches page p: it is there and clocked (06 R282), the device out of reset. -/
def State.reaches (s : State) (p : Nat) : Bool := s.pins.pwrGood && !s.pins.perst && !s.gated p

/-- R271. -/
def pgCtrlEnableClear (page : Nat) (s : State) : State :=
  let p := page / 0x1000 * 0x1000
  if !s.reaches p then s else (s.wr p R.pgCtrlEnable 0).withPhase (fun t => t.disableIdle p)

/-- PG_CTRL_ENABLE_CLEAR. -/
def execPgCtrlEnableClear (page : Nat) (s : State) : Outcome State Fault Refusal := .next (pgCtrlEnableClear page s)

/-- R272: a DISABLED block runs again where what it requires is READY, else it returns to INIT; a port trains. -/
def pgCtrlEnableSet (page : Nat) (s : State) : State :=
  let p := page / 0x1000 * 0x1000
  if !s.reaches p then s
  else
    let s1 := s.wr p R.pgCtrlEnable 1
    if s1.rd p R.pgStatusState ≠ 4 then s1
    else s1.withPhase (fun t =>
      let t1 := t.setState p 1
      if t1.mayComeUp p then t1.comeUp p else t1.startTraining)

/-- PG_CTRL_ENABLE_SET. -/
def execPgCtrlEnableSet (page : Nat) (s : State) : Outcome State Fault Refusal := .next (pgCtrlEnableSet page s)

/-! ## Partition reset (R363 to R367) -/

/-- Cluster memory that the tensors of a run occupy is zero (03 R123). -/
def State.zeroRun (s : State) (v : Inv) : State :=
  let a := s.invBase v
  s.each (v.tensors.flatMap (fun b => v.clusters.map (fun c => tensOf v.tensors v.part c (s.imgConstAt a) (s.imgScratchAt a 0) b)))
    (fun t (x : Tens) => match x.sp with
      | .cm c => { t with mem := { t.mem with cm := x.rows.foldl (fun m r => Memory.clear m (c * 2 ^ 24 + r) (c * 2 ^ 24 + r + x.rowBytes)) t.mem.cm } }
      | _ => t)

/-- The run of a task as it stands between items. -/
def State.taskRun (s : State) (iq : Nat) (t : Task) : Option Inv :=
  (s.servingBank t.mslot s.epoch).map (fun b =>
    s.buildRun ⟨t.queue, t.index, t.slot, t.part, t.mslot, b, s.epoch, t.entryPt, iq, none, s.clustersFor t.part t.mask⟩ [])

/-- An item that waited is discarded: its held packet is released under R23, its epoch drains (R365). -/
def State.discardItem (s : State) (it : Item) : State :=
  (match it.pkt with | some k => s.noVerdict k | none => s).itemGone it

/-- A stopped task takes no item any more; those that wait are discarded. -/
def State.stopTask (s : State) (iq : Nat) (t : Task) : State :=
  let s1 := match s.taskRun iq t with | some v => s.zeroRun v | none => s
  let its := ((aget s1.fe.iqs iq).map (·.items)).getD []
  let s2 := { s1 with fe := { s1.fe with
    iqs := amod s1.fe.iqs iq (fun q => { q with items := [] })
    tasks := amod s1.fe.tasks iq (fun x => { x with stopping := 2, left := 0, stopBy := none }) } }
  (s2.each its State.discardItem).settleTask iq

/-- An invocation ends with nothing written to its queue. -/
def State.endInv (s : State) (n : Nat) (v : Inv) : State :=
  let its := ((match v.item with | some i => [i] | none => []) ++ v.extra)
  let s1 := s.each (its.filter (fun i => !v.verdicts.contains i.id)) (fun t i => match i.pkt with | some k => t.noVerdict k | none => t)
  let s2 := (s1.zeroRun v).dropInv n v
  ((({ s2 with obs := { s2.obs with tapDue := s2.obs.tapDue.filter (fun x => x.inv ≠ n) } }).dropItems v).settleTask v.iq).settleReset v.slot

/-- A run of the partition stops: at once, or at the end of the steps under way. -/
def State.haltInv (s : State) (x : Nat × Inv) : State :=
  if x.2.running then s.modInv x.1 (fun v => { v with waiting := false, fail := v.fail.or (some (St.slotReset, 0)) }) else s.endInv x.1 x.2

/-- The partition's queues are gone, entries in flight with no completion entry; queue 0 goes with partition 0 and is
disabled (R367). -/
def State.dropQueues (s : State) (p : Nat) : State :=
  let s0 := if p = 0 then
      let t := match s.fe.slots.findIdx? (fun x => x.queue = some 0) with | some k => s.unmap k | none => s
      { (t.wr P.fe R.feKqCtrlEnable 0) with fe := { t.fe with
          queues := adel t.fe.queues 0, cache := t.fe.cache.filter (· ≠ 0), asyncs := t.fe.asyncs.filter (fun a => a.1 ≠ 0) } }
    else s
  s0.each ((s0.fe.queues.filter (fun (x : Nat × Queue) => x.2.qcb.part = p)).map (·.1)) State.endQueue

/-- Commands of queue 0 that run on after partition 0's reset have no entry any more (R369, R372, R374); a flush stops. -/
def State.orphan0 (s : State) : State :=
  { s with
    tab := { s.tab with flush := [] }
    mods := { s.mods with commitBy := none }
    fab := { s.fab with quad := s.fab.quad.map (fun q => { q with entry := none }) }
    flt := { s.flt with cruise := s.flt.cruise.map (fun c => { c with entry := none }) }
    nse := { s.nse with shards := s.nse.shards.map (fun h => { h with leaving := none }) } }

/-- Stages of the partition (05 R258): one that waits to begin is rejected with PARTITION_RESET; a STAGED bank that no
fabric commit holds goes. -/
def State.dropStages (s : State) (p : Nat) : State :=
  let es := (((s.queue 0).map (·.ents)).getD []).filter (fun e => e.st = .granted && e.code = 0x54 && e.fld 18 1 % 16 = p)
  let s1 := s.each es (fun t e => t.finish 0 e.idx St.imageRejected 0x0E)
  if s1.fab.quad.isSome then s1
  else (s1.each (s1.mods.slots.filter (fun (x : Nat × MSlot) => x.2.owned && x.2.owner = p)) (fun t (x : Nat × MSlot) =>
    match x.2.inState 2 with | some b => t.setMSlot x.1 (x.2.setBank b emptyBank) | none => t)).pruneForest

/-- R551: both slow-path rings of the partition are disabled, their indices 0. -/
def State.dropRings (s : State) (p : Nat) : State :=
  let g := P.slowpath 0
  let s1 := [R.spRxCfgEnable p, R.spTxCfgEnable p, R.spRxHead p, R.spRxTail p, R.spTxHead p, R.spTxTail p].foldl (fun t f => t.wr g f 0) s
  s1.modPath (fun t => { t with spPhase := adel t.spPhase p, spIrqDue := t.spIrqDue.filter (· ≠ p) })

/-- Partition p's reset begins (R364). -/
def State.partReset (s : State) (p : Nat) : State :=
  if s.rst.parts.any (fun x => x.1 = p) then s
  else
    let s1 := ((s.sentinel P.rst 1).dropQueues p).when (p = 0) State.orphan0
    let s2 := s1.each (s1.fe.tasks.filter (fun (x : Nat × Task) => x.2.part = p)) (fun t x => t.stopTask x.1 x.2)
    let s3 := s2.each (s2.fe.invs.filter (fun (x : Nat × Inv) => x.2.part = p)) State.haltInv
    let s4 := functionReset (p + 1) ((s3.dropStages p).dropRings p)
    { s4 with rst := { s4.rst with parts := s4.rst.parts ++ [(p, s.time.ck4)] } }

/-- RST_PART_CMD: R363. -/
def rstPartCmd (mask : Nat) (s : State) : State :=
  if !s.reaches P.rst then s else s.each (bitList mask 16) State.partReset

/-- RST_PART_CMD. -/
def execRstPartCmd (mask : Nat) (s : State) : Outcome State Fault Refusal := .next (rstPartCmd mask s)

/-- PARTITION_RESET_DONE: R366. Engines whose steps still run 2^20 CK2 cycles, 2^19 CK4, after the reset began are marked
FAULT, and the reset completes. -/
def partitionResetDone (p : Nat) (s : State) : State :=
  match s.rst.parts.find? (fun x => x.1 = p) with
  | none => s
  | some x =>
    let invs := s.fe.invs.filter (fun (y : Nat × Inv) => y.2.part = p)
    let busy := invs.filter (fun (y : Nat × Inv) => y.2.running)
    if busy ≠ [] && s.time.ck4 < x.2 + 2 ^ 19 then s
    else
      let pages := (busy.flatMap (fun (y : Nat × Inv) => (List.range y.2.ops.length).filterMap (fun i => match y.2.at_ (y.2.first + i) with
        | some (d, st) => if st.st = .started then some (enginePages st.cluster (fieldLE d 0 1)) else none
        | none => none))).flatten.eraseDups.filter (fun g => s.ready g)
      let s1 := (s.faultPages pages 0x0011).each invs (fun t y => t.endInv y.1 y.2)
      ({ s1 with rst := { s1.rst with parts := s1.rst.parts.filter (fun y => y.1 ≠ p) } }).cause P.rst 10

/-- PARTITION_RESET_DONE. -/
def execPartitionResetDone (p : Nat) (s : State) : Outcome State Fault Refusal := .next (partitionResetDone p s)

/-! ## Soft reset (06 R273, R274) -/

/-- State of a block beside its page returns to reset. -/
def State.resetBlock (s : State) (i : PageInfo) : State :=
  match i.kind with
  | .feGlobal | .feSlot => s.each (List.range 16) State.partReset
  | .cl | .seq => { s with mem := { s.mem with cm := Memory.clear s.mem.cm (i.inst * 2 ^ 24) ((i.inst + 1) * 2 ^ 24) } }
  | .core => { s with mem := { s.mem with core := Memory.clear s.mem.core (i.inst * 2 ^ 20) ((i.inst + 1) * 2 ^ 20) } }
  | .forest => { s with mem := { s.mem with forest := s.mem.forest.filter (fun r => r.cluster ≠ i.inst) } }
  | .port => (s.flushPort i.inst).modPort i.inst (fun e => { EPort.reset with admin := e.admin, oper := e.oper, pendingList := e.pendingList, extend := e.extend })
  | .gate => s.modPort i.inst (fun e => { e with admin := [], oper := none, pendingList := none, extend := none })
  | .fport => s.fpLeave i.inst 0
  | .flow => s.each (((s.tab.caches[i.inst]?).getD []).map (·.1)) (fun t k => t.dropLine i.inst k)
  | .station => s.modTab (fun t => { t with station := t.station.set i.inst [] })
  | .verdict => s.modPath (fun t => { t with trk := t.trk.filter (fun x => x.1 / 256 ≠ i.inst) })
  | .rate => s.modPath (fun t => { t with buckets := t.buckets.filter (fun x => x.1 / 65536 ≠ i.inst) })
  | .slowpath => if i.inst = 0 then s.modPath (fun t => { t with spPhase := [], spIrqDue := [] }) else s
  | .obs => { s with obs := { s.obs with bins := [], open_ := [], acc := [], ops := [], latches := [] } }
  | .obsTrace => { s with obs := { s.obs with bufs := List.replicate 6 ⟨[], 0, 0, 0⟩ } }
  | .obsTap => { s with obs := { s.obs with taps := [], tapCnt := [] } }
  | _ => s

/-- Page p's registers at reset values but ENABLE, PG_PROGRESS and the sentinels (R273); CLK keeps what shows the hardware
as it stands. -/
def State.resetRegs (s : State) (p : Nat) : State :=
  (s.resetPage p).keeping s ([(p, R.pgCtrlEnable), (p, R.pgProgress)] ++ (List.range 6).map (fun k => (p, R.pgSentinel k)) ++
    if p = P.clk then clkKept else [])

/-- SOFT_RESET: R273, R274. A port trains anew; another block is in STATE SOFT_RESET until BLOCK_READY. -/
def softReset (page : Nat) (s : State) : State :=
  let p := page / 0x1000 * 0x1000
  match pageAt (p / 0x1000) with
  | none => s
  | some i =>
    if !s.reaches p then s
    else if s.busy p then s.perr p 1
    else s.withPhase (fun t =>
      let t1 := ((t.resetBlock i).setReady p false).resetRegs p
      let t2 := if isLink p then t1.setState p 1 else (t1.setState p 5).wr p R.pgCtrlSoftReset 1
      (t2.settleReady).startTraining)

/-- SOFT_RESET. -/
def execSoftReset (page : Nat) (s : State) : Outcome State Fault Refusal := .next (softReset page s)

end Sys2Proof.Machine
end

