-- ==== Sys2Proof/Machine/Registers.lean ====
section
/-! DEFINITION. Machine/Registers.lean: reads and writes of BAR0 and what each register accepts (06; R828 to R877, R881
to R935, R442 to R475 and the other rules that refuse a value), page interrupts, the management target and boundary scan
(20 R1006 to R1012). -/

namespace Sys2Proof.Machine

open Host (Outcome)

/-! ## A write and the fields it covers -/

/-- A write within a page: first bit, bits, data. -/
structure Wr where
  lo : Nat
  n : Nat
  data : Nat

/-- The write covers a bit of f. -/
def Wr.covers (w : Wr) (f : Fld) : Bool := f.pos < w.lo + w.n && w.lo < f.pos + f.w

/-- f after the write, of which old stays where the write does not reach. -/
def Wr.onto (w : Wr) (f : Fld) (old : Nat) : Nat :=
  let a := max f.pos w.lo
  let b := min (f.pos + f.w) (w.lo + w.n)
  putBits old (a - f.pos) (b - a) (bits w.data (a - w.lo) (b - a))

/-- The values fields would hold after the write: f read by val, then written. -/
def Wr.cand (w : Wr) (val : Fld → Nat) (f : Fld) : Nat := if w.covers f then w.onto f (val f) else val f

/-! ## What a field accepts (R269) -/

/-- a to b. -/
def inR (v a b : Nat) : Bool := a ≤ v && v ≤ b

/-- The value a field takes and whether it is the one written. -/
def whole (ok : Bool) (old v : Nat) : Nat × Bool := if ok then (v, true) else (old, false)

/-- A field of several values at given bits: each that is not accepted keeps its old one. -/
def keepParts (old v : Nat) (l : List (Nat × Nat × (Nat → Bool))) : Nat × Bool :=
  l.foldl (fun (r : Nat × Bool) (x : Nat × Nat × (Nat → Bool)) =>
    if x.2.2 (bits v x.1 x.2.1) || bits v x.1 x.2.1 = bits old x.1 x.2.1 then r
    else (putBits r.1 x.1 x.2.1 (bits old x.1 x.2.1), false)) (v, true)

/-- A relation between two values that the write would break: both keep theirs (R269). -/
def keepPair (old : Nat) (r : Nat × Bool) (rel : Bool) : Nat × Bool := if rel then r else (old, false)

/-- Registers of several values in one field (17). -/
def packed (c : Code) (f : Fld) (old v : Nat) : Option (Nat × Bool) :=
  let lo := fun (x : Nat) => bits x 0 16
  let hi := fun (x : Nat) => bits x 16 16
  if f = R.pwrLimits c then
    let r := keepParts old v [(0, 16, fun x => inR x 100 c.pl1), (16, 16, fun x => x * 2 ≤ 3 * c.pl1)]
    some (keepPair old r (lo r.1 ≤ hi r.1))
  else if f = R.reelCfg then some (keepParts old v [(0, 8, fun x => 1 ≤ x), (8, 6, fun x => 1 ≤ x)])
  else match f.isOf R.railLimits 8 with
  | some r =>
    let ok := fun (x : Nat) => inR x (Config.railLo r) (Config.railHi r)
    let k := keepParts old v [(0, 16, ok), (16, 16, ok)]
    some (keepPair old k (lo k.1 ≤ hi k.1))
  | none =>
    if f = R.govFfDuty then some (keepParts old v [(16, 16, fun x => x ≤ 1000)])
    else if f = R.govTime then some (keepParts old v [(0, 16, fun x => 1 ≤ x), (16, 16, fun x => 1 ≤ x)])
    else if f = R.govR then some (keepPair old (v, true) (lo v ≤ hi v))
    else if (f.isOf R.tachCfg 6).isSome then
      -- R868: such a write goes as a whole
      if v.testBit 3 && v.testBit 2 then some (old, false)
      else some (keepParts old v [(8, 12, fun x => x ≠ 0), (20, 12, fun x => x ≠ 0)])
    else none

/-- PORT_CFG and the other port registers (10 R442, R451, R500). -/
def State.portFits (s : State) (n : Nat) (c : Fld → Nat) (f : Fld) (v : Nat) : Bool :=
  if f = R.portCfgSpeed then
    v = 0 || (if v = 4 then n % 2 = 0 && s.rd (P.port (n + 1)) R.portCfgSpeed = 0 else v ≤ 3) &&
      !(n % 2 = 1 && s.rd (P.port (n - 1)) R.portCfgSpeed = 4)
  else if f = R.portCfgMedia || f = R.portTagTagTx || f = R.portTagTagRx then v ≤ 2
  else if f = R.portMaxFrame then inR v 1518 16000
  else if f = R.portTagEthertype then 0x600 ≤ v && v ≠ 0x8100 && v ≠ 0x88A8 && v ≠ 0x88F7 && v ≠ 0x8808
  else if f = R.portPausePauseEn || f = R.portPausePfcEn then !(c R.portPausePauseEn = 1 && c R.portPausePfcEn = 1)
  else true

/-- A slow-path ring's registers (11 R545, R546, R556). -/
def State.ringFits (s : State) (c : Fld → Nat) (f : Fld) (v : Nat) : Bool :=
  let q := (f.pos - 4096) / 512
  let p := ringPage
  let rx := s.on p (R.spRxCfgEnable q)
  let tx := s.on p (R.spTxCfgEnable q)
  -- the value that will stand: the one written where it is accepted
  let sized := fun (g : Fld) (a b : Nat) => inR (c g) a b || inR (s.rd p g) a b
  if f = R.spRxBase q then !rx && v % 4096 = 0
  else if f = R.spRxCfgLog2 q then !rx && inR v 4 16
  else if f = R.spRxCfgEntryLog2 q then !rx && inR v 11 15
  else if f = R.spRxCfgVector q then !rx && v ≤ 95
  else if f = R.spRxCfgEnable q then v = 0 || sized (R.spRxCfgLog2 q) 4 16 && sized (R.spRxCfgEntryLog2 q) 11 15
  else if f = R.spRxHead q then v < 2 ^ s.rd p (R.spRxCfgLog2 q) || s.rd p (R.spRxCfgLog2 q) = 0
  else if f = R.spTxBase q then !tx && v % 64 = 0
  else if f = R.spTxCfgLog2 q then !tx && inR v 4 16
  else if f = R.spTxCfgEnable q then v = 0 || sized (R.spTxCfgLog2 q) 4 16
  else if f = R.spTxTail q then v < 2 ^ s.rd p (R.spTxCfgLog2 q) || s.rd p (R.spTxCfgLog2 q) = 0
  else if f = R.spTxWb q then v % 4 = 0
  else true

/-- FAB (16). -/
def State.fabFits (s : State) (c : Fld → Nat) (f : Fld) (v : Nat) : Bool :=
  if f = R.fabCfg0TtlInit then 1 ≤ v
  else if f = R.fabCfg1TimeTolNs || f = R.fabCfg2 then 20 ≤ v
  else if f = R.fabCfg1ArmLeadUs then 50 ≤ v
  else if f = R.fabCfg3 then inR v 100 10000000
  else if 1536 ≤ f.pos then
    -- R798: the write goes as a whole
    let p := (f.pos - 1536) / 32
    c (R.fabRportEn p) = 0 || (s.pagePresent (P.port p) && s.rd (P.port p) R.portCfgSpeed = 0)
  else true

/-- PWR, THM and PLANT (17 R828, R837 to R868). -/
def State.powerFits (s : State) (k : Code) (c : Fld → Nat) (f : Fld) (v : Nat) : Bool :=
  let alone := fun (g : Fld) => if inR (c g) 1 4 then c g else s.rd P.pwr g
  if f = R.avsTarget then inR v 10 200
  else if f = R.droopCfgLevelInit then inR v 1 4 && v ≤ alone R.droopCfgMaxLevel
  else if f = R.droopCfgMaxLevel then inR v 1 4 && alone R.droopCfgLevelInit ≤ v
  else if f = R.droopCfgHoldNs then 100 ≤ v
  else if f = R.pwrFloor k then inR v 100 (bits (s.rd P.pwr (R.pwrLimits k)) 0 16)
  else true

/-- As powerFits, on THM and PLANT. -/
def State.thermalFits (s : State) (f : Fld) (v : Nat) : Bool :=
  if f = R.thmTarget then inR v 960 (s.rd P.thm R.thmAlarm - 80)
  else if f = R.thmAlarm then inR v (s.rd P.thm R.thmTarget + 80) (s.rd P.thm R.thmTrip - 80)
  else if f = R.govCdutyMin then inR v 1 64
  else true

/-- As powerFits, on PLANT (R866). -/
def plantFits (f : Fld) (v : Nat) : Bool :=
  if (f.isOf R.pwmDutySet 4).isSome then v ≤ 1000 else if (f.isOf R.pwmRole 4).isSome then v ≤ 2 else true

/-- Flow and station tables (12 R582, R587). -/
def tableFits (f : Fld) (v : Nat) : PT → Bool
  | .flow =>
    if f = R.flowAgeRate then inR v 1 1024 else if f = R.flowWbInterval then 100 ≤ v
    else if (f.isOf R.flowAgeT 8).isSome then v < 2 ^ 31 else true
  | .station => if f = R.stationCfgMoveAction then v ≤ 2 else if f = R.stationSkidPeriod then inR v 10 4000000 else true
  | _ => true

/-- OBS pages (18 R891, R919, R926, R930, R935). -/
def State.obsFits (s : State) (f : Fld) (v : Nat) : PT → Bool
  | .obs =>
    if f = R.tallyBase then !s.on P.obs R.tallyCfgEnable
    else if f = R.tallyCfgLog2 then !s.on P.obs R.tallyCfgEnable && v ≤ 12
    else if f = R.obsBudgetTrace then v ≤ 10 else if f = R.obsBudgetTap then v ≤ 20 else true
  | .obsTrace =>
    if f = R.trBase then !s.on P.obsTrace R.trCtrlEnable
    else if f = R.trLog2 then !s.on P.obsTrace R.trCtrlEnable && inR v 11 29 else true
  | .obsTap =>
    if f = R.tapBase then !s.on P.obsTap R.tapCtrlEnable
    else if f = R.tapLog2 then !s.on P.obsTap R.tapCtrlEnable && inR v 16 34 else true
  | _ => true

/-- DEV and CLK (06 R302; 07). -/
def devFits (c : Fld → Nat) (f : Fld) (v : Nat) : Bool :=
  match f.isOf R.devIrqRouteVector 32 with
  | some _ => v < 512
  | none => match f.isOf R.devIrqRouteRouteEn 32 with
    | some g => c (R.devIrqRouteVector g) < 512
    | none =>
      if f = R.clkSrcCtrl || f = R.ioscTrimCtrlMode then v ≤ 2 else if f = R.fmcWindow then 1 ≤ v else true

/-- HBM and FLT (19). -/
def fltFits (f : Fld) (v : Nat) : PT → Bool
  | .hbm => if f = R.hbmScrubCfgPeriod then 1 ≤ v else true
  | .flt => if f = R.fltDumpBudget then inR v 1 1000 else if f = R.fltMirrorCfgMib then inR v 1 256 else true
  | _ => true

/-- The page's register accepts v in field f; c gives the values after the write. -/
def State.fits (s : State) (i : PageInfo) (c : Fld → Nat) (f : Fld) (v : Nat) : Bool :=
  match i.kind with
  | .dev | .clk => devFits c f v
  | .port => s.portFits i.inst c f v
  | .slowpath => s.ringFits c f v
  | .fab => s.fabFits c f v
  | .pwr => s.powerFits s.part.code c f v
  | .thm => s.thermalFits f v
  | .plant => plantFits f v
  | .flow | .station => tableFits f v i.kind
  | .obs | .obsTrace | .obsTap => s.obsFits f v i.kind
  | .hbm | .flt => fltFits f v i.kind
  | _ => true

/-- A register whose every write is refused now (10 R443; 16 R797). -/
def State.sealed (s : State) (i : PageInfo) (p : Nat) (f : Fld) : Bool :=
  (i.kind = .port && 512 ≤ f.pos && f.pos < 544 && s.on p R.pgCtrlEnable) ||
  (i.kind = .fab && 576 ≤ f.pos && f.pos < 736 && (s.rd P.fab R.fabStatusRole = 1 || s.rd P.fabEpoch R.qState ≠ 0))

/-- What RW field f takes of a write, and whether it accepts it. -/
def State.accept (s : State) (i : PageInfo) (p : Nat) (c : Fld → Nat) (f : Fld) (old v : Nat) : Nat × Bool :=
  if s.sealed i p f then (old, false)
  else if v = old then (v, true)
  else match (if i.kind = .pwr || i.kind = .thm || i.kind = .plant then packed s.part.code f old v else none) with
    | some r => r
    | none => whole (s.fits i c f v) old v

/-- Fields a write leaves as they are without an error: those of another page's, and queue 0's while it is enabled (02
R117; 10 R461; 11 R556; 12). -/
def State.untouched (s : State) (i : PageInfo) (f : Fld) : Bool :=
  (match i.kind with
    | .flow | .station => i.inst ≠ 0 && 512 ≤ f.pos
    | .slowpath => i.inst ≠ 0 && 4096 ≤ f.pos
    | .ptp => i.inst ≠ 0 && (f = R.ptpStep || f = R.ptpRate || f = R.ptpCtrlPtpSrc || 832 ≤ f.pos)
    | .nse => i.inst ≠ 0 && 512 ≤ f.pos
    | .feGlobal => 512 ≤ f.pos && f.pos < 672 && s.on P.fe R.feKqCtrlEnable
    | _ => false)

/-! ## What a write does beside setting fields -/

/-- A change of enable bits: each gate that changes opens or closes (07 R324, R325). -/
def clkEnWrite (j v : Nat) (s : State) : State :=
  let old := s.rd P.clk (R.clkEn j)
  (List.range 32).foldl (fun (t : State) b =>
    if v.testBit b = old.testBit b then t else if v.testBit b then gateOpen (32 * j + b) t else gateClose (32 * j + b) t) s

/-- ENABLE of queue 0 cleared: the queue is gone, its waiting entries with it. -/
def feKqDisable (s : State) : State :=
  if !s.on P.fe R.feKqCtrlEnable then s
  else
    let s1 := match s.fe.slots.findIdx? (fun x => x.queue = some 0) with | some k => s.unmap k | none => s
    { (s1.wr P.fe R.feKqCtrlEnable 0) with fe := { s1.fe with
        queues := adel s1.fe.queues 0, cache := s1.fe.cache.filter (· ≠ 0), asyncs := s1.fe.asyncs.filter (fun a => a.1 ≠ 0) } }

/-- PTP_SRC: PTP time runs from fabric time, one time for the fabric, or goes on from the time base (10 R459). -/
def ptpSrcWrite (v : Nat) (s : State) : State :=
  let s1 := (s.ptpRebase 0).wr (P.ptp 0) R.ptpCtrlPtpSrc v
  let val := if v = 1 then s.fab16 * 2 ^ 40 else s1.path.ptp.val
  { s1 with path := { s1.path with ptp := { s1.path.ptp with val := val, at_ := s1.ptpSource } } }

/-- PTP_STEP: the value acts when its high word is written (10). -/
def ptpStepWrite (w : Wr) (s : State) : State :=
  let p := P.ptp 0
  let v := w.onto R.ptpStep (s.rd p R.ptpStep)
  let s1 := s.wr p R.ptpStep v
  if R.ptpStep.pos + 32 < w.lo + w.n then ptpStep 0 v s1 else s1

/-- A tracker's register written (13). -/
def trkWrite (d : Nat) (f : Fld) (v : Nat) (s : State) : State :=
  let c := s.rd (P.verdict d) R.trkSel
  let t := s.tracker d c
  s.setTracker d c
    (if f = R.trkCtrlEnable then { t with enable := v = 1 } else if f = R.trkCtrlFreeze then { t with freeze := v = 1 }
     else if f = R.trkTarget then { t with target := v } else if f = R.trkGain then { t with gain := v }
     else if f = R.trkSlew then { t with slew := v } else if f = R.trkMin then { t with lo := toS 32 v }
     else { t with hi := toS 32 v })

/-- Group g's message is due: it is pending and routed (R298, R299). -/
def State.groupDue (s : State) (g : Nat) : State :=
  if s.groupPending g && s.on P.dev (R.devIrqRouteRouteEn g) && !s.host.dueGroups.contains g then
    { s with host := { s.host with dueGroups := s.host.dueGroups ++ [g] } }
  else s

/-- EN of a remote port cleared: it is no remote port any more. -/
def rportClear (p : Nat) (s : State) : State :=
  let s1 := s.wr P.fab (R.fabRportEn p) 0
  if s.on P.fab (R.fabRportEn p) && s.rd (P.port p) R.pgStatusState = 0x80 then s1.leaveReady (P.port p) else s1

/-- RW field f of page p becomes v, old before. -/
def State.setField (s : State) (i : PageInfo) (p : Nat) (f : Fld) (old v : Nat) : State :=
  let plain := s.wr p f v
  if f = R.pgIrqEnable then s.withGroup p (fun t => t.wr p f v)
  else if f = R.pgCtrlEnable then (if v = old then s else if v = 1 then pgCtrlEnableSet p s else pgCtrlEnableClear p s)
  else match i.kind with
    | .dev => match f.isOf R.devIrqRouteRouteEn 32 with
      | some g => if v = 1 && old = 0 then plain.groupDue g else plain
      | none => plain
    | .clk =>
      if f = R.ioscTrim then (if v = old then s else ioscTrimWrite v s)
      else if f = R.ioscTrimCtrlMode && v ≠ old then { plain with clk := { plain.clk with trimEdge := s.ns } }
      else match f.isOf R.clkEn 8 with | some j => clkEnWrite j v s | none => plain
    | .feGlobal => if f = R.feKqCtrlEnable then (if v = 1 then feKqEnable s else if s.ready P.fe then feKqDisable s else s) else plain
    | .pwr => if f = R.pwrOff then pwrOffWrite v s else plain
    | .ptp =>
      if f = R.ptpRate then ptpRateWrite i.inst v s
      else if f = R.ptpCtrlPtpSrc && v ≠ old then ptpSrcWrite v s else plain
    | .verdict => if selected .verdict f then trkWrite i.inst f v s else plain
    | .fab => match f.isOf R.fabRportEn 16 with | some q => if v = 0 then rportClear q s else plain | none => plain
    | .fport => if f = R.fpCtrl && v ≠ old then plain.fpLeave i.inst (if v = 1 then 6 else 0) else plain
    | .obs =>
      if f = R.obsTallyPeriod then (if v = old then s else tallyPeriodWrite v s)
      else if f = R.tallyCfgEnable && v = 1 then (if old = 1 then s else ringEnable 0 s)
      else if f = R.obsFreezeSw || f = R.obsFreezePinEn || f = R.obsFreezeFabricEn then s.freezeBy (fun t => t.wr p f v)
      else plain
    | .obsTrace => if f = R.trCtrlEnable && v = 1 then ringEnable 1 s else plain
    | .obsTap => if f = R.tapCtrlEnable && v = 1 then ringEnable 2 s else plain
    | .fltAon => if f = R.aonFaultNBlockEn then plain.faultN else plain
    | _ => plain

/-- PG_IRQ_STATUS written: causes cleared; the message goes again where the group stays pending (R299). -/
def pgIrqStatusW1c (page mask : Nat) (s : State) : State :=
  let p := page / 0x1000 * 0x1000
  if !s.reaches p then s
  else
    let old := s.rd p R.pgIrqStatus
    let s1 := s.wr p R.pgIrqStatus (old - (old &&& mask))
    match groupOf (p / 0x1000) with | some g => s1.groupDue g | none => s1

/-- PG_IRQ_STATUS_W1C. -/
def execPgIrqStatusW1c (page mask : Nat) (s : State) : Outcome State Fault Refusal := .next (pgIrqStatusW1c page mask s)

/-- R276, R298. -/
def pgIrqSet (page mask : Nat) (s : State) : State :=
  let p := page / 0x1000 * 0x1000
  if !s.reaches p then s else s.withGroup p (fun t => t.wr p R.pgIrqStatus (t.rd p R.pgIrqStatus ||| mask))

/-- PG_IRQ_SET. -/
def execPgIrqSet (page mask : Nat) (s : State) : Outcome State Fault Refusal := .next (pgIrqSet page mask s)

/-- A one-bit action. -/
def State.act1 (s : State) (i : PageInfo) (p : Nat) (f : Fld) : State :=
  if f = R.pgCtrlSoftReset then softReset p s
  else match i.kind with
    | .clk =>
      if f = R.clkSrcCmdSwitchToIosc then switchTo 1 s else if f = R.clkSrcCmdSwitchToRef then switchTo 0 s
      else if f = R.fmcCtrlStart then fmcStart s else s.wr p f 0
    | .port => tsPop i.inst s
    | .gate => gateCommit i.inst s
    | .ptp => ptpCapture i.inst s
    | .forest => feFlush i.inst s
    | .fabTime => (s.wr p R.ftFrac (s.fab16 % 65536).toNat).wr p R.ftNs s.fns
    | .thm => thmAlarmClear s
    | .plant => pumpLostClear s
    | .obs =>
      if f = R.obsTallyCmd then s.latch true
      else if f = R.obsFreezeSrcFault then s.wr p f 0
      else if f = R.obsFabricFreezeFreeze then s.sendFreeze false
      else if f = R.obsFabricFreezeThaw then s.sendFreeze true else s
    | .flt => mirrorCopy s
    | .cruise => crzGo s
    | .fltAon => landingPendingClear s
    | _ => s

/-- A W1C, W1S or WO field written with v, 0 where the write does not reach. -/
def State.act (s : State) (i : PageInfo) (p : Nat) (w : Wr) (f : Fld) (v : Nat) : State :=
  if f = R.pgIrqStatus then pgIrqStatusW1c p v s
  else if f = R.pgIrqSet then pgIrqSet p v s
  else match i.kind with
    | .rst => if f = R.rstCmdKey then rstCmdWarm (v + 256 * w.onto R.rstCmdWarm 0) s else if f = R.rstPartCmd then rstPartCmd v s else s
    | .verdict => if f = R.trkInit then trkInit i.inst v s else if v = 1 then s.act1 i p f else s
    | .ptp => if f = R.ptpStep then ptpStepWrite w s else if v = 1 then s.act1 i p f else s
    | .obs =>
      if f = R.obsSwMarkMarker then obsSwMark v (w.onto R.obsSwMarkEnd 0 = 1) s else if v = 1 then s.act1 i p f else s
    | .fltAon => if f = R.aonFaultNCause then faultNClear v s else if v = 1 then s.act1 i p f else s
    | _ => if v = 1 then s.act1 i p f else s

/-- Bytes of the write that fall into a window at byte offset o of len bytes: offset in the window, bytes. -/
def Wr.into (w : Wr) (o len : Nat) : Option (Nat × Bytes) :=
  let a := w.lo / 8
  if o ≤ a && a < o + len then some (a - o, leBytes (w.n / 8) w.data) else none

/-- What a write does to windows, and to registers that act as a whole. -/
def State.writeWindow (s : State) (i : PageInfo) (p : Nat) (w : Wr) (c : Fld → Nat) : State :=
  match i.kind with
  | .gate => match w.into 0x800 0x800 with
    | some (o, b) => if s.on p R.gateCtrlView then s else s.modPort i.inst (fun e => { e with admin := e.admin.write o b })
    | none => s
  | .rate => match w.into 0x60 36 with
    | some (o, b) => s.each (List.range (b.length / 4)) (fun t k => rateDataWrite i.inst (o + 4 * k) (fieldLE b (4 * k) 4) t)
    | none => s
  | .obsTap => match w.into 0x100 64 with
    | some (o, b) =>
      let k := s.rd p R.tapEntrySel
      { s with obs := { s.obs with taps := aput s.obs.taps k (putAt (padTo 64 ((aget s.obs.taps k).getD [])) o b) } }
    | none => s
  | .obs =>
    let s1 := s.each ((List.range 16).filter (fun h => w.covers (R.histCfgKind h))) (fun t h => histCfgWrite h (c (R.histCfgKind h)) (c (R.histCfgIndex h)) t)
    s1.each ((List.range 16).filter (fun k => w.covers (R.markerCfgMarker k)))
      (fun t k => markerCfgWrite k (c (R.markerCfgMarker k)) (c (R.markerCfgPartition k)) (c (R.markerCfgEn k) = 1) t)
  | .fab => s.settleRports
  | _ => s

/-- Fields that writeWindow writes. -/
def inWindow (i : PageInfo) (f : Fld) : Bool :=
  i.kind = .obs && ((2048 ≤ f.pos && f.pos < 2560) || (6144 ≤ f.pos && f.pos < 6656))

/-- A write w of the physical function that reaches page p: fields that software sets first, then actions (R263, R269). -/
def State.writePage (s : State) (i : PageInfo) (p : Nat) (w : Wr) : State :=
  let flds := (pageFlds s.part.code i.kind).filter (fun f => w.covers f && !s.untouched i f && !inWindow i f)
  let c := w.cand (s.live i p)
  let rws := (flds.filter (fun f => f.acc = .rw)).map (fun f => (f, s.accept i p c f (s.live i p f) (c f)))
  let acts := flds.filter (fun f => f.acc = .w1c || f.acc = .w1s || f.acc = .wo)
  let s1 := s.each rws (fun t x => t.setField i p x.1 (s.live i p x.1) x.2.1)
  let s2 := if rws.any (fun x => !x.2.2) then s1.illegal p else s1
  let s3 := s2.writeWindow i p w c
  s3.each acts (fun t f => t.act i p w f (w.onto f 0))

/-! ## Accesses -/

/-- A BAR0 access that R260 allows. -/
def legal (addr size : Nat) : Bool := (size = 4 || size = 8) && addr % size = 0

/-- The function's last access to the page is no read of a low word any more (R290). -/
def State.dropShadow (s : State) (fn page : Nat) : State :=
  { s with host := { s.host with shadows := s.host.shadows.filter (fun x => x.1 ≠ fn || x.2.1 ≠ page) } }

/-- R261: counted and recorded; a read returns zero. -/
def illegalAccess (fn addr : Nat) (write : Bool) (s : State) : State :=
  if !s.pins.pwrGood || s.pins.perst || !s.fnPresent fn then s
  else
    let s1 := ((s.count P.dev R.devAccessErr).wr P.dev R.devAccessAddrOffset addr).wr P.dev R.devAccessAddrFunction fn
    if write then s1 else s1.readOut 0 false

/-- ILLEGAL_ACCESS. -/
def execIllegalAccess (fn addr size : Nat) (write : Bool) (s : State) : Outcome State Fault Refusal :=
  .next (if legal addr size then s else illegalAccess fn addr write s)

/-- A write through the physical function (R261 to R263, R269, R282). -/
def registerWrite (addr size data : Nat) (s : State) : State :=
  if !s.pins.pwrGood || s.pins.perst then s
  else if !legal addr size then illegalAccess 0 addr true s
  else
    let p := addr / 0x1000 * 0x1000
    let s1 := s.dropShadow 0 p
    match pageAt (addr / 0x1000) with
    | none => s1
    | some i => if s1.gated p then s1 else s1.writePage i p ⟨8 * (addr % 0x1000), 8 * size, data⟩

/-- REGISTER_WRITE. -/
def execRegisterWrite (addr size data : Nat) (s : State) : Outcome State Fault Refusal := .next (registerWrite addr size data s)

/-- R295: a write of legal size and alignment through a virtual function. -/
def vfWriteDrop (fn addr size : Nat) (s : State) : State :=
  if !s.pins.pwrGood || s.pins.perst || fn = 0 || !s.fnPresent fn then s
  else if !legal addr size then illegalAccess fn addr true s
  else (s.dropShadow fn (addr / 0x1000 * 0x1000)).count P.dev R.devVfWriteDrop

/-- VF_WRITE_DROP. -/
def execVfWriteDrop (fn addr size : Nat) (s : State) : Outcome State Fault Refusal := .next (vfWriteDrop fn addr size s)

/-- The low word of a pair of registers _LO and _HI that page offset o is, if it is one. -/
def lowWord (c : Code) (k : PT) (o : Nat) : Bool := (pageFlds c k).any (fun f => 32 < f.w && f.pos = 8 * o) && o % 8 = 0

/-- The word at addr as function fn reads it now, a _HI word from the shadow (R288 to R290). -/
def State.readWord (s : State) (fn addr : Nat) (alone : Bool) : Nat :=
  let p := addr / 0x1000 * 0x1000
  match s.host.shadows.find? (fun x => x.1 = fn && x.2.1 = p) with
  | some x => if alone && x.2.2.1 + 4 = addr % 0x1000 && !s.gated p then x.2.2.2 else s.wordVia fn addr
  | none => s.wordVia fn addr

/-- RC fields that a read of n bytes at addr covers become zero (R268); a CPM's minimum starts anew. -/
def State.clearRead (s : State) (addr n : Nat) : State :=
  let p := addr / 0x1000 * 0x1000
  match pageAt (addr / 0x1000) with
  | none => s
  | some i =>
    let w : Wr := ⟨8 * (addr % 0x1000), 8 * n, 0⟩
    let fs := (pageFlds s.part.code i.kind).filter (fun f => f.acc = .rc && w.covers f)
    s.each fs (fun t f =>
      let t1 := t.wr p f 0
      match (if i.kind = .pwr then f.isOf R.cpmMin 32 else none) with
      | some m => { t1 with pwr := { t1.pwr with cpmRead := if t1.pwr.cpmRead.contains m then t1.pwr.cpmRead else t1.pwr.cpmRead ++ [m] } }
      | none => t1)

/-- A read of BAR0 through function fn. -/
def bar0Read (fn addr size : Nat) (s : State) : State :=
  if !s.pins.pwrGood || s.pins.perst || !s.fnPresent fn then s
  else if !legal addr size then illegalAccess fn addr false s
  else
    let p := addr / 0x1000 * 0x1000
    let o := addr % 0x1000
    let lo := s.readWord fn addr (size = 4)
    let v := if size = 8 then lo + s.wordVia fn (addr + 4) * 2 ^ 32 else lo
    let s1 := (s.readOut v false).dropShadow fn p
    let s2 := if fn = 0 && !s.gated p then s1.clearRead addr size else s1
    match pageAt (addr / 0x1000) with
    | some i =>
      if size = 4 && lowWord s.part.code i.kind o && !s.gated p then
        { s2 with host := { s2.host with shadows := (fn, p, o, s.wordVia fn (addr + 4)) :: s2.host.shadows } }
      else s2
    | none => s2

/-- READ_CLEAR. -/
def execReadClear (fn addr size : Nat) (s : State) : Outcome State Fault Refusal := .next (bar0Read fn addr size s)

/-- LO_READ_SHADOW. -/
def execLoReadShadow (fn addr : Nat) (s : State) : Outcome State Fault Refusal := .next (bar0Read fn addr 4 s)

/-! ## Routes (R298 to R302) -/

/-- ROUTE_EN of a group set, with its vector. -/
def irqRouteEnable (g vector : Nat) (s : State) : State :=
  if 32 ≤ g || !s.reaches P.dev then s
  else if 512 ≤ vector then s.illegal P.dev
  else ((s.wr P.dev (R.devIrqRouteVector g) vector).wr P.dev (R.devIrqRouteRouteEn g) 1).groupDue g

/-- IRQ_ROUTE_ENABLE. -/
def execIrqRouteEnable (group vector : Nat) (s : State) : Outcome State Fault Refusal := .next (irqRouteEnable group vector s)

/-- A due message leaves (R300). -/
def groupMsix (g : Nat) (s : State) : State :=
  if !s.host.dueGroups.contains g then s
  else ({ s with host := { s.host with dueGroups := s.host.dueGroups.filter (· ≠ g) } }).sendGroup g

/-- GROUP_MSIX. -/
def execGroupMsix (group : Nat) (s : State) : Outcome State Fault Refusal := .next (groupMsix group s)

/-! ## Occupancy histograms (18 R895, R896) -/

/-- Bin of occupancy x. -/
def histBinOf (x : Nat) : Nat := if x = 0 then 0 else min 15 (Nat.log2 x + 1)

/-- The page is READY and clocked. -/
def State.counted (s : State) (p : Nat) : Bool := s.pagePresent p && !s.gated p && s.ready p

/-- Occupancy of the source of KIND and INDEX; none: it adds nothing. -/
def State.histSource (s : State) (kind x : Nat) : Option Nat :=
  let on := fun (p : Nat) (v : Option Nat) => if s.counted p then v else none
  if kind = 1 then on P.fe ((s.queue x).map (fun r => r.ents.length))
  else if kind = 2 then on P.fe ((aget s.fe.iqs x).map (fun q => q.items.length))
  else if kind = 3 then (if x < s.part.code.ioDies then on (P.hold x) (some (s.holdOcc x)) else none)
  else if kind = 4 then
    on (P.port (x / 8)) ((s.eport (x / 8)).map (fun e => sumN ((e.queues.getD (x % 8) []).map (fun y => ceilDiv y.frame.length 256))))
  else if kind = 5 then on (P.fport (x / 3)) ((s.fport (x / 3)).map (fun f => f.credits.getD (x % 3) 0))
  else if kind = 6 then (if x < 32 then on P.feSlot (some (s.slotInflight x)) else none)
  else if kind = 7 then on P.flt ((s.paths.find? (fun y => y.index = x)).map (·.occ))
  else none

/-- HISTOGRAM_SAMPLE: one CK4 edge. -/
def histogramSample (s : State) : State :=
  if s.obsFrozen || !s.counted P.obs then s
  else s.each (List.range 16) (fun t h =>
    match t.histSource (t.rd P.obs (R.histCfgKind h)) (t.rd P.obs (R.histCfgIndex h)) with
    | none => t
    | some x =>
      let k := 16 * h + histBinOf x
      { t with obs := { t.obs with bins := aput t.obs.bins k ((((aget t.obs.bins k).getD 0) + 1) % 2 ^ 64) } })

/-- HISTOGRAM_SAMPLE. -/
def execHistogramSample (s : State) : Outcome State Fault Refusal := .next (histogramSample s)

/-! ## Management target and boundary scan (20) -/

/-- The 64-byte block of R1008. -/
def State.mgmtBlock (s : State) : Bytes :=
  let a := P.fltAon
  let w := [s.part.code.devCode, Config.serial % 2 ^ 32, Config.serial / 2 ^ 32 % 2 ^ 32,
    if s.ready P.trust then s.rd P.dev R.devFwVersion else 0,
    s.rd P.rst R.rstPhase + 256 * s.rd P.rst R.rstCause,
    s.rd P.thm R.thmMaxTemp + 2 ^ 16 * s.rd P.thm R.thmStatusAlarm + 2 ^ 17 * s.rd P.thm R.thmStatusFloor,
    s.rd P.pwr R.pwrTotal,
    s.rd a R.aonFaultNCause + 2 ^ 4 * s.rd a R.logfailStatusLogUe + 2 ^ 5 * s.rd a R.logfailStatusWriteStuck +
      2 ^ 6 * s.rd a R.logfailStatusCtrlFail + 2 ^ 8 * s.rd a R.aonLandingState + 2 ^ 16 * s.rd a R.aonLastFatal,
    (s.liveRst R.rstReadyMap2Device).getD 0,
    s.rd P.plant R.plantStatusPumpLost + 2 * s.rd P.plant R.plantCtrl]
  padTo 64 (w.flatMap (leBytes 4))

/-- MGMT_READ: R1007, R1008. -/
def mgmtRead (off count : Nat) (s : State) : State :=
  if !s.pins.pwrGood then s
  else
    let b := (s.mgmtBlock.drop (off % 256)).take count
    { s with out := { s.out with mgmt := padTo count b :: s.out.mgmt } }

/-- MGMT_READ. -/
def execMgmtRead (off count : Nat) (s : State) : Outcome State Fault Refusal := .next (mgmtRead off count s)

/-- IDCODE (R1012). -/
def State.idcode (s : State) : Nat :=
  Config.stepping % 16 * 2 ^ 28 + (0xD2 * 256 + s.part.code.num) * 2 ^ 12 + 0x2A7 * 2 + 1

/-- JTAG_INSTRUCTION: R1010, R1011. Codes in the order of R1010; EXTEST, CLAMP and HIGHZ act as BYPASS with PERST_N
deasserted. The data register the instruction selects is captured; the boundary register's bits are those of the pins,
free here. -/
def jtagInstruction (code : Nat) (s : State) : State :=
  if !s.pins.pwrGood then s
  else
    let k := if 6 ≤ code || (3 ≤ code && !s.pins.perst) then 0 else code
    let s1 := { s with pins := { s.pins with jtag := k } }
    let n := Config.boundaryBits
    if k = 1 then { s1 with out := { s1.out with tdr := (32, s.idcode) :: s1.out.tdr } }
    else if k = 2 || k = 3 then ({ s1 with out := { s1.out with tdr := (n, s.drawn (2 ^ n)) :: s1.out.tdr } }).draw
    else { s1 with out := { s1.out with tdr := (1, 0) :: s1.out.tdr } }

/-- JTAG_INSTRUCTION. -/
def execJtagInstruction (code : Nat) (s : State) : Outcome State Fault Refusal := .next (jtagInstruction code s)

end Sys2Proof.Machine
end

