-- ==== Sys2Proof/Machine/Dispatch.lean ====
section
/-! DEFINITION. Machine/Dispatch.lean: one arm per command. -/

namespace Sys2Proof.Machine

def exec (i : Instr) (s : State) : Host.Outcome State Fault Refusal :=
  match i with
  | .sqTailDb fn q val stores => Sys2Proof.Machine.execSqTailDb fn q val stores s
  | .cqHeadDb fn q val => Sys2Proof.Machine.execCqHeadDb fn q val s
  | .slotMap slot => Sys2Proof.Machine.execSlotMap slot s
  | .slotUnmap slot => Sys2Proof.Machine.execSlotUnmap slot s
  | .grant slot => Sys2Proof.Machine.execGrant slot s
  | .descriptorFetchFail q count => Sys2Proof.Machine.execDescriptorFetchFail q count s
  | .entryRetire q => Sys2Proof.Machine.execEntryRetire q s
  | .nop q idx => Sys2Proof.Machine.execNop q idx s
  | .launchGraph q idx => Sys2Proof.Machine.execLaunchGraph q idx s
  | .launchPersistent q idx => Sys2Proof.Machine.execLaunchPersistent q idx s
  | .stopPersistentDrain q idx => Sys2Proof.Machine.execStopPersistentDrain q idx s
  | .stopPersistentDetach q idx => Sys2Proof.Machine.execStopPersistentDetach q idx s
  | .cancel q idx => Sys2Proof.Machine.execCancel q idx s
  | .voidOperation q idx => Sys2Proof.Machine.execVoidOperation q idx s
  | .copy q idx => Sys2Proof.Machine.execCopy q idx s
  | .queueCreate idx => Sys2Proof.Machine.execQueueCreate idx s
  | .queueDestroyDrain idx => Sys2Proof.Machine.execQueueDestroyDrain idx s
  | .queueDestroyAbort idx => Sys2Proof.Machine.execQueueDestroyAbort idx s
  | .slotReset idx => Sys2Proof.Machine.execSlotReset idx s
  | .slotResetDrainTimeout slot => Sys2Proof.Machine.execSlotResetDrainTimeout slot s
  | .partitionConfigWrite idx => Sys2Proof.Machine.execPartitionConfigWrite idx s
  | .partitionConfigRead idx => Sys2Proof.Machine.execPartitionConfigRead idx s
  | .modelStage idx => Sys2Proof.Machine.execModelStage idx s
  | .epochCommitLocal idx => Sys2Proof.Machine.execEpochCommitLocal idx s
  | .epochCommitFabric idx => Sys2Proof.Machine.execEpochCommitFabric idx s
  | .modelReleaseDiscard idx => Sys2Proof.Machine.execModelReleaseDiscard idx s
  | .modelReleaseRetire idx => Sys2Proof.Machine.execModelReleaseRetire idx s
  | .epochRelease => Sys2Proof.Machine.execEpochRelease s
  | .invocationStart inv => Sys2Proof.Machine.execInvocationStart inv s
  | .rulesetLoadBuild idx => Sys2Proof.Machine.execRulesetLoadBuild idx s
  | .rulesetLoadDiscard idx => Sys2Proof.Machine.execRulesetLoadDiscard idx s
  | .rulesetCommit idx => Sys2Proof.Machine.execRulesetCommit idx s
  | .generationRelease => Sys2Proof.Machine.execGenerationRelease s
  | .releaseSweep => Sys2Proof.Machine.execReleaseSweep s
  | .tableQuerySearch q idx => Sys2Proof.Machine.execTableQuerySearch q idx s
  | .tableQueryNext q idx => Sys2Proof.Machine.execTableQueryNext q idx s
  | .tableWriteInsert q idx => Sys2Proof.Machine.execTableWriteInsert q idx s
  | .tableWriteUpdate q idx => Sys2Proof.Machine.execTableWriteUpdate q idx s
  | .tableWriteDelete q idx => Sys2Proof.Machine.execTableWriteDelete q idx s
  | .tableFlush idx => Sys2Proof.Machine.execTableFlush idx s
  | .stationWriteWrite idx => Sys2Proof.Machine.execStationWriteWrite idx s
  | .stationWriteDelete idx => Sys2Proof.Machine.execStationWriteDelete idx s
  | .attestReport idx => Sys2Proof.Machine.execAttestReport idx s
  | .attestDeviceidCert idx => Sys2Proof.Machine.execAttestDeviceidCert idx s
  | .attestAliasEndorsement idx => Sys2Proof.Machine.execAttestAliasEndorsement idx s
  | .cruise idx => Sys2Proof.Machine.execCruise idx s
  | .indexLoadDefine idx => Sys2Proof.Machine.execIndexLoadDefine idx s
  | .indexLoadLoad idx => Sys2Proof.Machine.execIndexLoadLoad idx s
  | .indexLoadUnload idx => Sys2Proof.Machine.execIndexLoadUnload idx s
  | .indexLoadDelete idx => Sys2Proof.Machine.execIndexLoadDelete idx s
  | .indexLoadSetMode idx => Sys2Proof.Machine.execIndexLoadSetMode idx s
  | .firmwareUpdate idx flashOk => Sys2Proof.Machine.execFirmwareUpdate idx flashOk s
  | .matmul w => Sys2Proof.Machine.execMatmul w s
  | .conv1d w => Sys2Proof.Machine.execConv1d w s
  | .elemwise w => Sys2Proof.Machine.execElemwise w s
  | .softmax w => Sys2Proof.Machine.execSoftmax w s
  | .norm w => Sys2Proof.Machine.execNorm w s
  | .reduce w => Sys2Proof.Machine.execReduce w s
  | .topk w => Sys2Proof.Machine.execTopk w s
  | .pool1d w => Sys2Proof.Machine.execPool1d w s
  | .gather w => Sys2Proof.Machine.execGather w s
  | .scatter w => Sys2Proof.Machine.execScatter w s
  | .embedSum w => Sys2Proof.Machine.execEmbedSum w s
  | .transpose w => Sys2Proof.Machine.execTranspose w s
  | .concat w => Sys2Proof.Machine.execConcat w s
  | .convert w => Sys2Proof.Machine.execConvert w s
  | .fill w => Sys2Proof.Machine.execFill w s
  | .move w => Sys2Proof.Machine.execMove w s
  | .qstats w => Sys2Proof.Machine.execQstats w s
  | .requant w => Sys2Proof.Machine.execRequant w s
  | .dequant w => Sys2Proof.Machine.execDequant w s
  | .featurePrep w => Sys2Proof.Machine.execFeaturePrep w s
  | .forestEval w => Sys2Proof.Machine.execForestEval w s
  | .vsearch w => Sys2Proof.Machine.execVsearch w s
  | .flowRead w => Sys2Proof.Machine.execFlowRead w s
  | .flowWrite w => Sys2Proof.Machine.execFlowWrite w s
  | .verdictEmit w => Sys2Proof.Machine.execVerdictEmit w s
  | .waitQueue w => Sys2Proof.Machine.execWaitQueue w s
  | .pushQueue w => Sys2Proof.Machine.execPushQueue w s
  | .skipIf w => Sys2Proof.Machine.execSkipIf w s
  | .barrier w => Sys2Proof.Machine.execBarrier w s
  | .mark w => Sys2Proof.Machine.execMark w s
  | .dumpTap w => Sys2Proof.Machine.execDumpTap w s
  | .stepStart inv step => Sys2Proof.Machine.execStepStart inv step s
  | .coreFault w core pc => Sys2Proof.Machine.execCoreFault w core pc s
  | .tapCapture inv step entry => Sys2Proof.Machine.execTapCapture inv step entry s
  | .registerWrite addr size data => Sys2Proof.Machine.execRegisterWrite addr size data s
  | .illegalAccess fn addr size write => Sys2Proof.Machine.execIllegalAccess fn addr size write s
  | .vfWriteDrop fn addr size => Sys2Proof.Machine.execVfWriteDrop fn addr size s
  | .readClear fn addr size => Sys2Proof.Machine.execReadClear fn addr size s
  | .loReadShadow fn addr => Sys2Proof.Machine.execLoReadShadow fn addr s
  | .pgCtrlEnableClear page => Sys2Proof.Machine.execPgCtrlEnableClear page s
  | .pgCtrlEnableSet page => Sys2Proof.Machine.execPgCtrlEnableSet page s
  | .softReset page => Sys2Proof.Machine.execSoftReset page s
  | .pgIrqStatusW1c page mask => Sys2Proof.Machine.execPgIrqStatusW1c page mask s
  | .pgIrqSet page mask => Sys2Proof.Machine.execPgIrqSet page mask s
  | .irqRouteEnable group vector => Sys2Proof.Machine.execIrqRouteEnable group vector s
  | .groupMsix group => Sys2Proof.Machine.execGroupMsix group s
  | .feKqEnable => Sys2Proof.Machine.execFeKqEnable s
  | .rstCmdWarm data => Sys2Proof.Machine.execRstCmdWarm data s
  | .rstPartCmd mask => Sys2Proof.Machine.execRstPartCmd mask s
  | .partitionResetDone p => Sys2Proof.Machine.execPartitionResetDone p s
  | .gateClose gate => Sys2Proof.Machine.execGateClose gate s
  | .gateOpen gate => Sys2Proof.Machine.execGateOpen gate s
  | .switchToIosc => Sys2Proof.Machine.execSwitchToIosc s
  | .switchToRef => Sys2Proof.Machine.execSwitchToRef s
  | .ioscTrimWrite trim => Sys2Proof.Machine.execIoscTrimWrite trim s
  | .fmcStart => Sys2Proof.Machine.execFmcStart s
  | .fmcDone count => Sys2Proof.Machine.execFmcDone count s
  | .fmcNoEdge => Sys2Proof.Machine.execFmcNoEdge s
  | .ptpCapture die => Sys2Proof.Machine.execPtpCapture die s
  | .ptpStep die ns => Sys2Proof.Machine.execPtpStep die ns s
  | .ptpRateWrite die rate => Sys2Proof.Machine.execPtpRateWrite die rate s
  | .gateCommit port => Sys2Proof.Machine.execGateCommit port s
  | .gateListChange port => Sys2Proof.Machine.execGateListChange port s
  | .gateEvent port => Sys2Proof.Machine.execGateEvent port s
  | .tsPop port => Sys2Proof.Machine.execTsPop port s
  | .pwrOffWrite mask => Sys2Proof.Machine.execPwrOffWrite mask s
  | .trkInit die theta => Sys2Proof.Machine.execTrkInit die theta s
  | .rateDataWrite die off data => Sys2Proof.Machine.execRateDataWrite die off data s
  | .feFlush cluster => Sys2Proof.Machine.execFeFlush cluster s
  | .tallyNow => Sys2Proof.Machine.execTallyNow s
  | .tallyPeriodWrite ms => Sys2Proof.Machine.execTallyPeriodWrite ms s
  | .fabricFreeze => Sys2Proof.Machine.execFabricFreeze s
  | .fabricThaw => Sys2Proof.Machine.execFabricThaw s
  | .obsSwMark marker isEnd => Sys2Proof.Machine.execObsSwMark marker isEnd s
  | .histCfgWrite h kind index => Sys2Proof.Machine.execHistCfgWrite h kind index s
  | .markerCfgWrite k marker part en => Sys2Proof.Machine.execMarkerCfgWrite k marker part en s
  | .ringEnable ring => Sys2Proof.Machine.execRingEnable ring s
  | .freezeSw => Sys2Proof.Machine.execFreezeSw s
  | .mirrorCopy => Sys2Proof.Machine.execMirrorCopy s
  | .crzGo => Sys2Proof.Machine.execCrzGo s
  | .landingPendingClear => Sys2Proof.Machine.execLandingPendingClear s
  | .faultNClear mask => Sys2Proof.Machine.execFaultNClear mask s
  | .thmAlarmClear => Sys2Proof.Machine.execThmAlarmClear s
  | .pumpLostClear => Sys2Proof.Machine.execPumpLostClear s
  | .rportBind port device rport => Sys2Proof.Machine.execRportBind port device rport s
  | .powerGoodRise straps => Sys2Proof.Machine.execPowerGoodRise straps s
  | .powerGoodFall => Sys2Proof.Machine.execPowerGoodFall s
  | .perstAssert => Sys2Proof.Machine.execPerstAssert s
  | .perstDeassert => Sys2Proof.Machine.execPerstDeassert s
  | .warmReset => Sys2Proof.Machine.execWarmReset s
  | .flowWritebackTimeout => Sys2Proof.Machine.execFlowWritebackTimeout s
  | .functionReset fn => Sys2Proof.Machine.execFunctionReset fn s
  | .hotReset => Sys2Proof.Machine.execHotReset s
  | .busMasterEnableClear fn => Sys2Proof.Machine.execBusMasterEnableClear fn s
  | .busMasterEnableSet fn => Sys2Proof.Machine.execBusMasterEnableSet fn s
  | .hostReadError q idx => Sys2Proof.Machine.execHostReadError q idx s
  | .bar4WindowAccess fn addr size data write => Sys2Proof.Machine.execBar4WindowAccess fn addr size data write s
  | .bootRom => Sys2Proof.Machine.execBootRom s
  | .bundleVerify => Sys2Proof.Machine.execBundleVerify s
  | .pllLock => Sys2Proof.Machine.execPllLock s
  | .blockReady page => Sys2Proof.Machine.execBlockReady page s
  | .blockNotReady page => Sys2Proof.Machine.execBlockNotReady page s
  | .cacheOnlyEnd die => Sys2Proof.Machine.execCacheOnlyEnd die s
  | .journalRestore => Sys2Proof.Machine.execJournalRestore s
  | .bankReverify slot => Sys2Proof.Machine.execBankReverify slot s
  | .shardRestore channel shard => Sys2Proof.Machine.execShardRestore channel shard s
  | .refclkLoss => Sys2Proof.Machine.execRefclkLoss s
  | .refReturn => Sys2Proof.Machine.execRefReturn s
  | .coastDelayExpiry => Sys2Proof.Machine.execCoastDelayExpiry s
  | .refOkHeld => Sys2Proof.Machine.execRefOkHeld s
  | .relockDone => Sys2Proof.Machine.execRelockDone s
  | .deskewTick errs => Sys2Proof.Machine.execDeskewTick errs s
  | .trimInterval edges => Sys2Proof.Machine.execTrimInterval edges s
  | .trimHold => Sys2Proof.Machine.execTrimHold s
  | .droopFlag cpm => Sys2Proof.Machine.execDroopFlag cpm s
  | .droopLevelRise => Sys2Proof.Machine.execDroopLevelRise s
  | .droopHoldExpiry => Sys2Proof.Machine.execDroopHoldExpiry s
  | .avsInterval lows => Sys2Proof.Machine.execAvsInterval lows s
  | .cpmFatal cpm margin => Sys2Proof.Machine.execCpmFatal cpm margin s
  | .avsbusPoll reads => Sys2Proof.Machine.execAvsbusPoll reads s
  | .eqTick dirs => Sys2Proof.Machine.execEqTick dirs s
  | .thermalSample temps => Sys2Proof.Machine.execThermalSample temps s
  | .thermtrip => Sys2Proof.Machine.execThermtrip s
  | .hbmTempRead temps => Sys2Proof.Machine.execHbmTempRead temps s
  | .govTick => Sys2Proof.Machine.execGovTick s
  | .floorTick => Sys2Proof.Machine.execFloorTick s
  | .pumpLoss input => Sys2Proof.Machine.execPumpLoss input s
  | .tachEdge input => Sys2Proof.Machine.execTachEdge input s
  | .pwmPeriod => Sys2Proof.Machine.execPwmPeriod s
  | .plantSensorRead raws => Sys2Proof.Machine.execPlantSensorRead raws s
  | .reelStepMove inv step cluster => Sys2Proof.Machine.execReelStepMove inv step cluster s
  | .reelHomeMove flow => Sys2Proof.Machine.execReelHomeMove flow s
  | .homeMoveCancel flow => Sys2Proof.Machine.execHomeMoveCancel flow s
  | .housekeepingWatchdog => Sys2Proof.Machine.execHousekeepingWatchdog s
  | .frameReceive port frame => Sys2Proof.Machine.execFrameReceive port frame s
  | .pauseFrame port quanta => Sys2Proof.Machine.execPauseFrame port quanta s
  | .pfcFrame port enables quanta => Sys2Proof.Machine.execPfcFrame port enables quanta s
  | .pauseExpiry port => Sys2Proof.Machine.execPauseExpiry port s
  | .flowLookup pkt => Sys2Proof.Machine.execFlowLookup pkt s
  | .triggerStage pkt => Sys2Proof.Machine.execTriggerStage pkt s
  | .headPoint pkt => Sys2Proof.Machine.execHeadPoint pkt s
  | .itemQueue pkt => Sys2Proof.Machine.execItemQueue pkt s
  | .tailGood pkt => Sys2Proof.Machine.execTailGood pkt s
  | .tailBad pkt => Sys2Proof.Machine.execTailBad pkt s
  | .verdictArrive die => Sys2Proof.Machine.execVerdictArrive die s
  | .holdDeadline pkt => Sys2Proof.Machine.execHoldDeadline pkt s
  | .itemNoVerdict inv => Sys2Proof.Machine.execItemNoVerdict inv s
  | .verdictStage pkt => Sys2Proof.Machine.execVerdictStage pkt s
  | .trackerUpdate die cls => Sys2Proof.Machine.execTrackerUpdate die cls s
  | .trackerAnchor die => Sys2Proof.Machine.execTrackerAnchor die s
  | .egressStart port => Sys2Proof.Machine.execEgressStart port s
  | .preemptFragment port => Sys2Proof.Machine.execPreemptFragment port s
  | .preemptVerify port ok => Sys2Proof.Machine.execPreemptVerify port ok s
  | .portLinkUp port => Sys2Proof.Machine.execPortLinkUp port s
  | .portLinkDown port => Sys2Proof.Machine.execPortLinkDown port s
  | .egressTimestamp port => Sys2Proof.Machine.execEgressTimestamp port s
  | .ppsInEdge => Sys2Proof.Machine.execPpsInEdge s
  | .ppsOutEdge => Sys2Proof.Machine.execPpsOutEdge s
  | .slowPathDeliver pkt => Sys2Proof.Machine.execSlowPathDeliver pkt s
  | .slowPathIrq die part => Sys2Proof.Machine.execSlowPathIrq die part s
  | .reinjectDescriptor die part => Sys2Proof.Machine.execReinjectDescriptor die part s
  | .stationLearnApply die => Sys2Proof.Machine.execStationLearnApply die s
  | .skidderPass => Sys2Proof.Machine.execSkidderPass s
  | .flowAger => Sys2Proof.Machine.execFlowAger s
  | .flowWriteback die index => Sys2Proof.Machine.execFlowWriteback die index s
  | .flowEccError index => Sys2Proof.Machine.execFlowEccError index s
  | .stationParity die index => Sys2Proof.Machine.execStationParity die index s
  | .parseParity pipe index => Sys2Proof.Machine.execParseParity pipe index s
  | .fpTraining port => Sys2Proof.Machine.execFpTraining port s
  | .fpDown port fecLost => Sys2Proof.Machine.execFpDown port fecLost s
  | .fpTrainingTimeout port => Sys2Proof.Machine.execFpTrainingTimeout port s
  | .hello port frame => Sys2Proof.Machine.execHello port frame s
  | .helloSend => Sys2Proof.Machine.execHelloSend s
  | .creditFrame port frame => Sys2Proof.Machine.execCreditFrame port frame s
  | .creditReturnTimer port => Sys2Proof.Machine.execCreditReturnTimer port s
  | .markSend => Sys2Proof.Machine.execMarkSend s
  | .markReceive port frame => Sys2Proof.Machine.execMarkReceive port frame s
  | .melazFrameForward port frame => Sys2Proof.Machine.execMelazFrameForward port frame s
  | .dataReceive port frame => Sys2Proof.Machine.execDataReceive port frame s
  | .dataSend pkt => Sys2Proof.Machine.execDataSend pkt s
  | .elect port frame => Sys2Proof.Machine.execElect port frame s
  | .electionStart => Sys2Proof.Machine.execElectionStart s
  | .electQuietExpiry => Sys2Proof.Machine.execElectQuietExpiry s
  | .claim port frame => Sys2Proof.Machine.execClaim port frame s
  | .assignJoin port frame => Sys2Proof.Machine.execAssignJoin port frame s
  | .assignTable port frame => Sys2Proof.Machine.execAssignTable port frame s
  | .routeTable port frame => Sys2Proof.Machine.execRouteTable port frame s
  | .routeCompute => Sys2Proof.Machine.execRouteCompute s
  | .statusReport port frame => Sys2Proof.Machine.execStatusReport port frame s
  | .beaconSend => Sys2Proof.Machine.execBeaconSend s
  | .beacon port frame => Sys2Proof.Machine.execBeacon port frame s
  | .managerLost => Sys2Proof.Machine.execManagerLost s
  | .fabricAlone => Sys2Proof.Machine.execFabricAlone s
  | .timeReq => Sys2Proof.Machine.execTimeReq s
  | .timeReqReceive port frame => Sys2Proof.Machine.execTimeReqReceive port frame s
  | .timeResp port frame => Sys2Proof.Machine.execTimeResp port frame s
  | .timeDegradedEnter => Sys2Proof.Machine.execTimeDegradedEnter s
  | .quadPropose port frame => Sys2Proof.Machine.execQuadPropose port frame s
  | .quadStage port frame => Sys2Proof.Machine.execQuadStage port frame s
  | .quadArm port frame => Sys2Proof.Machine.execQuadArm port frame s
  | .quadArmed port frame => Sys2Proof.Machine.execQuadArmed port frame s
  | .quadFlip port frame => Sys2Proof.Machine.execQuadFlip port frame s
  | .flipTimeReached => Sys2Proof.Machine.execFlipTimeReached s
  | .quadFlipNow port frame => Sys2Proof.Machine.execQuadFlipNow port frame s
  | .flipNowRepeat => Sys2Proof.Machine.execFlipNowRepeat s
  | .quadFlipped port frame => Sys2Proof.Machine.execQuadFlipped port frame s
  | .quadAbort port frame => Sys2Proof.Machine.execQuadAbort port frame s
  | .stageTimeout => Sys2Proof.Machine.execStageTimeout s
  | .armLate => Sys2Proof.Machine.execArmLate s
  | .flippedTimeout => Sys2Proof.Machine.execFlippedTimeout s
  | .quadRejoin port frame => Sys2Proof.Machine.execQuadRejoin port frame s
  | .mapAnnounce port frame => Sys2Proof.Machine.execMapAnnounce port frame s
  | .mapWithdraw port frame => Sys2Proof.Machine.execMapWithdraw port frame s
  | .mapPublish port frame => Sys2Proof.Machine.execMapPublish port frame s
  | .mapFetch port frame => Sys2Proof.Machine.execMapFetch port frame s
  | .postClaimPublish => Sys2Proof.Machine.execPostClaimPublish s
  | .searchReq port frame => Sys2Proof.Machine.execSearchReq port frame s
  | .shardPartDone part => Sys2Proof.Machine.execShardPartDone part s
  | .searchAnswer port frame => Sys2Proof.Machine.execSearchAnswer port frame s
  | .searchBounce port frame => Sys2Proof.Machine.execSearchBounce port frame s
  | .holderUnreachable device => Sys2Proof.Machine.execHolderUnreachable device s
  | .freezeFrame port frame => Sys2Proof.Machine.execFreezeFrame port frame s
  | .freezeIn => Sys2Proof.Machine.execFreezeIn s
  | .tallyLatch => Sys2Proof.Machine.execTallyLatch s
  | .tallyRecordWrite => Sys2Proof.Machine.execTallyRecordWrite s
  | .traceSync => Sys2Proof.Machine.execTraceSync s
  | .coreSync source pc => Sys2Proof.Machine.execCoreSync source pc s
  | .traceLoss die => Sys2Proof.Machine.execTraceLoss die s
  | .errorDetect e => Sys2Proof.Machine.execErrorDetect e s
  | .logFailure kind cls code => Sys2Proof.Machine.execLogFailure kind cls code s
  | .fatalPath => Sys2Proof.Machine.execFatalPath s
  | .dumpBudgetExpiry => Sys2Proof.Machine.execDumpBudgetExpiry s
  | .hbmScrub stack line kind => Sys2Proof.Machine.execHbmScrub stack line kind s
  | .mgmtRead off count => Sys2Proof.Machine.execMgmtRead off count s
  | .jtagInstruction code => Sys2Proof.Machine.execJtagInstruction code s
  | .fmcOverflow => Sys2Proof.Machine.execFmcOverflow s
  | .freezeInDeassert => Sys2Proof.Machine.execFreezeInDeassert s
  | .vfEnableChange numVfs enable => Sys2Proof.Machine.execVfEnableChange numVfs enable s
  | .histogramSample => Sys2Proof.Machine.execHistogramSample s
  | .traceRecordAdmit die => Sys2Proof.Machine.execTraceRecordAdmit die s
  | .tachNoEdge input => Sys2Proof.Machine.execTachNoEdge input s

end Sys2Proof.Machine
end

