-- ==== Sys2Proof/Machine/Tick.lean ====
section
/-! DEFINITION. Machine/Tick.lean: one CK4 edge with no command waiting (07, The device time base; 16 R791; 18 R907; 19
R978): DESIGN CHOICE (log entry 1). -/

namespace Sys2Proof.Machine

/-- A root period in 2^-16 ns: 0.3125 ns, four times that in COAST and RELOCK (07). -/
def State.rootPeriod (s : State) : Nat := if s.clkState = 3 || s.clkState = 4 then 81920 else 20480

/-- Time of one CK4 edge: 8 delivered root edges and those swallowed meanwhile (R344); before the first lock, one edge of
the reference. -/
def State.advance (s : State) : State :=
  if s.clkState ≤ 1 then { s with time := { s.time with base := s.time.base + 10 * 65536 } }
  else
    let before := s.rd P.clk R.swallowEdges
    let s1 := s.swallowTick
    let gone := s1.rd P.clk R.swallowEdges - before
    { s1 with time := { s1.time with ck4 := s1.time.ck4 + 1, base := s1.time.base + (8 + gone) * s.rootPeriod } }

/-- The correction of fabric time still to be spread: this edge's share (16 R791). -/
def State.spreadTick (s : State) : State :=
  if s.time.spreadEdges = 0 then s
  else
    let d := Int.tdiv s.time.spread s.time.spreadEdges
    { s with time := { s.time with corr := s.time.corr + d, spread := s.time.spread - d, spreadEdges := s.time.spreadEdges - 1 } }

/-- PPS_OUT falls at the end of its pulse (10 R469). -/
def State.ppsTick (s : State) : State :=
  if s.pins.ppsOut && decide (s.path.ptp.ppsHighUntil ≤ s.ns) then { s with pins := { s.pins with ppsOut := false } } else s

/-- Blocks with ENABLE 0 that have become idle (06 R271). -/
def State.idleTick (s : State) : State := s.withPhase (fun t => t.each bringOrder (fun u x => u.disableIdle x.1))

/-- One CK4 edge. -/
def State.tick (s : State) : State :=
  if !s.pins.pwrGood then s
  else
    let s1 := s.advance.spreadTick.ppsTick
    if s1.pins.perst then s1 else s1.dueFreezes.mirrorResume.cruiseStep.idleTick

end Sys2Proof.Machine
end

