-- ==== Sys2Proof/Safety.lean ====
section
/-! DEFINITION. Safety.lean: the invariants of the machine, and the terms the statements use. -/

namespace Sys2Proof.Machine

/-! ## Invariants -/

/-- Every memory is in its canonical form: addresses strictly rising, no byte listed that reads as an unlisted one. -/
def State.memOk (s : State) : Bool :=
  Memory.wf s.mem.dev && Memory.wf s.mem.host && Memory.wf s.mem.cm && Memory.wf s.mem.core

/-- The register cells are in strictly rising order of their positions. -/
def State.regsOk (s : State) : Bool := RegMap.wfFrom 0 s.regs

/-! ## Frames -/

/-- A part of the state: due is the messages of interrupt groups that are due, trace the buffered trace records, shares the
partitions' shares of counters; host and obs are the rest of their records. -/
inductive Comp where
  | pending | regs | part | time | pins | mem | host | due | fe | mods | fab | pwr | thm | obs | trace | shares | flt | out | free
  | clk | rst | trust | rules | nse | path | tab
  deriving DecidableEq, Repr

/-- A part of the state is the same in both. -/
def Comp.same (s t : State) : Comp → Prop
  | .pending => t.pending = s.pending
  | .regs => t.regs = s.regs
  | .part => t.part = s.part
  | .time => t.time = s.time
  | .pins => t.pins = s.pins
  | .mem => t.mem = s.mem
  | .host => t.host.funcs = s.host.funcs ∧ t.host.numVfs = s.host.numVfs ∧ t.host.vfEnable = s.host.vfEnable ∧
      t.host.shadows = s.host.shadows
  | .due => t.host.dueGroups = s.host.dueGroups
  | .fe => t.fe = s.fe
  | .mods => t.mods = s.mods
  | .fab => t.fab = s.fab
  | .pwr => t.pwr = s.pwr
  | .thm => t.thm = s.thm
  | .obs => t.obs = { s.obs with bufs := t.obs.bufs, shares := t.obs.shares }
  | .trace => t.obs.bufs = s.obs.bufs
  | .shares => t.obs.shares = s.obs.shares
  | .flt => t.flt = s.flt
  | .out => t.out = s.out
  | .free => t.free = s.free
  | .clk => t.clk = s.clk
  | .rst => t.rst = s.rst
  | .trust => t.trust = s.trust
  | .rules => t.rules = s.rules
  | .nse => t.nse = s.nse
  | .path => t.path = s.path
  | .tab => t.tab = s.tab

/-- From s to t nothing outside the listed parts changes. -/
def State.sameBut (s t : State) (l : List Comp) : Prop := ∀ c, c ∉ l → c.same s t

/-! ## Registers -/

/-- From s to t no register field changes but those at the positions of the listed page and field pairs. -/
def State.regsBut (s t : State) (l : List (Nat × Fld)) : Prop :=
  ∀ (p : Nat) (f : Fld), (∀ x ∈ l, 8 * p + f.pos ≠ 8 * x.1 + x.2.pos) → t.rd p f = s.rd p f

/-- What the loss of a trace record changes (18 R918). -/
def traceRegs : List (Nat × Fld) := [(P.obsTrace, R.trLost), (P.obs, R.pgSentinel 4), (P.obsTrace, R.pgIrqStatus)]

/-- What an error recorded on page p changes (06 R269 and the common page header). -/
def errRegs (p : Nat) : List (Nat × Fld) := [(p, R.pgErrCodeCode), (p, R.pgErrCodeCount), (p, R.pgIrqStatus)]

/-- What a change of the root clock's reference changes of CLK's registers (07 R328 to R336). -/
def rootRegs : List (Nat × Fld) :=
  [(P.clk, R.clkStateState), (P.clk, R.clkStateRefSrc), (P.clk, R.pgStatusState), (P.clk, R.pgStatusDegraded), (P.clk, R.pgIrqStatus),
    (P.clk, R.pgSentinel 1)]

/-- No fatal path runs in s, and in t one runs for this code, with ports and work stopped and FAULT_N asserted (19, The fatal path). -/
def State.turnsFatal (s t : State) (code : Nat) : Prop :=
  s.flt.fatal = none → ∃ f, t.flt.fatal = some f ∧ f.code = code ∧ f.detect = s.ns ∧ t.rst.stopped = true ∧ t.pins.faultN = true

/-- An alarm of the last readings stands in t: THM_MAX is the highest of them, and one at or above THM_ALARM sets the alarm and engages
the floor limiter (17 R853, R854). -/
def State.alarmed (t : State) : Prop :=
  (t.temps = [] → t.rd P.thm R.thmMaxTemp = 0x8000) ∧
  (t.temps ≠ [] → ∃ x ∈ t.temps, (∀ y ∈ t.temps, y.2 ≤ x.2) ∧ t.rd P.thm R.thmMaxTemp = ofS 16 x.2) ∧
  ((∃ x ∈ t.temps, (t.rd P.thm R.thmAlarm : Int) ≤ x.2) →
    t.on P.thm R.thmStatusAlarm = true ∧ t.on P.thm R.thmStatusFloor = true ∧ (t.rd P.thm R.pgIrqStatus).testBit 8 = true)

/-- What the resets of every kind leave: no queue, task, run, packet, search or waiting frame (08 R368). -/
def State.bare (t : State) : Prop :=
  t.fe = FeSt.reset ∧ t.fab = FabSt.reset ∧ t.path.pkts = [] ∧ t.nse.searches = [] ∧ t.nse.parts = [] ∧ t.rules = RuleSt.reset ∧
    t.mods.slots = [] ∧ t.flt.fatal = none

/-! ## Entries -/

/-- Ring position i of queue q holds a granted entry with command code c that no CANCEL has made void. -/
def State.takes (s : State) (q i c : Nat) (e : Entry) : Prop := s.entry q i = some e ∧ e.st = .granted ∧ e.void = false ∧ e.code = c

/-- The entry at ring position i of queue q has ended with a status code and waits for its turn to retire. -/
def State.ended (s : State) (q i status : Nat) : Prop := ∃ e, s.entry q i = some e ∧ e.st = .finished ∧ e.status = status

/-- It has ended with a status code and a DETAIL. -/
def State.endedWith (s : State) (q i status detail : Nat) : Prop :=
  ∃ e, s.entry q i = some e ∧ e.st = .finished ∧ e.status = status ∧ e.detail = detail

/-- From s to t the front end changes at ring position i of queue q alone: every other queue, the queue's control block, every other
entry, the slots, tasks, input queues and invocations are as before. -/
def State.onlyEntry (s t : State) (q i : Nat) : Prop :=
  t.fe = { s.fe with queues := t.fe.queues } ∧ (∀ p, p ≠ q → t.queue p = s.queue p) ∧
  (t.queue q).map (·.qcb) = (s.queue q).map (·.qcb) ∧ ∀ j, j ≠ i → t.entry q j = s.entry q j

/-- What a command that ends its entry changes of the registers: the front end's progress, and a trace record's loss. -/
def entryRegs : List (Nat × Fld) := (P.fe, R.pgProgress) :: traceRegs

/-! ## Frames of the fabric -/

/-- Fabric port p of eight takes frame fr, which is whole, of a known kind and for this device alone (16 R761, R763). -/
def State.hears (s : State) (p : Nat) (fr : MFrame) : Prop :=
  ∃ x, s.fport p = some x ∧ 3 ≤ x.st ∧ x.st ≠ 6 ∧ s.fab.ports.length = 8 ∧ s.rst.stopped = false ∧ s.gated (P.fport p) = false ∧
    fr.fcsOk = true ∧ badFrame fr = false ∧ fr.dst = s.myId ∧ fr.dst ≠ 0xFE

/-- Fabric port p of eight takes frame fr, which is whole and of a known kind, whomever it is for (16 R763). -/
def State.hearsAny (s : State) (p : Nat) (fr : MFrame) (x : FPort) : Prop :=
  s.fport p = some x ∧ 3 ≤ x.st ∧ x.st ≠ 6 ∧ s.fab.ports.length = 8 ∧ s.rst.stopped = false ∧ s.gated (P.fport p) = false ∧
    fr.fcsOk = true ∧ badFrame fr = false

/-- A frame with this destination and body is on a wire or waits at a port. -/
def State.sent (s : State) (dst : Nat) (b : MBody) : Prop :=
  (∃ x ∈ s.out.fab, x.2.2.dst = dst ∧ x.2.2.body = b) ∨ (∃ x ∈ s.fab.ports, ∃ f ∈ x.queue, f.dst = dst ∧ f.body = b)

/-- What frames that arrive and leave change of the registers: frame counts, drops for want of a route, a trace record's loss. -/
def fabRegs : List (Nat × Fld) :=
  (List.range 8).map (fun f => (P.fport f, R.fpTxFrames)) ++ (List.range 8).map (fun f => (P.fport f, R.fpRxFrames)) ++
    (P.fab, R.fabNorouteDrop) :: traceRegs

/-! ## Operations -/

/-- From s to t no register field changes outside BAR0 offsets lo to hi, but at the listed positions. -/
def State.regsOff (s t : State) (lo hi : Nat) (l : List (Nat × Fld)) : Prop :=
  ∀ (p : Nat) (f : Fld), (8 * p + f.pos < 8 * lo ∨ 8 * hi ≤ 8 * p + f.pos) → (∀ x ∈ l, 8 * p + f.pos ≠ 8 * x.1 + x.2.pos) → t.rd p f = s.rd p f

/-- What an operation that retires changes of the registers outside the clusters' pages: its slot's progress and what an entry's end
changes. -/
def State.opRegs (s t : State) (w : Work) : Prop := s.regsOff t 0x100000 0x200000 ((P.feSlot, R.slotProgress w.slot) :: entryRegs)

/-- A single operation k of entry i of queue q may run: it passes its checks, no input holds an uncorrectable error, and no reset of
its slot waits for it. -/
def State.mayRun (s : State) (q i code : Nat) (k : Work) : Prop :=
  s.work (.entry q i) code = some k ∧ s.opReject k = none ∧ s.readsPoison k = false ∧ ∀ sl, s.slot k.slot = some sl → sl.resetting = false

/-- The state in which a single operation computes: its entry has started. -/
def State.began (s : State) (q i : Nat) (k : Work) : State := (s.draw.startEntry q i).stepTrace k 0x28 k.epoch

/-- Every single operation of a kind that body does not fail ends with SUCCESS; memory is as body's output leaves it, and nothing else
changes but counts, the entry and its trace. -/
def SingleRuns (c : WRef → Instr) (code : Nat) (body : State → Work → OpOut) : Prop :=
  ∀ (q i : Nat) (s : State) (k : Work), s.mayRun q i code k → (body (s.began q i k) k).fail = none →
    ∃ t, exec (c (.entry q i)) s = .next t ∧ t.ended q i St.success ∧ s.onlyEntry t q i ∧
      t.mem = (s.putAll (body (s.began q i k) k)).mem ∧ s.opRegs t k ∧
      s.sameBut t [.regs, .mem, .due, .fe, .obs, .trace, .shares, .free]

/-- Every single operation of a kind that body fails ends with that status and the DETAIL of an execution fault. -/
def SingleFails (c : WRef → Instr) (code : Nat) (body : State → Work → OpOut) : Prop :=
  ∀ (q i st : Nat) (s : State) (k : Work), s.mayRun q i code k → (body (s.began q i k) k).fail = some st →
    ∃ t, exec (c (.entry q i)) s = .next t ∧ t.endedWith q i st k.faultDetail ∧ s.onlyEntry t q i ∧
      s.sameBut t [.regs, .mem, .due, .fe, .obs, .trace, .shares, .free]

/-- Step j of invocation v, which has not failed, ends while another step still runs: the invocation goes on after it. -/
def Inv.goesOn (v : Inv) (j : Nat) : Prop := v.fail = none ∧ ∃ m x, m ≠ j ∧ v.step m = some x ∧ x.st = .started

/-- From s to t step j of invocation n is done and its other steps, and every other invocation, are as before. -/
def State.onlyStep (s t : State) (n j : Nat) (v : Inv) : Prop :=
  (∃ v', t.inv n = some v' ∧ (v'.step j).map (·.st) = some .done ∧ v'.fail = none ∧ ∀ m, m ≠ j → v'.step m = v.step m) ∧
  ∀ m, m ≠ n → t.inv m = s.inv m

/-- Every started step of a kind that body does not fail retires. -/
def StepRuns (c : WRef → Instr) (code : Nat) (body : State → Work → OpOut) : Prop :=
  ∀ (n j : Nat) (s : State) (v : Inv) (k : Work), s.inv n = some v → s.stepWork n j code = some k → k.cluster < 16 → v.goesOn j →
    s.readsPoison k = false → (body s k).fail = none →
    ∃ t, exec (c (.step n j)) s = .next t ∧ s.onlyStep t n j v ∧ t.mem = (s.putAll (body s k)).mem ∧ t.fe.queues = s.fe.queues ∧
      s.opRegs t k ∧ s.sameBut t [.regs, .mem, .due, .fe, .obs, .trace, .shares, .free]

end Sys2Proof.Machine
end

