-- ==== Sys2Proof/Certificates/Slice0/Obligations.lean ====
section
/-! DEFINITION. The statements for the provers. -/

section

open Sys2Proof Sys2Proof.Machine

/-- A step runs the command at the front of the queue, with the rest of the queue waiting (log entry 22). -/
def Obligations.StepRunsFrontCommand : Prop :=
  ∀ (c : Instr) (rest : List Instr) (s : State),
    step { s with pending := c :: rest } = exec c { s with pending := rest }

/-- The machine right after a cold reset (08 R352, R368): canonical form, HBM zero, no page READY, nothing in progress. Its part is
the model's choice (log entry 2). -/
def Obligations.ResetIsInForm : Prop :=
  State.reset.regsOk = true ∧ State.reset.memOk = true ∧
  (∀ a, Memory.get State.reset.mem.dev a = 0) ∧
  (∀ p, State.reset.ready p = false) ∧
  (∀ q, State.reset.queue q = none) ∧
  State.reset.fe.tasks = [] ∧ State.reset.fe.invs = [] ∧
  State.reset.path.pkts = [] ∧ State.reset.pending = []

/-- Every step keeps the canonical form of registers and of every memory. -/
def Obligations.EveryStepKeepsForm : Prop :=
  ∀ (s t : State), s.regsOk = true → s.memOk = true → step s = .next t →
    t.regsOk = true ∧ t.memOk = true

/-- No command and no clock edge, a reset of any kind included, lowers FUSE_SVN, clears a revocation bit, or changes the ordering code
or the root key hashes (06 R303; 09 Secure boot: fuses). -/
def Obligations.EveryStepKeepsFuses : Prop :=
  ∀ (s t : State), step s = .next t →
    t.part.code = s.part.code ∧ t.part.rootHash = s.part.rootHash ∧ s.part.fuseSvn ≤ t.part.fuseSvn ∧
    (∀ k, s.part.revoked.testBit k = true → t.part.revoked.testBit k = true)

/-- The block never stops: every step answers a next state, whose queue of commands is the rest of the queue before it
(the queue is the model's own, log entry 22). -/
def Obligations.EveryStepTakesOneCommand : Prop :=
  ∀ (s : State), ∃ t, step s = .next t ∧ t.pending = s.pending.drop 1

/-- SQ_TAIL_DB (02 R46, R49): the stores of the command are what host software wrote before the doorbell. -/
def Obligations.SubmissionDoorbell : Prop :=
  ∀ (fn q val : Nat) (stores : List (Nat × Bytes)) (s : State) (r : Queue),
    q < 1024 → s.mayRing fn q = true → s.queue q = some r → s.ready P.fe = true → r.qcb.state = 1 →
    val < r.qcb.sqSize → r.ents.length + (val + r.qcb.sqSize - r.qcb.sqTail) % r.qcb.sqSize ≤ r.qcb.sqSize - 1 →
    ∃ t, exec (.sqTailDb fn q val stores) s = .next t ∧
      t.queue q = some { r with
        ents := r.ents ++ (List.range ((val + r.qcb.sqSize - r.qcb.sqTail) % r.qcb.sqSize)).map (fun k =>
          newEntry ((r.qcb.sqTail + k) % r.qcb.sqSize) s.ns)
        qcb := { r.qcb with sqTail := val } } ∧
      (∀ p, p ≠ q → t.queue p = s.queue p) ∧
      t.mem = (s.hostStores stores).mem ∧
      s.regsBut t ((P.fe, R.feQcbMiss) :: traceRegs) ∧
      s.sameBut t [.regs, .mem, .due, .fe, .trace]

/-- SQ_TAIL_DB discarded (02 R47), with the counters running (18 R903). -/
def Obligations.SubmissionDoorbellDiscarded : Prop :=
  ∀ (fn q val : Nat) (stores : List (Nat × Bytes)) (s : State) (r : Queue),
    s.regsOk = true → s.frozen = false →
    q < 1024 → s.mayRing fn q = true → s.queue q = some r → s.ready P.fe = true → r.qcb.state = 1 →
    (r.qcb.sqSize ≤ val ∨ r.qcb.sqSize - 1 < r.ents.length + (val + r.qcb.sqSize - r.qcb.sqTail) % r.qcb.sqSize) →
    ∃ t, exec (.sqTailDb fn q val stores) s = .next t ∧
      t.queue q = some { r with qcb := { r.qcb with dbReject := (r.qcb.dbReject + 1) % 2 ^ 32 } } ∧
      t.rd P.fe R.feDbReject =
        (s.rd P.fe R.feDbReject + 1) % 2 ^ R.feDbReject.w ∧
      (∀ p, p ≠ q → t.queue p = s.queue p) ∧
      s.sameBut t [.regs, .mem, .fe]

/-- CQ_HEAD_DB (02 R42, R93), SLOT_MAP (R52), SLOT_UNMAP of an empty ring (R55). -/
def Obligations.CompletionDoorbellAndSlots : Prop :=
  (∀ (fn q val : Nat) (s : State) (r : Queue), q < 1024 → s.mayRing fn q = true →
    s.queue q = some r → s.ready P.fe = true → r.qcb.state = 1 → val < r.qcb.cqSize →
    ∃ t, exec (.cqHeadDb fn q val) s = .next t ∧
      t.queue q = some { r with qcb := { r.qcb with cqHead := val } } ∧ (∀ p, p ≠ q → t.queue p = s.queue p) ∧
      s.regsBut t [(P.fe, R.feQcbMiss)] ∧ s.sameBut t [.regs, .fe]) ∧
  (∀ (k q : Nat) (s : State) (sl : Slot) (r : Queue), k ≠ 0 → s.slot k = some sl →
    sl.queue = none → sl.pinned = none → sl.resetting = false → s.nextQueue = some q → s.queue q = some r →
    ∃ t, exec (.slotMap k) s = .next t ∧
      t.slot k = some { sl with queue := some q, mappedAt := s.ns } ∧ (∀ j, j ≠ k → t.slot j = s.slot j) ∧
      t.queue q = some { r with qcb := { r.qcb with slot := k } } ∧ (∀ p, p ≠ q → t.queue p = s.queue p) ∧
      s.regsBut t ((P.fe, R.feQcbMiss) :: traceRegs) ∧
      s.sameBut t [.regs, .due, .fe, .trace]) ∧
  (∀ (k q : Nat) (s : State) (sl : Slot) (r : Queue), k ≠ 0 → s.slot k = some sl →
    sl.queue = some q → sl.pinned = none → sl.resetting = false → s.queue q = some r → r.ents = [] →
    ∃ t, exec (.slotUnmap k) s = .next t ∧
      t.slot k = some { sl with queue := none } ∧ (∀ j, j ≠ k → t.slot j = s.slot j) ∧
      t.queue q = some { r with qcb := { r.qcb with slot := 0xFFFF } } ∧ (∀ p, p ≠ q → t.queue p = s.queue p) ∧
      s.regsBut t traceRegs ∧ s.sameBut t [.regs, .due, .fe, .trace])

/-- GRANT (02 R54, R56, R60): a descriptor in memory without an uncorrectable error, checked by State.descriptorBad. -/
def Obligations.GrantTakesTheHead : Prop :=
  ∀ (k q : Nat) (s : State) (sl : Slot) (r : Queue) (h : Entry),
    s.slot k = some sl → sl.queue = some q → sl.resetting = false → s.rst.stopped = false → s.ready P.fe = true →
    s.queue q = some r → r.head = some h → s.canFetch q r = true → s.eligible q = true →
    s.spPoisoned r.qcb.part (r.qcb.sqBase + 64 * h.idx) 64 = false →
    ((s.takeHead k q r h).descriptorBad q (s.ringDesc r h.idx) = none →
      ∃ t e, exec (.grant k) s = .next t ∧ s.entry q h.idx = some e ∧
        t.entry q h.idx = some { e with
          st := .granted, granted := true, slot := k, desc := s.ringDesc r h.idx, epoch := s.epoch, gen := s.gen } ∧
        (t.queue q).map (fun x => x.qcb.sqHead) = some ((h.idx + 1) % r.qcb.sqSize) ∧
        (∀ p, p ≠ q → t.queue p = s.queue p) ∧ t.mem = s.mem ∧ s.sameBut t [.regs, .due, .fe, .trace]) ∧
    (∀ st d, (s.takeHead k q r h).descriptorBad q (s.ringDesc r h.idx) = some (st, d) → st ≠ St.badAddress →
      ∃ t, exec (.grant k) s = .next t ∧ t.endedWith q h.idx st d ∧
        (∀ p, p ≠ q → t.queue p = s.queue p) ∧ t.mem = s.mem ∧ s.sameBut t [.regs, .due, .fe, .trace])

/-- The privilege check (02 R59, R60, R62): header encodings come first, then privilege. -/
def Obligations.PrivilegedCommandsOnQueueZero : Prop :=
  (∀ (s : State) (q : Nat) (d : Bytes), q ≠ 0 → codePriv (fieldLE d 0 1) = true →
    reservedByte d (headFields d) 0 16 = none → (fieldLE d 4 2).testBit 15 = false →
    s.descriptorBad q d = some (St.priv, fieldLE d 0 1)) ∧
  (∀ (s : State) (q : Nat) (d : Bytes), codeAssigned (fieldLE d 0 1) = false →
    s.descriptorBad q d = some (St.badDescriptor, 0))

/-- DESCRIPTOR_FETCH_FAIL (09 R407) of one descriptor; ENTRY_RETIRE (02 R90 to R92, R99) of a head that is no launch, on a queue that is ACTIVE. -/
def Obligations.LostDescriptorsAndRetirement : Prop :=
  (∀ (q : Nat) (s : State) (r : Queue) (h : Entry), s.queue q = some r →
    spaceHost r.qcb.sqBase = true → r.head = some h →
    ∃ t, exec (.descriptorFetchFail q 1) s = .next t ∧
      t.endedWith q h.idx St.memoryError 0xFFFF ∧
      (∀ p, p ≠ q → t.queue p = s.queue p) ∧ t.mem = s.mem ∧ s.sameBut t [.regs, .due, .fe, .free]) ∧
  (∀ (q : Nat) (s : State) (r : Queue) (e : Entry) (rest : List Entry),
    s.queue q = some r → r.ents = e :: rest → e.st = .finished → r.qcb.state = 1 → r.qcb.cqFull = false →
    spaceHost r.qcb.cqBase = false → e.code ≠ 0x41 → (∀ x ∈ s.fe.asyncs, x.1 ≠ q) →
    ∃ t, exec (.entryRetire q) s = .next t ∧
      t.queue q = some { r with
        ents := rest
        qcb := { r.qcb with
          cqTail := (r.qcb.cqTail + 1) % r.qcb.cqSize
          phase := if (r.qcb.cqTail + 1) % r.qcb.cqSize = 0 then 1 - r.qcb.phase else r.qcb.phase
          retired := (r.qcb.retired + 1) % 2 ^ 64 } } ∧
      (∀ p, p ≠ q → t.queue p = s.queue p) ∧
      t.mem = (s.partWrite r.qcb.part (spaceAddr r.qcb.cqBase + 32 * r.qcb.cqTail) (s.entryCe r e)).mem ∧
      s.sameBut t [.regs, .mem, .host, .due, .fe, .trace, .out])

/-- NOP (0x40), CANCEL (0x44; 02 R104 to R107) of one entry of another queue, VOID_OPERATION (R108). -/
def Obligations.SimpleEntryCommands : Prop :=
  (∀ (q i : Nat) (s : State) (e : Entry), s.takes q i 0x40 e →
    ∃ t, exec (.nop q i) s = .next t ∧ t.ended q i St.success ∧ s.onlyEntry t q i ∧ s.regsBut t entryRegs ∧
      s.sameBut t [.regs, .due, .fe, .trace, .free]) ∧
  (∀ (q i : Nat) (s : State) (e x : Entry) (r : Queue), s.takes q i 0x44 e → e.fld 16 2 % 1024 ≠ q → e.fld 20 2 = 1 →
    s.queue (e.fld 16 2 % 1024) = some r → s.entry (e.fld 16 2 % 1024) (e.fld 18 2 % r.qcb.sqSize) = some x →
    (x.st = .pending →
      ∃ t, exec (.cancel q i) s = .next t ∧ t.endedWith q i St.success 1 ∧
        t.endedWith (e.fld 16 2 % 1024) (e.fld 18 2 % r.qcb.sqSize) St.cancelled 0 ∧
        (∀ p, p ≠ q → p ≠ e.fld 16 2 % 1024 → t.queue p = s.queue p) ∧ s.sameBut t [.regs, .due, .fe, .trace, .free]) ∧
    (x.st = .granted → x.void = false →
      ∃ t, exec (.cancel q i) s = .next t ∧ t.endedWith q i St.success 65536 ∧
        t.entry (e.fld 16 2 % 1024) (e.fld 18 2 % r.qcb.sqSize) = some { x with void := true } ∧
        (∀ p, p ≠ q → p ≠ e.fld 16 2 % 1024 → t.queue p = s.queue p) ∧ s.sameBut t [.regs, .due, .fe, .trace])) ∧
  (∀ (q i : Nat) (s : State) (e : Entry), s.entry q i = some e → e.st = .granted → e.void = true →
    ∃ t, exec (.voidOperation q i) s = .next t ∧ t.endedWith q i St.cancelledAtGrant 0 ∧ s.onlyEntry t q i ∧
      s.regsBut t [(P.fe, R.pgProgress), (P.fe, R.feCancelAtGrant)] ∧ s.sameBut t [.regs, .fe])

/-- COPY (0x45; 02 R101): SRC 16, DST 24, LENGTH 32. -/
def Obligations.CopyMovesBytes : Prop :=
  ∀ (q i : Nat) (s : State) (e : Entry), s.takes q i 0x45 e → s.hostGo q [e.fld 16 8, e.fld 24 8] = true →
    s.spPoisoned (s.qPart q) (e.fld 16 8) (e.fld 32 4) = false →
    ∃ t, exec (.copy q i) s = .next t ∧ t.ended q i St.success ∧ s.onlyEntry t q i ∧
      t.mem = (s.spWrite (s.qPart q) (e.fld 24 8) 0 (s.spRead (s.qPart q) (e.fld 16 8) (e.fld 32 4))).mem ∧
      s.sameBut t [.regs, .mem, .due, .fe, .trace, .free]

/-- QUEUE_CREATE (0x50; 02 R81, R90), QUEUE_DESTROY of mode DRAIN (R82) and ABORT (R83). -/
def Obligations.QueueCommands : Prop :=
  (∀ (i : Nat) (s : State) (e : Entry), s.takes 0 i 0x50 e → 0 < e.fld 16 2 → e.fld 16 2 < 1024 →
    (s.startEntry 0 i).queueBad e.desc = none →
    ∃ t, exec (.queueCreate i) s = .next t ∧ t.ended 0 i St.success ∧
      t.queue (e.fld 16 2) = some ⟨⟨e.fld 24 8, e.fld 32 8, e.fld 20 1 % 32, e.fld 21 1 % 32, e.fld 19 1 % 8, e.fld 18 1 % 16, 0, 0, 0, 0,
        e.fld 22 2 % 2048, e.fld 40 1, 1, 1, e.fld 41 1 % 2, 0, 0, 0, 0xFFFF, 0⟩, [], none⟩ ∧
      (∀ p, p ≠ 0 → p ≠ e.fld 16 2 → t.queue p = s.queue p) ∧ (∀ j, j ≠ i → t.entry 0 j = s.entry 0 j) ∧
      s.regsBut t entryRegs ∧ s.sameBut t [.regs, .due, .fe, .trace, .free]) ∧
  (∀ (i q : Nat) (s : State) (e : Entry) (r : Queue), s.takes 0 i 0x51 e → q = e.fld 16 2 % 1024 → q ≠ 0 → e.fld 18 1 % 2 = 0 →
    s.queue q = some r → (s.startEntry 0 i).queueBad e.desc = none →
    (r.ents ≠ [] → ∃ t, exec (.queueDestroyDrain i) s = .next t ∧
      t.queue q = some { r with destroyer := some i, qcb := { r.qcb with state := 2 } } ∧
      (∀ p, p ≠ 0 → p ≠ q → t.queue p = s.queue p) ∧ s.regsBut t traceRegs ∧ s.sameBut t [.regs, .due, .fe, .trace]) ∧
    (r.ents = [] → ∃ t, exec (.queueDestroyDrain i) s = .next t ∧ t.queue q = none ∧ t.ended 0 i St.success ∧
      (∀ p, p ≠ 0 → p ≠ q → t.queue p = s.queue p) ∧ s.sameBut t [.regs, .due, .fe, .trace, .free])) ∧
  (∀ (i q : Nat) (s : State) (e : Entry) (r : Queue), s.takes 0 i 0x51 e → q = e.fld 16 2 % 1024 → q ≠ 0 → e.fld 18 1 % 2 = 1 →
    s.queue q = some r → r.ents ≠ [] → (r.ents.map (·.idx)).Nodup → (s.startEntry 0 i).queueBad e.desc = none →
    ∃ t u, exec (.queueDestroyAbort i) s = .next t ∧ t.queue q = some u ∧ u.qcb = { r.qcb with state := 2 } ∧ u.destroyer = some i ∧
      (∀ x ∈ u.ents, x.st ≠ .pending) ∧ u.ents.map (·.idx) = r.ents.map (·.idx) ∧
      (∀ p, p ≠ 0 → p ≠ q → t.queue p = s.queue p) ∧ s.sameBut t [.regs, .due, .fe, .trace, .free])

/-- LAUNCH_GRAPH (02 R64 to R72) and LAUNCH_PERSISTENT (R73 to R77): the checks are State.launchRun's. -/
def Obligations.Launches : Prop :=
  (∀ (q i : Nat) (s : State) (e : Entry) (v : Inv), s.grantedCmd q i 0x41 = some e → s.launchPoison (s.qPart q) e = false →
    s.launchRun q i e noIq = .ok v →
    ∃ t, exec (.launchGraph q i) s = .next t ∧ t.inv s.fe.nextInv = some v ∧ t.fe.nextInv = s.fe.nextInv + 1 ∧
      (∀ n, n ≠ s.fe.nextInv → t.inv n = s.inv n) ∧
      t.entry q i = some { e with st := .started, start := some s.ns, epoch := v.epoch, gen := s.gen } ∧
      (∀ p, p ≠ q → t.queue p = s.queue p) ∧ t.mods = (s.drainBy v.epoch 1).mods ∧
      s.regsBut t traceRegs ∧ s.sameBut t [.regs, .due, .fe, .mods, .trace]) ∧
  (∀ (q i k : Nat) (s : State) (e : Entry) (v : Inv), s.grantedCmd q i 0x42 = some e →
    s.iqBase (s.qPart q) ≤ e.fld 44 2 % 256 → e.fld 44 2 % 256 < s.iqBase (s.qPart q) + s.iqCount (s.qPart q) →
    s.launchPoison (s.qPart q) e = false → s.launchRun q i e (e.fld 44 2 % 256) = .ok v → aget s.fe.tasks (e.fld 44 2 % 256) = none →
    (s.fe.tasks.filter (fun (x : Nat × Task) => x.2.part = s.qPart q)).length < s.maxTasks (s.qPart q) → s.pinSlot = some k →
    s.cmUsed ((v.clusters.head?).getD 0) + 256 * 2 ^ (e.fld 46 1 % 32) ≤ 2 ^ 24 →
    ∃ t, exec (.launchPersistent q i) s = .next t ∧ t.endedWith q i St.success (k + e.fld 44 2 % 256 * 256) ∧
      aget t.fe.tasks (e.fld 44 2 % 256) = some {
        queue := q, index := i, slot := k, part := s.qPart q, mslot := e.mslot, entryPt := e.point,
        params := (s.launchBlock (s.qPart q) e).1, patches := (s.launchBlock (s.qPart q) e).2, mask := e.fld 42 2,
        maxInflight := e.fld 47 1 % 128, tag := e.fld 2 2, stopping := 0, left := 0, stopBy := none } ∧
      (t.slot k).map (·.pinned) = some (some (e.fld 44 2 % 256)) ∧
      aget t.fe.iqs (e.fld 44 2 % 256) =
        some ⟨some k, e.fld 46 1 % 32, ((aget s.fe.iqs (e.fld 44 2 % 256)).map (fun (x : InQueue) => x.items)).getD []⟩ ∧
      (∀ p, p ≠ q → t.queue p = s.queue p) ∧ s.regsBut t entryRegs ∧ s.sameBut t [.regs, .due, .fe, .trace])

/-- STOP_PERSISTENT (0x43; 02 R79, R80) of a task of the queue's own partition. -/
def Obligations.StoppingTasks : Prop :=
  (∀ (q i n : Nat) (s : State) (e : Entry) (k : Task), s.takes q i 0x43 e → e.fld 18 1 % 2 = 0 →
    aget s.fe.tasks (e.fld 16 2 % 256) = some k → (q = 0 ∨ k.part = s.qPart q) → k.stopping = 0 →
    n = ((aget s.fe.iqs (e.fld 16 2 % 256)).map (fun (x : InQueue) => x.items.length)).getD 0 →
    ((n ≠ 0 ∨ s.inflight (e.fld 16 2 % 256) ≠ 0) →
      ∃ t, exec (.stopPersistentDrain q i) s = .next t ∧
        aget t.fe.tasks (e.fld 16 2 % 256) = some { k with stopping := 1, left := n, stopBy := some (q, i) } ∧
        (t.entry q i).map (·.st) = some .started ∧ s.regsBut t traceRegs ∧ s.sameBut t [.regs, .due, .fe, .trace]) ∧
    (n = 0 → s.inflight (e.fld 16 2 % 256) = 0 →
      ∃ t, exec (.stopPersistentDrain q i) s = .next t ∧ aget t.fe.tasks (e.fld 16 2 % 256) = none ∧ t.ended q i St.success ∧
        (∀ sl, s.slot k.slot = some sl → t.slot k.slot = some { sl with pinned := none }) ∧
        s.regsBut t entryRegs ∧ s.sameBut t [.regs, .due, .fe, .trace, .free])) ∧
  (∀ (q i : Nat) (s : State) (e : Entry) (k : Task), s.takes q i 0x43 e → e.fld 18 1 % 2 = 1 →
    aget s.fe.tasks (e.fld 16 2 % 256) = some k → (q = 0 ∨ k.part = s.qPart q) → k.stopping = 0 →
    (s.inflight (e.fld 16 2 % 256) ≠ 0 →
      ∃ t, exec (.stopPersistentDetach q i) s = .next t ∧
        aget t.fe.tasks (e.fld 16 2 % 256) = some { k with stopping := 2, left := 0, stopBy := some (q, i) } ∧
        (t.entry q i).map (·.st) = some .started ∧ s.regsBut t traceRegs ∧ s.sameBut t [.regs, .due, .fe, .trace]) ∧
    (s.inflight (e.fld 16 2 % 256) = 0 →
      ∃ t, exec (.stopPersistentDetach q i) s = .next t ∧ aget t.fe.tasks (e.fld 16 2 % 256) = none ∧ t.ended q i St.success ∧
        (∀ sl, s.slot k.slot = some sl → t.slot k.slot = some { sl with pinned := none }) ∧
        s.regsBut t entryRegs ∧ s.sameBut t [.regs, .due, .fe, .trace, .free]))

/-- SLOT_RESET (0x52; 02 R85) and SLOT_RESET_DRAIN_TIMEOUT (R87). -/
def Obligations.SlotResets : Prop :=
  (∀ (i q : Nat) (s : State) (e : Entry) (sl : Slot) (r : Queue), s.takes 0 i 0x52 e → s.slot (e.fld 16 1 % 32) = some sl →
    sl.queue = some q → q ≠ 0 → sl.pinned = none → s.queue q = some r →
    (∀ x ∈ s.fe.invs, x.2.slot ≠ e.fld 16 1 % 32 ∧ x.2.queue ≠ q) →
    ∃ t, exec (.slotReset i) s = .next t ∧ t.ended 0 i St.success ∧
      (∀ x ∈ r.ents, (x.st = .granted ∨ x.st = .started) → t.endedWith q x.idx St.slotReset 0) ∧
      (t.slot (e.fld 16 1 % 32)).map (fun x => (x.resetting, x.resetBy)) = some (false, none) ∧
      (∀ p, p ≠ 0 → p ≠ q → t.queue p = s.queue p) ∧ t.mem = s.mem ∧
      s.sameBut t [.regs, .due, .fe, .trace, .free]) ∧
  (∀ (k i : Nat) (s : State) (sl : Slot) (e : Entry), s.slot k = some sl → sl.resetting = true → sl.resetAt + 2 ^ 19 ≤ s.time.ck4 →
    sl.resetBy = some i → s.entry 0 i = some e →
    ∃ t, exec (.slotResetDrainTimeout k) s = .next t ∧ t.ended 0 i St.internal ∧
      s.sameBut t [.regs, .pins, .due, .fe, .mods, .fab, .obs, .trace, .shares, .flt, .out, .free, .rst, .rules, .path])

/-- PARTITION_CONFIG (0x53; 09 R412 to R416, R435), its host side free to move. -/
def Obligations.PartitionRecords : Prop :=
  (∀ (i : Nat) (s : State) (e : Entry) (bs : Bytes), s.regsOk = true → s.takes 0 i 0x53 e → e.fld 17 1 % 2 = 0 → s.hostGo 0 [e.fld 24 8] = true →
    s.spPoisoned 0 (e.fld 24 8) 2048 = false → bs = s.spRead 0 (e.fld 24 8) 2048 →
    (leastOffset (s.recFaults (e.fld 16 1 % 16) (Memory.write [] 0 bs)) = none →
      s.recInUse (e.fld 16 1 % 16) (Memory.write [] 0 bs) = false →
      ∃ t, exec (.partitionConfigWrite i) s = .next t ∧ t.ended 0 i St.success ∧ s.onlyEntry t 0 i ∧
        t.record (e.fld 16 1 % 16) = Memory.write [] 0 bs ∧
        (∀ p, p ≠ e.fld 16 1 % 16 → t.record p = s.record p) ∧
        t.trust.meas = s.trust.meas.modify 3 (fun m => sha384 (padTo 48 m ++ sha384 bs)) ∧
        t.rd P.part R.partEnabled = putBits (s.rd P.part R.partEnabled) (e.fld 16 1 % 16) 1 (leNat (Memory.read (Memory.write [] 0 bs) 0 1)) % 2 ^ R.partEnabled.w ∧
        s.regsBut t ((P.part, R.partEnabled) :: (P.dma, R.dmaRdBytes) :: entryRegs) ∧
        s.sameBut t [.regs, .due, .fe, .trace, .free, .trust]) ∧
    (∀ o, leastOffset (s.recFaults (e.fld 16 1 % 16) (Memory.write [] 0 bs)) = some o →
      ∃ t, exec (.partitionConfigWrite i) s = .next t ∧ t.endedWith 0 i St.badParam o ∧ s.onlyEntry t 0 i ∧
        s.regsBut t ((P.dma, R.dmaRdBytes) :: entryRegs) ∧ s.sameBut t [.regs, .due, .fe, .trace])) ∧
  (∀ (i : Nat) (s : State) (e : Entry), s.takes 0 i 0x53 e → e.fld 17 1 % 2 = 1 → s.hostGo 0 [e.fld 24 8] = true →
    ∃ t, exec (.partitionConfigRead i) s = .next t ∧ t.ended 0 i St.success ∧ s.onlyEntry t 0 i ∧
      t.mem = (s.spWrite 0 (e.fld 24 8) 0 (Memory.read (s.record (e.fld 16 1 % 16)) 0 2048)).mem ∧
      s.regsBut t ((P.dma, R.dmaWrBytes) :: entryRegs) ∧ s.sameBut t [.regs, .mem, .due, .fe, .trace, .free])

/-- MODEL_STAGE (0x54; 05 R228 to R233). b is the lowest EMPTY bank, size what the bank takes, a where the pool places it (log entry 14). -/
def Obligations.ModelStaging : Prop :=
  ∀ (i n p a b len size : Nat) (hdr img : Bytes) (s : State) (e : Entry), s.takes 0 i 0x54 e → s.rst.stopped = false → n = e.fld 16 2 % 256 → p = e.fld 18 1 % 16 →
    len = e.fld 32 8 → hdr = s.spRead (s.qPart 0) (e.fld 24 8) 128 → img = s.spRead (s.qPart 0) (e.fld 24 8) len →
    size = bankSize len (fieldLE hdr 40 8) (fieldLE hdr 48 1 % 128) →
    s.hostGo 0 [e.fld 24 8] = true → ((s.mslot n).owned = true → (s.mslot n).owner = p) → (s.mslot n).retire = false →
    (s.mslot n).inState 0 = some b → (s.mslot n).inState 2 = none → ((s.mslot n).owned = false → s.slotsOwned p < s.maxSlots p) →
    s.bankBytes p + size ≤ s.bankQuota p → s.poolAlloc size = some a → s.stacksReady a size = true →
    s.spPoisoned (s.qPart 0) (e.fld 24 8) len = false →
    ((s.devWrite a img).checkImage a len p = none →
      ∃ t, exec (.modelStage i) s = .next t ∧ t.ended 0 i St.success ∧ s.onlyEntry t 0 i ∧
        ((t.mslot n).bank b).state = 2 ∧ ((t.mslot n).bank b).base = a ∧ ((t.mslot n).bank b).size = size ∧
        (t.mslot n).bank (1 - b) = (s.mslot n).bank (1 - b) ∧ (t.mslot n).owned = true ∧
        (t.mslot n).owner = p ∧ (∀ m, m ≠ n → t.mslot m = s.mslot m) ∧ t.mem = (s.devWrite a img).mem ∧
        t.trust.meas = s.trust.meas.modify 5 (fun m => sha384 (padTo 48 m ++ ((t.mslot n).bank b).digest)) ∧
        s.regsBut t ((P.dma, R.dmaRdBytes) :: entryRegs) ∧ s.sameBut t [.regs, .mem, .due, .fe, .trace, .free, .mods, .trust]) ∧
    (∀ r x, (s.devWrite a img).checkImage a len p = some (r, x) →
      ∃ t, exec (.modelStage i) s = .next t ∧ t.endedWith 0 i St.imageRejected (r + x * 256) ∧ s.onlyEntry t 0 i ∧
        (t.mslot n).b0 = (s.mslot n).b0 ∧ (t.mslot n).b1 = (s.mslot n).b1 ∧ (∀ m, m ≠ n → t.mslot m = s.mslot m) ∧
        t.mem = (s.devWrite a img).mem ∧
        s.regsBut t ((P.dev, R.miStageReject) :: (P.dma, R.dmaRdBytes) :: entryRegs) ∧
        s.sameBut t [.regs, .mem, .due, .fe, .trace, .mods])

/-- EPOCH_COMMIT_LOCAL and EPOCH_COMMIT_FABRIC (0x55; 05 R240 to R247; 16 R803) on a device that is no member of a fabric. -/
def Obligations.EpochCommits : Prop :=
  ∀ (i : Nat) (s : State) (e : Entry), s.takes 0 i 0x55 e → s.role = 0 →
    ((e.fld 50 1 % 2 = 0 → s.mods.commitBy = none →
      (s.commitCheck (e.fld 48 2) (e.fld 16 32) = none →
        ∃ t, exec (.epochCommitLocal i) s = .next t ∧ t.endedWith 0 i St.success ((s.epoch + 1) % 65536) ∧ s.onlyEntry t 0 i ∧
          t.epoch = (s.epoch + 1) % 65536 ∧ t.mods.epochs = s.mods.epochs ++ [⟨(s.epoch + 1) % 65536, 0⟩] ∧
          t.mods.slots = s.mods.slots.map (fun x => if (e.fld 16 32).testBit x.1 then (x.1, flipSlot s.epoch ((s.epoch + 1) % 65536) x.2) else x) ∧
          (∀ x, (x < journalAddr (s.mods.seq + 1) ∨ journalAddr (s.mods.seq + 1) + 0x4040 ≤ x) → Memory.get t.mem.dev x = Memory.get s.mem.dev x) ∧
          s.regsBut t ((P.dev, R.journalSeq) :: entryRegs) ∧ s.sameBut t [.regs, .mem, .due, .fe, .trace, .mods]) ∧
      (∀ st d, s.commitCheck (e.fld 48 2) (e.fld 16 32) = some (st, d) →
        ∃ t, exec (.epochCommitLocal i) s = .next t ∧ t.endedWith 0 i st d ∧ s.onlyEntry t 0 i ∧
          s.regsBut t entryRegs ∧ s.sameBut t [.regs, .due, .fe, .trace])) ∧
    (e.fld 50 1 % 2 = 1 → s.fab.quad = none →
      (s.commitCheck (e.fld 48 2) (e.fld 16 32) = none →
        ∃ t, exec (.epochCommitFabric i) s = .next t ∧ t.endedWith 0 i St.success ((s.epoch + 1) % 65536) ∧ s.onlyEntry t 0 i ∧
          t.epoch = (s.epoch + 1) % 65536 ∧ t.mods.epochs = s.mods.epochs ++ [⟨(s.epoch + 1) % 65536, 0⟩] ∧
          (∀ x, (x < journalAddr (s.mods.seq + 1) ∨ journalAddr (s.mods.seq + 1) + 0x4040 ≤ x) → Memory.get t.mem.dev x = Memory.get s.mem.dev x) ∧
          s.regsBut t ((P.dev, R.journalSeq) :: entryRegs) ∧ s.sameBut t [.regs, .mem, .due, .fe, .trace, .mods]) ∧
      (∀ st d, s.commitCheck (e.fld 48 2) (e.fld 16 32) = some (st, d) →
        ∃ t, exec (.epochCommitFabric i) s = .next t ∧ t.endedWith 0 i st d ∧ s.onlyEntry t 0 i ∧
          s.regsBut t entryRegs ∧ s.sameBut t [.regs, .due, .fe, .trace])))

/-- MODEL_RELEASE (0x56; 05 R250, R251) and EPOCH_RELEASE (R237, R238). -/
def Obligations.ModelRelease : Prop :=
  (∀ (i b : Nat) (s : State) (e : Entry), s.takes 0 i 0x56 e → e.fld 18 1 % 2 = 0 → (s.mslot (e.fld 16 2 % 256)).inState 2 = some b →
    ∃ t, exec (.modelReleaseDiscard i) s = .next t ∧ t.ended 0 i St.success ∧ s.onlyEntry t 0 i ∧
      ((t.mslot (e.fld 16 2 % 256)).bank b).state = 0 ∧
      (t.mslot (e.fld 16 2 % 256)).bank (1 - b) = (s.mslot (e.fld 16 2 % 256)).bank (1 - b) ∧
      (∀ m, m ≠ e.fld 16 2 % 256 → t.mslot m = s.mslot m) ∧ s.regsBut t entryRegs ∧
      s.sameBut t [.regs, .mem, .due, .fe, .trace, .free, .mods]) ∧
  (∀ (i : Nat) (s : State) (e : Entry), s.takes 0 i 0x56 e → e.fld 18 1 % 2 = 1 → ((s.mslot (e.fld 16 2 % 256)).inState 3).isSome = true →
    (s.mslot (e.fld 16 2 % 256)).inState 2 = none →
    ∃ t, exec (.modelReleaseRetire i) s = .next t ∧ t.ended 0 i St.success ∧ s.onlyEntry t 0 i ∧
      t.mslot (e.fld 16 2 % 256) = { s.mslot (e.fld 16 2 % 256) with retire := true } ∧
      (∀ m, m ≠ e.fld 16 2 % 256 → t.mslot m = s.mslot m) ∧ s.regsBut t entryRegs ∧ s.sameBut t [.regs, .due, .fe, .trace, .free, .mods]) ∧
  (∀ (s : State) (o c : Epoch) (rest : List Epoch), s.mods.epochs = o :: c :: rest → o.drain = 0 →
    ∃ t, exec .epochRelease s = .next t ∧ t.mods.epochs = c :: rest ∧
      (∀ n, (t.mslot n).b0.state ≠ 4 ∨ (t.mslot n).b0.untilE ≠ o.id) ∧ (∀ n, (t.mslot n).b1.state ≠ 4 ∨ (t.mslot n).b1.untilE ≠ o.id) ∧
      (∀ n, (s.mslot n).b0.state = 3 → (t.mslot n).b0 = (s.mslot n).b0) ∧ (∀ n, (s.mslot n).b1.state = 3 → (t.mslot n).b1 = (s.mslot n).b1) ∧
      t.mem.dev = s.mem.dev ∧ s.sameBut t [.mem, .mods])

/-- JOURNAL_RESTORE (05 R253, R254, R256), BANK_REVERIFY (R255). -/
def Obligations.JournalAndBanks : Prop :=
  (∀ (s : State), s.rst.restoring = true → s.journalBest = none →
    ∃ t, exec .journalRestore s = .next t ∧ t.mods.epochs = [⟨0, 0⟩] ∧ t.mods.slots = [] ∧ t.rst = { s.rst with restoring := false } ∧
      s.sameBut t [.mods, .rst]) ∧
  (∀ (s : State) (a : Nat), s.regsOk = true → s.rst.restoring = true → s.journalBest = some a →
    ∃ t, exec .journalRestore s = .next t ∧ t.epoch = fieldLE (s.devRead a 32) 0x10 2 ∧ t.mods.seq = fieldLE (s.devRead a 32) 8 8 ∧
      (∀ n m, aget t.mods.slots n = some m → m.owned = true ∧ m.b0.state = 0 ∧ m.b1.state = 0 ∧ fieldLE (s.devRead (a + 0x40 + 64 * n) 64) 0 1 % 2 = 1) ∧
      t.rst = { s.rst with restoring := false } ∧ s.regsBut t [(P.dev, R.journalSeq)] ∧ s.sameBut t [.regs, .mods, .rst]) ∧
  (∀ (s : State) (n b : Nat), s.mods.unverified.find? (fun x => x.1 = n) = some (n, b) → b < 2 →
    s.poisoned ((s.mslot n).bank b).base (fieldLE (s.devRead ((s.mslot n).bank b).base 16) 8 8) = false →
    s.devRead (((s.mslot n).bank b).base + fieldLE (s.devRead ((s.mslot n).bank b).base 16) 8 8 - 248) 48 = ((s.mslot n).bank b).digest →
    s.imageTrusted (s.mslot n).owner ((s.mslot n).bank b).base (fieldLE (s.devRead ((s.mslot n).bank b).base 16) 8 8) = true →
    ∃ t, exec (.bankReverify n) s = .next t ∧ (t.mslot n).bank b = { (s.mslot n).bank b with state := 3 } ∧
      (t.mslot n).bank (1 - b) = (s.mslot n).bank (1 - b) ∧ (∀ m, m ≠ n → t.mslot m = s.mslot m) ∧
      t.trust.meas = s.trust.meas.modify 5 (fun m => sha384 (padTo 48 m ++ ((s.mslot n).bank b).digest)) ∧
      s.sameBut t [.mods, .trust])

/-- BOOT_ROM (09 R424, R426, R435), BUNDLE_VERIFY (R425), FIRMWARE_UPDATE (0x5E; R429 to R431). -/
def Obligations.SecureBoot : Prop :=
  (∀ (s : State), s.pins.pwrGood = true → s.pins.perst = false → s.trust.spiOff = false → s.trust.stage1 = none →
    (s.stage1Ok (s.flashBank s.activeBank) = true →
      ∃ t, exec .bootRom s = .next t ∧ t.trust.stage1 = some s.activeBank ∧ t.trust.meas = (s.measureBoot s.activeBank).trust.meas ∧
        t.trust.banks = s.trust.banks ∧ t.trust.records = s.trust.records ∧ s.sameBut t [.trust]) ∧
    (s.stage1Ok (s.flashBank s.activeBank) = false → s.stage1Ok (s.flashBank (1 - s.activeBank)) = true →
      ∃ t, exec .bootRom s = .next t ∧ t.trust.stage1 = some (1 - s.activeBank) ∧
        t.trust.meas = (s.measureBoot (1 - s.activeBank)).trust.meas ∧
        s.regsBut t [(P.trust, R.trustBootFail), (P.trust, R.pgIrqStatus)] ∧ s.sameBut t [.regs, .due, .trust])) ∧
  (∀ (s : State) (b : Nat), s.trust.stage1 = some b → s.trust.booted = none → s.ready P.hk = true → bundleOk (s.flashBank b) = true →
    ∃ t, exec .bundleVerify s = .next t ∧ t.trust.booted = some b ∧ t.trust.banks = s.trust.banks ∧ s.part.fuseSvn ≤ t.part.fuseSvn ∧
      s.regsBut t [(P.trust, R.trustBootBank), (P.trust, R.trustBootKeyIndex), (P.trust, R.trustBootFwSvn), (P.trust, R.trustBootFuseSvn), (P.trust, R.trustRevoked)] ∧
      s.sameBut t [.regs, .part, .trust]) ∧
  (∀ (i : Nat) (s : State) (e : Entry), s.takes 0 i 0x5E e → s.hostGo 0 [e.fld 16 8] = true → e.fld 24 8 ≤ 2 ^ 23 →
    s.spPoisoned 0 (e.fld 16 8) (e.fld 24 8) = false →
    (s.bundleFault (Memory.write [] 0 (s.spRead 0 (e.fld 16 8) (e.fld 24 8))) (e.fld 24 8) = none →
      ∃ t, exec (.firmwareUpdate i true) s = .next t ∧ t.endedWith 0 i St.success (1 - s.activeBank) ∧ s.onlyEntry t 0 i ∧
        t.trust.banks = s.trust.banks.set (1 - s.activeBank) (.written (Memory.write [] 0 (s.spRead 0 (e.fld 16 8) (e.fld 24 8))) (e.fld 24 8)) ∧
        t.trust.meas = s.trust.meas.modify 4 (fun m => sha384 (padTo 48 m ++ sha384 (s.spRead 0 (e.fld 16 8) (e.fld 24 8)))) ∧
        ((e.fld 32 1).testBit 0 = false → t.trust.descs = s.trust.descs) ∧
        s.regsBut t ((P.dma, R.dmaRdBytes) :: entryRegs) ∧ s.sameBut t [.regs, .due, .fe, .trace, .trust]) ∧
    (∀ r, s.bundleFault (Memory.write [] 0 (s.spRead 0 (e.fld 16 8) (e.fld 24 8))) (e.fld 24 8) = some r →
      ∃ t, exec (.firmwareUpdate i true) s = .next t ∧ t.endedWith 0 i St.imageRejected r ∧ s.onlyEntry t 0 i ∧
        s.regsBut t ((P.dma, R.dmaRdBytes) :: entryRegs) ∧ s.sameBut t [.regs, .due, .fe, .trace]))

/-- ATTEST (0x5B; 09 R436 to R439): DST 24, NONCE 32, LENGTH 40. -/
def Obligations.Attestation : Prop :=
  ∀ (i mode : Nat) (s : State) (e : Entry) (o : Bytes) (c : Instr), s.takes 0 i 0x5B e → e.fld 17 1 % 4 = mode →
    s.hostGo 0 [e.fld 24 8] = true → (mode = 0 → s.hostGo 0 [e.fld 32 8] = true ∧ s.spPoisoned 0 (e.fld 32 8) 32 = false) →
    o = s.attestOutput mode (e.fld 16 1 % 16) (s.spRead 0 (e.fld 32 8) 32) →
    (mode = 0 ∧ c = .attestReport i ∨ mode = 1 ∧ c = .attestDeviceidCert i ∨ mode = 2 ∧ c = .attestAliasEndorsement i) →
    ∃ t : State, exec c s = .next t ∧ s.onlyEntry t 0 i ∧
      (o.length ≤ e.fld 40 4 → t.endedWith 0 i St.success o.length ∧ t.mem = (s.spWrite 0 (e.fld 24 8) 0 o).mem) ∧
      (e.fld 40 4 < o.length → t.endedWith 0 i St.badParam 40 ∧ t.mem = s.mem) ∧
      s.regsBut t ((P.dma, R.dmaWrBytes) :: entryRegs) ∧ s.sameBut t [.regs, .mem, .due, .fe, .trace]

/-- RULESET_LOAD (0x57; 11 R525 to R529), RULESET_COMMIT (0x58; R530 to R533), GENERATION_RELEASE (R534), RELEASE_SWEEP (R535),
PARSE_PARITY of a parse state (R543). -/
def Obligations.RulesetCommands : Prop :=
  (∀ (i : Nat) (s : State) (e : Entry) (im : Bytes), s.takes 0 i 0x57 e → e.fld 32 1 % 2 = 0 → s.rules.sweep = [] →
    s.hostGo 0 [e.fld 16 8] = true → s.spPoisoned 0 (e.fld 16 8) (e.fld 24 8) = false → im = s.spRead 0 (e.fld 16 8) (e.fld 24 8) →
    (∀ r, ({ s with rules := s.rules.discard } : State).rsFault im = none → s.rules.discard.build ((s.rules.cur + 1) % 8) im = .ok r →
      ∃ t, exec (.rulesetLoadBuild i) s = .next t ∧ t.endedWith 0 i St.success ((s.rules.cur + 1) % 8) ∧ s.onlyEntry t 0 i ∧ t.rules = r ∧
        t.rules.building = some ((s.rules.cur + 1) % 8) ∧ t.rules.cur = s.rules.cur ∧ t.rules.live = s.rules.live ∧
        s.regsBut t ((P.dma, R.dmaRdBytes) :: entryRegs) ∧ s.sameBut t [.regs, .due, .fe, .trace, .rules]) ∧
    (∀ r k, ({ s with rules := s.rules.discard } : State).rsFault im = some (r, k) →
      ∃ t, exec (.rulesetLoadBuild i) s = .next t ∧ t.endedWith 0 i St.imageRejected (r + 256 * (k % 2 ^ 24)) ∧ s.onlyEntry t 0 i ∧
        t.rules.building = none ∧ t.rules.cur = s.rules.cur ∧ t.rules.live = s.rules.live ∧
        s.regsBut t ((P.dma, R.dmaRdBytes) :: entryRegs) ∧ s.sameBut t [.regs, .due, .fe, .trace, .rules])) ∧
  (∀ (i : Nat) (s : State) (e : Entry), s.takes 0 i 0x57 e → e.fld 32 1 % 2 = 1 →
    ∃ t, exec (.rulesetLoadDiscard i) s = .next t ∧ t.ended 0 i St.success ∧ s.onlyEntry t 0 i ∧ t.rules.building = none ∧
      t.rules.cur = s.rules.cur ∧ t.rules.live = s.rules.live ∧ (∀ g, s.rules.building = some g → aget t.rules.gens g = none) ∧
      s.regsBut t entryRegs ∧ s.sameBut t [.regs, .due, .fe, .trace, .free, .rules]) ∧
  (∀ (i g : Nat) (s : State) (e : Entry), s.takes 0 i 0x58 e → e.fld 16 1 % 8 = s.rules.cur → s.rules.building = some g →
    s.rules.live.length < 4 →
    ∃ t, exec (.rulesetCommit i) s = .next t ∧ t.endedWith 0 i St.success g ∧ s.onlyEntry t 0 i ∧
      t.rules = { s.rules with cur := g, building := none, live := s.rules.live ++ [g] } ∧
      s.regsBut t entryRegs ∧ s.sameBut t [.regs, .due, .fe, .trace, .rules]) ∧
  (∀ (s : State) (g c : Nat) (rest : List Nat), s.rules.live = g :: c :: rest → ((s.genSet g).map (·.drain)).getD 0 = 0 →
    ∃ t, exec .generationRelease s = .next t ∧ t.rules = { s.rules with live := c :: rest, sweep := s.rules.sweep ++ [g] } ∧ s.sameBut t [.rules]) ∧
  (∀ (s : State) (g : Nat) (rest : List Nat), s.rules.sweep = g :: rest →
    ∃ t, exec .releaseSweep s = .next t ∧ t.rules.sweep = rest ∧ t.genSet g = none ∧ (∀ h, h ≠ g → t.genSet h = s.genSet h) ∧
      (∀ x ∈ t.rules.states ++ t.rules.profiles ++ t.rules.exact ++ t.rules.ternary ++ t.rules.ranges,
        x.2.mask.testBit g = false ∧ x.2.mask ≠ 0) ∧ t.rules.cur = s.rules.cur ∧ t.rules.live = s.rules.live ∧ s.sameBut t [.rules]) ∧
  (∀ (s : State) (pipe index : Nat) (m : Masked), pipe < 2 * s.part.code.ioDies → index < 64 → aget s.rules.states index = some m →
    s.gated (P.parse pipe) = false →
    ∃ t, exec (.parseParity pipe index) s = .next t ∧ (pipe, index) ∈ t.rules.badStates ∧
      s.regsBut t [(P.parse pipe, R.parseParityIndex), (P.parse pipe, R.pgIrqStatus)] ∧ s.sameBut t [.regs, .due, .rules])

/-- TABLE_QUERY (0x46; 12 R603 to R606): KEY 24, DST 32, INDEX 40, START 20, COUNT 48. -/
def Obligations.TableQueries : Prop :=
  (∀ (q i p : Nat) (s : State) (e : Entry) (k : Bytes), s.takes q i 0x46 e → p = s.qPart q → (e.fld 16 1).testBit 1 = false →
    s.hostGo q [e.fld 24 8, e.fld 32 8] = true →
    (e.fld 16 1 % 2 = 0 → s.spPoisoned p (e.fld 24 8) 48 = false → k = s.spRead p (e.fld 24 8) 48 →
      (∀ x, (waysOf s.flowBuckets k).find? (fun x => ctxValid (s.anyCtx x) && (s.anyCtx x).take 48 = k && qryPart e (ctxPart (s.anyCtx x))) = some x →
        ∃ t, exec (.tableQuerySearch q i) s = .next t ∧ t.endedWith q i St.success x ∧ s.onlyEntry t q i ∧
          t.mem = (s.spWrite p (e.fld 32 8) 0 (s.anyCtx x)).mem ∧
          s.regsBut t ((P.dma, R.dmaRdBytes) :: (P.dma, R.dmaWrBytes) :: entryRegs) ∧ s.sameBut t [.regs, .mem, .due, .fe, .trace]) ∧
      ((waysOf s.flowBuckets k).find? (fun x => ctxValid (s.anyCtx x) && (s.anyCtx x).take 48 = k && qryPart e (ctxPart (s.anyCtx x))) = none →
        ∃ t, exec (.tableQuerySearch q i) s = .next t ∧
          t.endedWith q i St.tableMiss ((waysOf s.flowBuckets k).filter (fun x => ctxValid (s.anyCtx x) || (s.resvAt x).isSome)).length ∧
          s.onlyEntry t q i ∧ s.regsBut t ((P.dma, R.dmaRdBytes) :: entryRegs) ∧ s.sameBut t [.regs, .due, .fe, .trace])) ∧
    (e.fld 16 1 % 2 = 1 → s.spPoisoned p (e.fld 24 8) 8 = false → k = s.spRead p (e.fld 24 8) 8 →
      (∀ x en, stFind (s.stCopy 0) k = some x → aget (s.stCopy 0) x = some en → qryPart e (stPart en) = true →
        ∃ t, exec (.tableQuerySearch q i) s = .next t ∧ t.endedWith q i St.success x ∧ s.onlyEntry t q i ∧
          t.mem = (s.spWrite p (e.fld 32 8) 0 en).mem ∧
          s.regsBut t ((P.dma, R.dmaRdBytes) :: (P.dma, R.dmaWrBytes) :: entryRegs) ∧ s.sameBut t [.regs, .mem, .due, .fe, .trace]) ∧
      (stFind (s.stCopy 0) k = none →
        ∃ t, exec (.tableQuerySearch q i) s = .next t ∧ t.ended q i St.tableMiss ∧ s.onlyEntry t q i ∧
          s.regsBut t ((P.dma, R.dmaRdBytes) :: entryRegs) ∧ s.sameBut t [.regs, .due, .fe, .trace]))) ∧
  (∀ (q i p hi nxt : Nat) (s : State) (e : Entry) (got : List (Nat × Bytes)), s.takes q i 0x46 e → p = s.qPart q → (e.fld 16 1).testBit 1 = true →
    e.fld 16 1 % 2 = 0 → s.hostGo q [e.fld 32 8, e.fld 40 8] = true → hi = min s.flowEntries (e.fld 20 4 + 2 ^ 20) →
    got = (((s.flowValid (e.fld 20 4) hi).map (fun x => (x, s.anyCtx x))).filter (fun x => qryPart e (ctxPart x.2))).take (e.fld 48 2) →
    nxt = (if got.length = e.fld 48 2 then ((got.getLast?.map (·.1)).getD hi) + 1 else hi) →
    ∃ t, exec (.tableQueryNext q i) s = .next t ∧ t.endedWith q i St.success got.length ∧ got.length ≤ e.fld 48 2 ∧ s.onlyEntry t q i ∧
      t.mem = ((s.spWrite p (e.fld 32 8) 0 ((got.map (·.2)).flatten)).spWrite p (e.fld 40 8) 0
        (leBytes 4 (if s.flowEntries ≤ nxt then 0xFFFFFFFF else nxt) ++ leBytes 4 got.length ++ (got.map (fun x => leBytes 4 x.1)).flatten)).mem ∧
      s.regsBut t ((P.dma, R.dmaWrBytes) :: entryRegs) ∧ s.sameBut t [.regs, .mem, .due, .fe, .trace])

/-- TABLE_WRITE (0x47; 12 R607 to R609), the flow table held in memory (not CACHE_ONLY), SRC without uncorrectable error. -/
def Obligations.FlowTableWrites : Prop :=
  ∀ (q i p : Nat) (s : State) (e : Entry) (src : Bytes), s.regsOk = true → s.takes q i 0x47 e → p = e.fld 17 1 % 16 → s.hostGo q [e.fld 24 8] = true →
    s.spPoisoned (s.qPart q) (e.fld 24 8) 128 = false → src = s.spRead (s.qPart q) (e.fld 24 8) 128 → s.flowSplit = false →
    (e.fld 16 1 % 4 = 0 → byteAt src 0 = p →
      ((waysOf s.flowBuckets (src.take 48)).find? (fun x => (ctxValid (s.anyCtx x) && (s.anyCtx x).take 48 = src.take 48) ||
          ((s.resvAt x).map (fun r => decide (r.key = src.take 48))).getD false) = none → s.flowCount p < s.maxFlows p →
        ∀ x, (waysOf s.flowBuckets (src.take 48)).find? (fun x => s.freeWay 0 x && !ctxValid (s.anyCtx x)) = some x →
        ∃ t, exec (.tableWriteInsert q i) s = .next t ∧ t.endedWith q i St.success x ∧ s.onlyEntry t q i ∧
          t.mem = (s.devWrite (s.flowAddr x) (insertCtx src s.nowU)).mem ∧
          t.flowCount p = (s.flowCount p + 1) % 2 ^ (R.flowPartCount p).w ∧
          s.regsBut t ((P.flow 0, R.flowPartCount p) :: (P.dma, R.dmaRdBytes) :: entryRegs) ∧ s.sameBut t [.regs, .mem, .due, .fe, .trace]) ∧
      (∀ x, (waysOf s.flowBuckets (src.take 48)).find? (fun x => (ctxValid (s.anyCtx x) && (s.anyCtx x).take 48 = src.take 48) ||
          ((s.resvAt x).map (fun r => decide (r.key = src.take 48))).getD false) = some x →
        ∃ t, exec (.tableWriteInsert q i) s = .next t ∧ t.endedWith q i St.tableExists x ∧ s.onlyEntry t q i ∧
          s.regsBut t ((P.dma, R.dmaRdBytes) :: entryRegs) ∧ s.sameBut t [.regs, .due, .fe, .trace])) ∧
    (e.fld 16 1 % 4 = 1 → ∀ x, s.tableTarget e src = some x →
      ∃ t, exec (.tableWriteUpdate q i) s = .next t ∧ t.ended q i St.success ∧ s.onlyEntry t q i ∧
        (s.holderOf x = none → t.mem = (s.devWrite (s.flowAddr x) (maskedWrite (s.anyCtx x) src (e.fld 32 16))).mem ∧ t.tab = s.tab) ∧
        (∀ h, s.holderOf x = some h → t.mem = s.mem ∧
          (t.lineOf h x).map (fun l => (l.ctx, l.dirty)) = some (putAt (maskedWrite (s.anyCtx x) src (e.fld 32 16)) 102 (leBytes 1 (h % 4 + 4)), true) ∧
          ∀ y, y ≠ x → ∀ d, t.lineOf d y = s.lineOf d y) ∧
        s.regsBut t ((P.dma, R.dmaRdBytes) :: entryRegs) ∧ s.sameBut t [.regs, .mem, .due, .fe, .trace, .free, .tab]) ∧
    (e.fld 16 1 % 4 = 2 → ∀ x, s.tableTarget e src = some x → (s.anyCtx x).length = 128 →
      ∃ t, exec (.tableWriteDelete q i) s = .next t ∧ t.ended q i St.success ∧ s.onlyEntry t q i ∧ ctxValid (t.anyCtx x) = false ∧
        t.flowCount p = (s.flowCount p - 1) % 2 ^ (R.flowPartCount p).w ∧
        (∀ a, (a < s.flowAddr x ∨ s.flowAddr x + 128 ≤ a) → Memory.get t.mem.dev a = Memory.get s.mem.dev a) ∧
        (∀ y, y ≠ x → ∀ d, t.lineOf d y = s.lineOf d y) ∧
        s.regsBut t ((P.flow 0, R.flowPartCount p) :: (P.dma, R.dmaRdBytes) :: entryRegs) ∧
        s.sameBut t [.regs, .mem, .due, .fe, .trace, .free, .tab])

/-- STATION_WRITE (0x5A; 12 R610, R611), STATION_LEARN_APPLY (R593), SKIDDER_PASS (R599, R600), STATION_PARITY on die 0 (R616). -/
def Obligations.StationTable : Prop :=
  (∀ (i : Nat) (s : State) (e : Entry), s.takes 0 i 0x5A e → s.stationsReady = true →
    (e.fld 16 1 % 2 = 0 →
      (∀ x en, stFind (s.stCopy 0) (stwKey e) = some x → aget (s.stCopy 0) x = some en →
        ∃ t, exec (.stationWriteWrite i) s = .next t ∧ t.ended 0 i St.success ∧ s.onlyEntry t 0 i ∧
          t.tab = { s.tab with station := s.tab.station.map (fun l => aput l x (stationEntry (stwKey e) (e.fld 33 1 % 16) (e.fld 32 1 % 64)
            (1 + 2 * (e.fld 17 1 % 2) + 4) (fieldLE en 10 2))) } ∧
          s.regsBut t entryRegs ∧ s.sameBut t [.regs, .due, .fe, .trace, .free, .tab]) ∧
      (∀ x, stFind (s.stCopy 0) (stwKey e) = none → (waysOf stationBuckets (stwKey e)).find? (fun j => (aget (s.stCopy 0) j).isNone) = some x →
        ∃ t, exec (.stationWriteWrite i) s = .next t ∧ t.ended 0 i St.success ∧ s.onlyEntry t 0 i ∧
          t.tab = { s.tab with station := s.tab.station.map (fun l => aput l x (stationEntry (stwKey e) (e.fld 33 1 % 16) (e.fld 32 1 % 64)
            (1 + 2 * (e.fld 17 1 % 2) + 4) 0)) } ∧
          s.regsBut t entryRegs ∧ s.sameBut t [.regs, .due, .fe, .trace, .free, .tab])) ∧
    (e.fld 16 1 % 2 = 1 → ∀ x, stFind (s.stCopy 0) (stwKey e) = some x →
      ∃ t, exec (.stationWriteDelete i) s = .next t ∧ t.ended 0 i St.success ∧ s.onlyEntry t 0 i ∧
        t.tab = { s.tab with station := s.tab.station.map (fun l => adel l x) } ∧
        s.regsBut t entryRegs ∧ s.sameBut t [.regs, .due, .fe, .trace, .free, .tab])) ∧
  (∀ (s : State) (die i : Nat) (x : Learn), s.tab.learns.find? (fun y => y.die = die) = some x → s.ready (P.station 0) = true →
    stFind (s.stCopy 0) x.key = none → (waysOf stationBuckets x.key).find? (fun j => (aget (s.stCopy 0) j).isNone) = some i →
    ∃ t, exec (.stationLearnApply die) s = .next t ∧ t.tab = { s.tab with
      station := s.tab.station.map (fun l => aput l i (stationEntry x.key x.part x.port 5 0)), learns := s.tab.learns.erase x } ∧
      s.sameBut t [.tab]) ∧
  (∀ (s : State) (per : Nat), per = s.rd (P.station 0) R.stationSkidPeriod * 1000000 → per ≠ 0 → s.ready (P.station 0) = true →
    s.tab.skidAt / per < s.ns / per → ((s.stCopy 0).map (·.1)).Nodup →
    ∃ t, exec .skidderPass s = .next t ∧ t.tab.skidAt = s.ns ∧ (∀ x, aget (t.stCopy 0) x = (aget (s.stCopy 0) x).bind skid) ∧
      s.regsBut t [(P.station 0, R.stationAged), (P.station 0, R.stationSkidPasses), (P.station 0, R.pgIrqStatus)] ∧
      s.sameBut t [.regs, .due, .tab]) ∧
  (∀ (s : State) (index : Nat), 0 < s.part.code.ioDies → index < 8 * stationBuckets → s.gated (P.station 0) = false →
    ∃ t, exec (.stationParity 0 index) s = .next t ∧ t.tab = { s.tab with station := s.tab.station.map (fun l => adel l index) } ∧
      s.regsBut t [(P.station 0, R.stationParityIndex), (P.station 0, R.stationParity), (P.station 0, R.pgIrqStatus)] ∧
      s.sameBut t [.regs, .due, .tab])

/-- TABLE_FLUSH (0x59; 12 R612 to R614), FLOW_AGER (R584), FLOW_WRITEBACK (R582), FLOW_ECC_ERROR (R615), REEL_HOME_MOVE and
HOME_MOVE_CANCEL (17 R849, R850). -/
def Obligations.FlowTableUpkeep : Prop :=
  (∀ (i tbl : Nat) (s : State) (e : Entry), s.takes 0 i 0x59 e → tbl = e.fld 16 1 % 2 → aget s.tab.flush tbl = none →
    e.fld 20 4 < s.tableSize tbl →
    ∃ t, exec (.tableFlush i) s = .next t ∧ (t.entry 0 i).map (·.st) = some .started ∧
      t.tab = { s.tab with flush := aput s.tab.flush tbl [i, e.fld 20 4, s.ns, 0] } ∧ t.mem = s.mem ∧ s.onlyEntry t 0 i ∧
      s.regsBut t ((P.flow 0, R.flowFlushCursor) :: (P.station 0, R.stationFlushCursor) :: traceRegs) ∧
      s.sameBut t [.regs, .due, .fe, .trace, .tab]) ∧
  (∀ (i pos at_ n : Nat) (s : State) (e : Entry), s.entry 0 i = some e → e.st = .started → e.fld 16 1 % 2 = 1 →
    aget s.tab.flush 1 = some [i, pos, at_, n] → 8 * stationBuckets ≤ pos + 1024 * ((s.ns - at_) / 1000) →
    ∃ t, exec (.tableFlush i) s = .next t ∧ t.ended 0 i St.success ∧ aget t.tab.flush 1 = none ∧
      (∀ x ∈ t.stCopy 0, pos ≤ x.1 → x.1 < 8 * stationBuckets → flushStation e x.2 = false) ∧
      (∀ x, x < pos → aget (t.stCopy 0) x = aget (s.stCopy 0) x) ∧
      s.regsBut t [(P.station 0, R.stationFlushCursor), (P.fe, R.pgProgress)] ∧ s.sameBut t [.regs, .fe, .tab]) ∧
  (∀ (s : State), 1000 ≤ s.ns - s.tab.ageAt → s.ready (P.flow 0) = true →
    ∃ t, exec .flowAger s = .next t ∧
      t.tab.agePos = (s.tab.agePos + (s.ns - s.tab.ageAt) / 1000 * s.rd (P.flow 0) R.flowAgeRate) % s.flowBuckets ∧
      t.tab.ageAt = s.tab.ageAt + (s.ns - s.tab.ageAt) / 1000 * 1000 ∧ s.sameBut t [.regs, .mem, .tab]) ∧
  (∀ (s : State) (die index : Nat) (l : FlowLine), s.lineOf die index = some l → l.dirty = true →
    l.dirtyAt + s.rd (P.flow 0) R.flowWbInterval * 1000 ≤ s.ns → s.stacksReady (s.flowAddr index) 128 = true → s.flowSplit = false →
    ∃ t, exec (.flowWriteback die index) s = .next t ∧ t.mem = (s.devWrite (s.flowAddr index) l.ctx).mem ∧
      t.lineOf die index = some { l with dirty := false } ∧ s.sameBut t [.mem, .tab]) ∧
  (∀ (s : State) (index : Nat), index < s.flowEntries →
    ∃ t, exec (.flowEccError index) s = .next t ∧ t.devRead (s.flowAddr index) 128 = zeros 128 ∧ t.holderOf index = none ∧
      (∀ a, (a < s.flowAddr index ∨ s.flowAddr index + 128 ≤ a) → Memory.get t.mem.dev a = Memory.get s.mem.dev a) ∧
      s.sameBut t [.regs, .mem, .due, .tab]) ∧
  (∀ (s : State) (flow : Nat) (m : HomeMove), s.tab.moves.find? (fun x => x.flow = flow) = some m →
    (s.moveOk m = true → s.flowBusy flow = false →
      ∃ t, exec (.reelHomeMove flow) s = .next t ∧ t.tab.moves = s.tab.moves.erase m ∧ (∀ x ∈ t.pwr.streaks, x.1 ≠ flow) ∧
        s.regsBut t [(P.pwr, R.reelHomeMoves), (P.pwr, R.pgSentinel 5)] ∧ s.sameBut t [.regs, .mem, .pwr, .tab]) ∧
    (s.moveOk m = false →
      ∃ t, exec (.homeMoveCancel flow) s = .next t ∧ t.tab = { s.tab with moves := s.tab.moves.erase m } ∧
        s.regsBut t [(P.pwr, R.reelHomeCancel)] ∧ s.sameBut t [.regs, .tab]))

/-- CRUISE (0x5C; 19 R976 to R978), CRZ_GO (R979 to R981), WFG 0. -/
def Obligations.CruiseCaptures : Prop :=
  (∀ (i : Nat) (s : State) (e : Entry), s.regsOk = true → s.takes 0 i 0x5C e → s.rst.stopped = false → s.flt.cruise = none → e.fld 16 1 % 2 = 0 →
    s.hostGo 0 [e.fld 24 8] = true →
    ∃ t, exec (.cruise i) s = .next t ∧ t.endedWith 0 i St.success ((s.startEntry 0 i).snapshot false).length ∧ s.onlyEntry t 0 i ∧
      t.mem = (s.spWrite 0 (e.fld 24 8) 0 ((s.startEntry 0 i).snapshot false)).mem ∧ t.flt = s.flt ∧ t.rd P.cruise R.crzStatusDone = 1 ∧
      s.regsBut t ([(P.cruise, R.crzStatusDone), (P.cruise, R.crzStatusErr), (P.cruise, R.crzCount), (P.cruise, R.crzCk4),
        (P.cruise, R.crzBytes), (P.cruise, R.pgIrqStatus), (P.dma, R.dmaWrBytes)] ++ entryRegs) ∧
      s.sameBut t [.regs, .mem, .due, .fe, .trace]) ∧
  (∀ (s : State), s.regsOk = true → s.pagePresent P.cruise = true → s.ready P.cruise = true → s.flt.cruise = none → s.rd P.cruise R.crzCmdWfg = 0 →
    65536 ≤ s.rd P.cruise R.crzMax → s.spAdmits true 0 (s.rd P.cruise R.crzDst) 65536 true = true →
    s.hostGo 0 [s.rd P.cruise R.crzDst] = true →
    ∃ t, exec .crzGo s = .next t ∧ t.mem = (s.spWrite 0 (s.rd P.cruise R.crzDst) 0 (s.snapshot false)).mem ∧ t.flt = s.flt ∧
      t.rd P.cruise R.crzStatusDone = 1 ∧
      s.regsBut t [(P.cruise, R.crzStatusDone), (P.cruise, R.crzStatusErr), (P.cruise, R.crzCount), (P.cruise, R.crzCk4),
        (P.cruise, R.crzBytes), (P.cruise, R.pgIrqStatus), (P.dma, R.dmaWrBytes)] ∧ s.sameBut t [.regs, .mem, .due])

/-- INDEX_LOAD (0x5D; 15 R714 to R720) on queue 0, sources without uncorrectable error. -/
def Obligations.SearchChannels : Prop :=
  (∀ (i ch : Nat) (s : State) (e : Entry) (d : Bytes), s.takes 0 i 0x5D e → ch = e.fld 16 1 → s.hostGo 0 [e.fld 24 8] = true →
    s.spPoisoned 0 (e.fld 24 8) 64 = false → d = s.spRead 0 (e.fld 24 8) 64 →
    (e.fld 17 1 % 8 = 0 → s.channel ch = none → s.chanBad d = none →
      ∃ t, exec (.indexLoadDefine i) s = .next t ∧ t.ended 0 i St.success ∧ s.onlyEntry t 0 i ∧
        t.nse = { s.nse with channels := aput s.nse.channels ch d } ∧
        s.regsBut t ((P.dma, R.dmaRdBytes) :: entryRegs) ∧ s.sameBut t [.regs, .due, .fe, .trace, .free, .nse]) ∧
    (∀ c, e.fld 17 1 % 8 = 4 → s.channel ch = some c → fieldLE d 3 1 / 2 % 8 = 0 →
      (fieldLE d 3 1 % 2 = 1 → 1 ≤ fieldLE d 3 1 / 16 ∧ fieldLE d 3 1 / 16 ≤ 8) →
      ∃ t, exec (.indexLoadSetMode i) s = .next t ∧ t.ended 0 i St.success ∧ s.onlyEntry t 0 i ∧
        t.nse = { s.nse with channels := aput s.nse.channels ch (putAt c 3 (leBytes 1 (fieldLE d 3 1))) } ∧
        s.regsBut t ((P.dma, R.dmaRdBytes) :: entryRegs) ∧ s.sameBut t [.regs, .due, .fe, .trace, .free, .nse])) ∧
  (∀ (i ch n a : Nat) (s : State) (e : Entry) (d bs : Bytes), s.takes 0 i 0x5D e → e.fld 17 1 % 8 = 1 → ch = e.fld 16 1 → n = e.fld 32 8 →
    s.hostGo 0 [e.fld 24 8] = true → s.channel ch = some d → s.shard ch (e.fld 20 2 % 4096) = none → s.nse.shards.length < 1024 →
    s.bankBytes (chanOwner d) + roundUp n (2 ^ 21) ≤ s.bankQuota (chanOwner d) → s.poolAlloc (roundUp n (2 ^ 21)) = some a →
    s.spPoisoned 0 (e.fld 24 8) n = false → bs = s.spRead 0 (e.fld 24 8) n → nsCheck (chanShape d) bs = none →
    ∃ t, exec (.indexLoadLoad i) s = .next t ∧ t.ended 0 i St.success ∧ s.onlyEntry t 0 i ∧
      t.nse.shards = s.nse.shards ++ [⟨ch, e.fld 20 2 % 4096, a, roundUp n (2 ^ 21), fieldLE bs 12 4, false, none⟩] ∧
      t.nse.channels = s.nse.channels ∧
      t.mem = (s.devWrite a (nsNormed (chanShape d) (chanShape d).recSize (fieldLE bs 12 4) bs (fun r => normCode ((chanShape d).elems r)))).mem ∧
      s.sameBut t [.regs, .mem, .due, .fe, .fab, .trace, .out, .free, .nse]) ∧
  (∀ (i ch : Nat) (s : State) (e : Entry) (d : Bytes) (h : Shard), s.takes 0 i 0x5D e → e.fld 17 1 % 8 = 2 → ch = e.fld 16 1 →
    s.channel ch = some d → s.shard ch (e.fld 20 2 % 4096) = some h → s.nse.shards.Nodup → (∀ x ∈ s.nse.shards, x.leaving = none) →
    (∀ x ∈ s.nse.parts, ¬ (x.2.channel = ch ∧ x.2.shard = e.fld 20 2 % 4096)) →
    ∃ t, exec (.indexLoadUnload i) s = .next t ∧ t.ended 0 i St.success ∧ s.onlyEntry t 0 i ∧
      t.nse.shards = s.nse.shards.filter (fun x => x ≠ h) ∧ t.nse.channels = s.nse.channels ∧ t.mem = s.mem ∧
      s.sameBut t [.regs, .due, .fe, .fab, .trace, .out, .free, .nse]) ∧
  (∀ (i ch : Nat) (s : State) (e : Entry) (d : Bytes), s.takes 0 i 0x5D e → e.fld 17 1 % 8 = 3 → ch = e.fld 16 1 → s.channel ch = some d →
    (∀ x ∈ s.nse.shards, x.channel ≠ ch) →
    ∃ t, exec (.indexLoadDelete i) s = .next t ∧ t.ended 0 i St.success ∧ s.onlyEntry t 0 i ∧
      t.nse = { s.nse with channels := adel s.nse.channels ch } ∧
      s.regsBut t entryRegs ∧ s.sameBut t [.regs, .due, .fe, .trace, .free, .nse])

/-- VSEARCH (0x14; 15 R730 to R738), SEARCH_REQ, SEARCH_ANSWER, SEARCH_BOUNCE (R738 to R743; 16 R819), SHARD_PART_DONE (R724 to R726),
HOLDER_UNREACHABLE (R742), SHARD_RESTORE (R748). -/
def Obligations.SearchesAndParts : Prop :=
  (∀ (q i : Nat) (s : State) (w : Work) (en : MapEnt) (m : ShardMap), s.searchesOf (.entry q i) = [] → s.work (.entry q i) 0x14 = some w →
    s.opReject w = none → s.searchBad w = none → (s.draw.startEntry q i).readsPoison w = false → w.in0.d1 = 1 →
    s.shardMap (w.f 40 1) = some m → m.ents = [en] → en.state = 1 → en.device < 64 → en.device ≠ s.rd P.fab R.fabStatusDeviceId →
    (w.f 43 1).testBit 1 = false → s.reachable en.device = true →
    ∃ t x, exec (.vsearch (.entry q i)) s = .next t ∧ aget t.nse.searches s.nse.nextSearch = some x ∧
      x.parts = [⟨en.shard, en.device, en.vectors, 0⟩] ∧ x.ref = .entry q i ∧ t.nse.nextSearch = s.nse.nextSearch + 1 ∧
      t.sent en.device (.searchReq (s.nse.nextSearch % 2 ^ 32) (w.f 40 1) m.gen [en.shard] (w.f 42 1 % 128) (w.f 44 2) (w.f 46 2) (s.queryRow w.in0 0)) ∧
      (t.entry q i).map (·.st) = some .started ∧ s.onlyEntry t q i ∧ t.mem = s.mem ∧
      s.sameBut t [.regs, .due, .fe, .fab, .trace, .out, .free, .nse]) ∧
  (∀ (p id ch gen sh k list hops : Nat) (row : Bytes) (fr : MFrame) (s : State), s.hears p fr → fr.body = .searchReq id ch gen [sh] k list hops row →
    (∀ h, s.quarantined = false → s.shardMap ch = some h → h.gen = gen →
      (∃ x, s.shard ch sh = some x ∧ x.leaving = none ∧ x.check = false) → s.nsesFor ((s.channel ch).getD []) ≠ [] →
      ∃ t y, exec (.searchReq p fr) s = .next t ∧ aget t.nse.parts s.nse.nextPart = some y ∧ y.origin = some (fr.src, id) ∧ y.channel = ch ∧
        y.shard = sh ∧ y.row = row ∧ y.k = k ∧ t.nse.nextPart = s.nse.nextPart + 1 ∧ s.regsBut t fabRegs ∧
        s.sameBut t [.regs, .due, .fab, .trace, .out, .free, .nse]) ∧
    (∀ h, s.shardMap ch = some h → h.gen ≠ gen → seqLater 16 gen h.gen = false → s.reachable fr.src = true →
      ∃ t, exec (.searchReq p fr) s = .next t ∧ t.sent fr.src (.searchBounce id sh h.gen) ∧ t.nse = s.nse ∧ t.mem = s.mem ∧
        s.sameBut t [.regs, .due, .fab, .trace, .shares, .out])) ∧
  (∀ (n k mode dev id : Nat) (s : State) (p : ShardPart) (h : Shard) (d : Bytes) (o : PartOut), aget s.nse.parts n = some p →
    p.nse = some (k, mode) → s.shard p.channel p.shard = some h → s.channel p.channel = some d → p.origin = some (dev, id) →
    o = s.runPart h.base p.row p.k p.list p.hops (if mode = 2 then fieldLE d 3 1 / 16 else 0) → s.ready (P.nse k) = true →
    s.recDown (s.nsImage h.base) o.read = false → s.recBad (s.nsImage h.base) o.read = none → s.reachable dev = true → s.fab.ports.length = 8 →
    ∃ t, exec (.shardPartDone n) s = .next t ∧ aget t.nse.parts n = none ∧
      t.sent dev (.searchAnswer id p.shard p.gen h.vectors o.exp o.read.length (b2n o.truncated + 2 * b2n s.degraded)
        (o.hits.map (fun x => { x with id := x.id + p.shard * 2 ^ 32 }))) ∧
      (s.nse.parts = [(n, p)] → (∀ x ∈ s.nse.shards, x.leaving = none) → t.nse = { s.nse with parts := [] } ∧
        s.sameBut t [.regs, .due, .fab, .trace, .shares, .out, .free, .nse])) ∧
  (∀ (p id sh gen vec exp vals flags : Nat) (hits : List Hit) (fr : MFrame) (s : State) (x : Search), s.hears p fr → aget s.nse.searches id = some x →
    (∃ y ∈ x.parts, y.shard = sh ∧ y.holder = fr.src ∧ y.status = 0) → (∃ y ∈ x.parts, ¬ (y.shard = sh ∧ y.holder = fr.src) ∧ y.status = 0) →
    (fr.body = .searchAnswer id sh gen vec exp vals flags hits → flags.testBit 2 = false →
      ∃ t z, exec (.searchAnswer p fr) s = .next t ∧ aget t.nse.searches id = some z ∧
        z.parts = x.parts.map (fun y => if y.shard = sh ∧ y.holder = fr.src ∧ y.status = 0 then { y with status := 1 } else y) ∧
        z.hits = mergeHits (chanShape ((s.channel x.channel).getD [])).metric x.k fr.src x.hits hits ∧ z.exp = (x.exp + exp) % 2 ^ 32 ∧
        s.regsBut t fabRegs ∧ s.sameBut t [.regs, .due, .fab, .trace, .out, .nse]) ∧
    (fr.body = .searchBounce id sh gen → x.staleFail = false →
      ∃ t z, exec (.searchBounce p fr) s = .next t ∧ aget t.nse.searches id = some z ∧
        z.parts = x.parts.map (fun y => if y.shard = sh ∧ y.holder = fr.src ∧ y.status = 0 then { y with status := 2 } else y) ∧
        z.hits = x.hits ∧ s.sameBut t [.regs, .due, .fab, .trace, .shares, .out, .nse])) ∧
  (∀ (d : Nat) (s : State), d < 64 → d ≠ s.rd P.fab R.fabStatusDeviceId → s.reachable d = false →
    (s.nse.searches.map (·.1)).Pairwise (· < ·) →
    ∃ t, exec (.holderUnreachable d) s = .next t ∧ (∀ id x, aget t.nse.searches id = some x → ∀ y ∈ x.parts, y.holder = d → y.status ≠ 0) ∧
      t.nse.shards = s.nse.shards ∧ t.nse.channels = s.nse.channels) ∧
  (∀ (ch sh : Nat) (s : State) (h : Shard) (d : Bytes), s.shard ch sh = some h → s.channel ch = some d → h.check = true →
    s.poisoned h.base (256 + h.vectors * (chanShape d).recSize) = false →
    nsDigestOk (chanShape d) (chanShape d).recSize h.vectors (s.devRead h.base (256 + h.vectors * (chanShape d).recSize)) = true →
    ∃ t, exec (.shardRestore ch sh) s = .next t ∧ t.nse.shards = s.nse.shards.map (fun y => if y = h then { h with check := false } else y) ∧
      t.nse.channels = s.nse.channels ∧ s.sameBut t [.regs, .due, .fab, .trace, .shares, .out, .nse])

/-- The operations of the arrays, the vector stages, the QSU and the descriptor engine, by the function of the model that computes each
one's output elements (03 R118 to R166, R1026 to R1028; 04 R187 to R203). -/
def Obligations.OperationsRun : Prop :=
  (SingleRuns .matmul 0x01 State.matmul ∧ StepRuns .matmul 0x01 State.matmul) ∧
  (SingleRuns .conv1d 0x02 State.conv1d ∧ StepRuns .conv1d 0x02 State.conv1d) ∧
  (SingleRuns .elemwise 0x03 State.elemwise ∧ StepRuns .elemwise 0x03 State.elemwise) ∧
  (SingleRuns .softmax 0x04 State.softmax ∧ StepRuns .softmax 0x04 State.softmax) ∧
  (SingleRuns .norm 0x05 State.norm ∧ StepRuns .norm 0x05 State.norm) ∧
  (SingleRuns .reduce 0x06 State.reduce ∧ StepRuns .reduce 0x06 State.reduce) ∧
  (SingleRuns .topk 0x07 State.topk ∧ StepRuns .topk 0x07 State.topk) ∧
  (SingleRuns .pool1d 0x1E State.pool1d ∧ StepRuns .pool1d 0x1E State.pool1d) ∧
  (SingleRuns .gather 0x08 State.gather ∧ StepRuns .gather 0x08 State.gather) ∧
  (SingleRuns .scatter 0x09 State.scatter ∧ StepRuns .scatter 0x09 State.scatter) ∧
  (SingleRuns .embedSum 0x1F State.embedSum ∧ StepRuns .embedSum 0x1F State.embedSum) ∧
  (SingleRuns .transpose 0x0A State.transpose ∧ StepRuns .transpose 0x0A State.transpose) ∧
  (SingleRuns .concat 0x0B State.concat ∧ StepRuns .concat 0x0B State.concat) ∧
  (SingleRuns .convert 0x0C (fun t k => outOf k.out k.in0.count (fun x => t.elem k.out x (t.val k.in0 x))) ∧
    StepRuns .convert 0x0C (fun t k => outOf k.out k.in0.count (fun x => t.elem k.out x (t.val k.in0 x)))) ∧
  (SingleRuns .fill 0x0D (fun t k => outOf k.out k.out.bytes (fun x => t.elem k.out x (k.fp 44))) ∧
    StepRuns .fill 0x0D (fun t k => outOf k.out k.out.bytes (fun x => t.elem k.out x (k.fp 44)))) ∧
  (SingleRuns .move 0x0E (fun t k => outOf k.out k.out.bytes (fun x => ⟨t.code k.in0 x, 0, false⟩)) ∧
    StepRuns .move 0x0E (fun t k => outOf k.out k.out.bytes (fun x => ⟨t.code k.in0 x, 0, false⟩))) ∧
  (SingleRuns .qstats 0x0F State.qstats ∧ StepRuns .qstats 0x0F State.qstats) ∧
  (SingleRuns .requant 0x10 (fun t k => if (k.f 40 1).testBit 0 then t.requantDynamic k else t.requantStatic k) ∧
    StepRuns .requant 0x10 (fun t k => if (k.f 40 1).testBit 0 then t.requantDynamic k else t.requantStatic k)) ∧
  (SingleRuns .dequant 0x11 (fun t k => outOf k.out k.in0.count (fun x => t.elem k.out x (t.fval k.in0 x))) ∧
    StepRuns .dequant 0x11 (fun t k => outOf k.out k.in0.count (fun x => t.elem k.out x (t.fval k.in0 x))))

/-- Execution faults (03 R148, R149, R1027): the output is left with free values, log entry 66. -/
def Obligations.OperationsFail : Prop :=
  SingleFails .gather 0x08 State.gather ∧ SingleFails .scatter 0x09 State.scatter ∧ SingleFails .embedSum 0x1F State.embedSum

/-- FILL (0x0D), MOVE (0x0E), ELEMWISE FUNC 0x20 on stored integers (03 R161), OUT of rank 1 in cluster memory, each element within a byte
or more. -/
def Obligations.ElementResults : Prop :=
  ∀ (q i c : Nat) (s : State) (k : Work), k.out.sp = .cm c → k.out.d1 = 1 → k.out.d2 = 1 → k.out.d3 = 1 → fmtBits k.out.fmt ≠ 4 →
    (s.mayRun q i 0x0D k →
      ∃ t, exec (.fill (.entry q i)) s = .next t ∧ t.ended q i St.success ∧
        ∀ x, x < k.out.d0 → t.code k.out ⟨x, 0, 0, 0⟩ = (s.elem k.out ⟨x, 0, 0, 0⟩ (k.fp 44)).code % 2 ^ fmtBits k.out.fmt) ∧
    (s.mayRun q i 0x0E k → k.out.fmt = k.in0.fmt →
      ∃ t, exec (.move (.entry q i)) s = .next t ∧ t.ended q i St.success ∧
        ∀ x, x < k.out.d0 → t.code k.out ⟨x, 0, 0, 0⟩ = s.code k.in0 ⟨x, 0, 0, 0⟩) ∧
    (s.mayRun q i 0x03 k → intElemwise k = true → k.f 40 1 = 0x20 → (k.tens 2).isSome = true → k.in0.d0 = k.out.d0 → k.in1.d0 = k.out.d0 →
      k.in0.d1 = 1 → k.in0.d2 = 1 → k.in0.d3 = 1 → k.in1.d1 = 1 → k.in1.d2 = 1 → k.in1.d3 = 1 →
      ∃ t, exec (.elemwise (.entry q i)) s = .next t ∧ t.ended q i St.success ∧
        ∀ x, x < k.out.d0 → t.code k.out ⟨x, 0, 0, 0⟩ =
          (encodeI k.out.fmt (s.ival k.in0 ⟨x, 0, 0, 0⟩ + s.ival k.in1 ⟨x, 0, 0, 0⟩)).1 % 2 ^ fmtBits k.out.fmt)

/-- FEATURE_PREP (0x12; 14 R677 to R681), FOREST_EVAL (0x13; R683 to R691), FE_FLUSH (R707). e is the engine the model picks (R695). -/
def Obligations.ForestOperations : Prop :=
  (∀ (q i e : Nat) (s : State) (k : Work), s.mayRun q i 0x12 k → s.forestEngine k = some e →
    ((s.began q i k).featurePrep k e).2.fail = none →
    ∃ t, exec (.featurePrep (.entry q i)) s = .next t ∧ t.ended q i St.success ∧ s.onlyEntry t q i ∧
      t.mem = (((s.began q i k).featurePrep k e).1.putAll ((s.began q i k).featurePrep k e).2).mem ∧
      s.sameBut t [.regs, .mem, .due, .fe, .obs, .trace, .shares, .free]) ∧
  (∀ (q i e : Nat) (s : State) (k : Work), s.mayRun q i 0x13 k → s.forestEngine k = some e →
    ((s.began q i k).forestEval k e).2.fail = none →
    ∃ t, exec (.forestEval (.entry q i)) s = .next t ∧ t.ended q i St.success ∧ s.onlyEntry t q i ∧
      t.mem = (((s.began q i k).forestEval k e).1.putAll ((s.began q i k).forestEval k e).2).mem ∧
      s.sameBut t [.regs, .mem, .due, .fe, .obs, .trace, .shares, .free]) ∧
  (∀ (c : Nat) (s : State), c < 16 → s.gated (P.forest c) = false → s.busy (P.forest c) = false →
    ∃ t, exec (.feFlush c) s = .next t ∧ t.mem = { s.mem with forest := s.mem.forest.filter (fun r => r.cluster ≠ c) } ∧ s.sameBut t [.mem])

/-- FLOW_READ (0x15; 12 R580), FLOW_WRITE (0x16; R577), VERDICT_EMIT (0x17; 13 R648 to R652), WAIT_QUEUE (0x18; 03 R1029) of a run that has its first
item, PUSH_QUEUE (0x19). -/
def Obligations.ItemSteps : Prop :=
  ∀ (n j : Nat) (s : State) (v : Inv) (k : Work), s.inv n = some v → v.goesOn j → k.cluster < 16 → s.readsPoison k = false →
    (s.stepWork n j 0x15 = some k →
      ∃ t, exec (.flowRead (.step n j)) s = .next t ∧ s.onlyStep t n j v ∧
        t.mem = (s.putAll (rowOut k.out (s.flowRead v.die (s.oneCode k.aux)))).mem ∧ s.opRegs t k ∧
        s.sameBut t [.regs, .mem, .due, .fe, .obs, .trace, .shares, .free]) ∧
    (s.stepWork n j 0x16 = some k → v.ownItem (s.oneCode k.aux) = none →
      ∃ t, exec (.flowWrite (.step n j)) s = .next t ∧ s.onlyStep t n j v ∧
        t.mem = (s.flowStoreNow v.die (s.oneCode k.aux) none (s.rowIn k.in0) (k.f 40 16)).mem ∧
        t.tab = (s.flowStoreNow v.die (s.oneCode k.aux) none (s.rowIn k.in0) (k.f 40 16)).tab ∧
        s.sameBut t [.regs, .mem, .due, .fe, .obs, .trace, .shares, .free, .tab]) ∧
    (∀ it, s.stepWork n j 0x17 = some k →
      ((match v.item with | some i => [i] | none => []) ++ v.extra).find? (fun i => i.id = s.oneCode k.aux) = some it →
      v.verdicts.contains (s.oneCode k.aux) = false → s.verdictOk it.part (s.rowIn k.in0) = true →
      ∃ t m, exec (.verdictEmit (.step n j)) s = .next t ∧ s.onlyStep t n j v ∧ t.path = { s.path with verdicts := s.path.verdicts ++ [m] } ∧
        m.die = it.die ∧ m.item = it.id ∧ m.rec_ = s.rowIn k.in0 ∧ m.part = it.part ∧
        (t.inv n).map (·.verdicts) = some (v.verdicts ++ [it.id]) ∧ t.mem = s.mem ∧ s.opRegs t k ∧
        s.sameBut t [.regs, .due, .fe, .obs, .trace, .shares, .free, .path]) ∧
    (∀ qu it rest, v.idle = false → s.stepWork n j 0x18 = some k → aget s.fe.iqs (k.f 40 1) = some qu → qu.items = it :: rest → it.part = v.part →
      ∃ t, exec (.waitQueue (.step n j)) s = .next t ∧ s.onlyStep t n j v ∧ aget t.fe.iqs (k.f 40 1) = some { qu with items := rest } ∧
        (t.inv n).map (·.extra) = some (v.extra ++ [it]) ∧ t.mem = (s.putAll (rowOut k.out it.bytes)).mem ∧ s.opRegs t k ∧
        s.sameBut t [.regs, .mem, .due, .fe, .obs, .trace, .shares, .free]) ∧
    (∀ qu, s.stepWork n j 0x19 = some k → s.iqBase v.part ≤ k.f 40 1 → k.f 40 1 < s.iqBase v.part + s.iqCount v.part →
      (aget s.fe.tasks (k.f 40 1)).isSome = true → aget s.fe.iqs (k.f 40 1) = some qu → qu.items.length < 2 ^ qu.log2 →
      ∃ t it, exec (.pushQueue (.step n j)) s = .next t ∧ s.onlyStep t n j v ∧
        aget t.fe.iqs (k.f 40 1) = some { qu with items := qu.items ++ [it] } ∧ it.id = s.fe.nextItem ∧ it.epoch = s.epoch ∧ it.part = k.part ∧
        t.mods.epochs = s.mods.epochs.map (fun x => if x.id = s.epoch then { x with drain := x.drain + 1 } else x) ∧ t.mem = s.mem ∧
        s.opRegs t k ∧ s.sameBut t [.regs, .due, .fe, .mods, .obs, .trace, .shares, .free])

/-- STEP_START (03 R128), SKIP_IF (0x1A; R145), BARRIER (0x1B; R146), MARK (0x1C; 18 R897), DUMP_TAP (0x1D; R924), TAP_CAPTURE with taps off
(R906, R936), CORE_FAULT (03 R126). -/
def Obligations.ControlSteps : Prop :=
  (∀ (n k : Nat) (s : State) (v : Inv) (d : Bytes) (st : Step), s.inv n = some v → v.at_ k = some (d, st) → s.startable n v k = true →
    (∀ m y, v.first ≤ m → m < k → v.step m = some y → y.cluster = st.cluster → s.startable n v m = false) →
    ∃ t v', exec (.stepStart n k) s = .next t ∧ t.inv n = some v' ∧ v'.step k = some { st with st := .started } ∧
      (∀ m, m ≠ k → v'.step m = v.step m) ∧ (∀ m, m ≠ n → t.inv m = s.inv m) ∧ s.regsBut t traceRegs ∧ s.sameBut t [.regs, .due, .fe, .trace]) ∧
  (∀ (n j : Nat) (s : State) (v : Inv) (k : Work), s.inv n = some v → v.goesOn j → k.cluster < 16 → s.readsPoison k = false →
    (s.stepWork n j 0x1A = some k → ((s.val k.in0 ⟨0, 0, 0, 0⟩).isZero = !(k.f 40 1).testBit 0) →
      ∃ t, exec (.skipIf (.step n j)) s = .next t ∧ s.onlyStep t n j v ∧ t.mem = s.mem ∧ s.opRegs t k ∧
        s.sameBut t [.regs, .due, .fe, .obs, .trace, .shares, .free]) ∧
    (s.stepWork n j 0x1B = some k → (∀ m d, v.op m = some d → fieldLE d 0 1 = 0x1B → fieldLE d 40 1 = k.f 40 1 → (v.step m).any (fun y => y.st ≠ .waiting) = true) →
      ∃ t, exec (.barrier (.step n j)) s = .next t ∧ s.onlyStep t n j v ∧ t.mem = s.mem ∧ s.opRegs t k ∧
        s.sameBut t [.regs, .due, .fe, .obs, .trace, .shares, .free]) ∧
    (s.stepWork n j 0x1C = some k →
      ∃ t, exec (.mark (.step n j)) s = .next t ∧ s.onlyStep t n j v ∧ t.mem = s.mem ∧ s.opRegs t k ∧
        s.sameBut t [.regs, .due, .fe, .obs, .trace, .shares, .free]) ∧
    (s.stepWork n j 0x1D = some k →
      ∃ t, exec (.dumpTap (.step n j)) s = .next t ∧ s.onlyStep t n j v ∧ t.mem = s.mem ∧
        (∀ i ∈ v.taps, (fieldLE ((aget s.obs.taps i).getD []) 0 1).testBit 1 = true → fieldLE ((aget s.obs.taps i).getD []) 2 2 = k.f 40 2 →
          ⟨n, j, i, s.fns, s.time.ck4⟩ ∈ t.obs.tapDue) ∧ s.opRegs t k ∧
        s.sameBut t [.regs, .due, .fe, .obs, .trace, .shares, .free])) ∧
  (∀ (n j e m : Nat) (s : State) (v : Inv) (x : TapDue) (y : Step), s.obs.tapDue.find? (fun x => x.inv = n && x.step = j && x.entry = e) = some x →
    s.inv n = some v → v.fail = none → v.step m = some y → y.st = .started → s.rd P.obsTap R.tapCtrlEnable = 0 →
    ∃ t, exec (.tapCapture n j e) s = .next t ∧ t.obs = { s.obs with tapDue := s.obs.tapDue.erase x } ∧ s.sameBut t [.obs]) ∧
  (∀ (q i core pc : Nat) (s : State) (k : Work), s.regsOk = true → (List.range 0x20).findSome? (s.work (.entry q i)) = some k → core < 8 →
    unitsOf k.desc k.tab &&& 3 ≠ 0 → s.ready (P.core k.cluster core) = true → (∀ sl, s.slot k.slot = some sl → sl.resetting = false) →
    ∃ t, exec (.coreFault (.entry q i) core pc) s = .next t ∧ t.ended q i St.internal ∧ t.ready (P.core k.cluster core) = false ∧
      s.onlyEntry t q i ∧ t.mem = s.mem ∧ s.sameBut t [.regs, .pins, .due, .fe, .fab, .obs, .trace, .shares, .flt, .out, .free])

/-- INVOCATION_START (05 R215), ITEM_NO_VERDICT (02 R78; 13 R646). -/
def Obligations.InvocationsOfTasks : Prop :=
  (∀ (n c : Nat) (s : State) (v : Inv) (m : Nat) (y : Step), s.inv n = some v → v.waiting = true → s.freeScratch v.mslot v.bank = some c →
    v.fail = none → v.step m = some y → y.st = .waiting → v.bank < 2 →
    ∃ t v', exec (.invocationStart n) s = .next t ∧ t.inv n = some v' ∧ v'.waiting = false ∧ v'.scratch = some c ∧ v'.steps = v.steps ∧
      ((t.mslot v.mslot).bank v.bank).scratchUsed = ((s.mslot v.mslot).bank v.bank).scratchUsed ++ [c] ∧
      ((t.mslot v.mslot).bank (1 - v.bank)) = ((s.mslot v.mslot).bank (1 - v.bank)) ∧ (∀ p, p ≠ n → t.inv p = s.inv p) ∧
      (∀ p, p ≠ v.mslot → t.mslot p = s.mslot p) ∧ t.fe.queues = s.fe.queues ∧ s.sameBut t [.fe, .mods, .obs]) ∧
  (∀ (n c : Nat) (s : State) (v : Inv), s.inv n = some v → v.ended = true → v.scratch = some c → v.iq < noIq → aget s.fe.tasks v.iq = none →
    (∀ sl, s.slot v.slot = some sl → sl.resetting = false) →
    ∃ t, exec (.itemNoVerdict n) s = .next t ∧ t.inv n = none ∧ c ∉ ((t.mslot v.mslot).bank v.bank).scratchUsed ∧
      (∀ p, p ≠ n → t.inv p = s.inv p) ∧ t.fe.queues = s.fe.queues ∧
      s.sameBut t [.regs, .due, .fe, .mods, .fab, .obs, .trace, .shares, .out, .free, .rules, .path])

/-- ILLEGAL_ACCESS (06 R261), VF_WRITE_DROP (R295), READ_CLEAR (R268, R288, R294), LO_READ_SHADOW (R289, R290), REGISTER_WRITE (R262, R269,
R282); the counters with the freeze off (18 R903). That a write to a page ends the high word kept for it is the model's (R290). -/
def Obligations.RegisterAccesses : Prop :=
  (∀ (fn addr size : Nat) (write : Bool) (s : State), s.regsOk = true → s.frozen = false → s.pins.pwrGood = true → s.pins.perst = false →
    s.fnPresent fn = true → legal addr size = false →
    ∃ t, exec (.illegalAccess fn addr size write) s = .next t ∧ t.rd P.dev R.devAccessErr = (s.rd P.dev R.devAccessErr + 1) % 2 ^ 32 ∧
      t.rd P.dev R.devAccessAddrOffset = addr % 2 ^ 26 ∧ t.rd P.dev R.devAccessAddrFunction = fn % 32 ∧
      t.out = (if write then s.out else { s.out with reads := (0, false) :: s.out.reads }) ∧
      s.regsBut t [(P.dev, R.devAccessErr), (P.dev, R.devAccessAddrOffset), (P.dev, R.devAccessAddrFunction)] ∧ s.sameBut t [.regs, .out]) ∧
  (∀ (fn addr size : Nat) (s : State), s.regsOk = true → s.frozen = false → s.pins.pwrGood = true → s.pins.perst = false → fn ≠ 0 →
    s.fnPresent fn = true → legal addr size = true →
    ∃ t, exec (.vfWriteDrop fn addr size) s = .next t ∧ t.rd P.dev R.devVfWriteDrop = (s.rd P.dev R.devVfWriteDrop + 1) % 2 ^ 32 ∧
      s.regsBut t [(P.dev, R.devVfWriteDrop)] ∧ t.host = { s.host with shadows := t.host.shadows } ∧ s.sameBut t [.regs, .host]) ∧
  (∀ (fn addr size : Nat) (s : State), s.regsOk = true → s.pins.pwrGood = true → s.pins.perst = false → s.fnPresent fn = true →
    legal addr size = true → s.host.shadows = [] →
    ∃ t, exec (.readClear fn addr size) s = .next t ∧
      t.out = { s.out with reads := (s.wordVia fn addr + (if size = 8 then s.wordVia fn (addr + 4) * 2 ^ 32 else 0), false) :: s.out.reads } ∧
      (fn ≠ 0 → t.regs = s.regs) ∧
      (∀ i f, fn = 0 → pageAt (addr / 0x1000) = some i → s.gated (addr / 0x1000 * 0x1000) = false → f ∈ pageFlds s.part.code i.kind →
        f.acc = .rc → (⟨8 * (addr % 0x1000), 8 * size, 0⟩ : Wr).covers f = true → t.rd (addr / 0x1000 * 0x1000) f = 0) ∧
      s.regsOff t (addr / 0x1000 * 0x1000) (addr / 0x1000 * 0x1000 + 0x1000) [] ∧ t.host.funcs = s.host.funcs ∧
      s.sameBut t [.regs, .host, .pwr, .out]) ∧
  (∀ (fn addr : Nat) (s : State) (i : PageInfo), s.pins.pwrGood = true → s.pins.perst = false → s.fnPresent fn = true → legal addr 4 = true →
    pageAt (addr / 0x1000) = some i → lowWord s.part.code i.kind (addr % 0x1000) = true → s.gated (addr / 0x1000 * 0x1000) = false →
    s.host.shadows = [] →
    ∃ t, exec (.loReadShadow fn addr) s = .next t ∧
      t.host.shadows = [(fn, addr / 0x1000 * 0x1000, addr % 0x1000, s.wordVia fn (addr + 4))] ∧
      t.out = { s.out with reads := (s.wordVia fn addr, false) :: s.out.reads } ∧ t.host.funcs = s.host.funcs ∧
      s.sameBut t [.regs, .host, .pwr, .out]) ∧
  (∀ (fn addr v : Nat) (s : State) (rest : List (Nat × Nat × Nat × Nat)), s.pins.pwrGood = true → s.pins.perst = false →
    s.fnPresent fn = true → addr % 8 = 0 → s.gated (addr / 0x1000 * 0x1000) = false →
    s.host.shadows = (fn, addr / 0x1000 * 0x1000, addr % 0x1000, v) :: rest →
    ∃ t, exec (.readClear fn (addr + 4) 4) s = .next t ∧ t.out = { s.out with reads := (v, false) :: s.out.reads }) ∧
  (∀ (addr size data : Nat) (s : State), s.pins.pwrGood = true → s.pins.perst = false → legal addr size = true →
    s.gated (addr / 0x1000 * 0x1000) = true →
    ∃ t, exec (.registerWrite addr size data) s = .next t ∧ t.host = { s.host with shadows := t.host.shadows } ∧ s.sameBut t [.host]) ∧
  (∀ (data : Nat) (s : State), s.regsOk = true → s.pins.pwrGood = true → s.pins.perst = false →
    ∃ t, exec (.registerWrite 0x1050 4 data) s = .next t ∧ t.rd P.clk R.clkCoastDelay = data % 2 ^ 16 ∧
      s.regsBut t [(P.clk, R.clkCoastDelay)] ∧ t.host = { s.host with shadows := t.host.shadows } ∧ s.sameBut t [.regs, .host]) ∧
  (∀ (data : Nat) (s : State), s.regsOk = true → s.pins.pwrGood = true → s.pins.perst = false → data % 2 ^ 32 = 0 →
    0 < s.rd P.clk R.fmcWindow → s.rd P.clk R.fmcWindow < 2 ^ 32 →
    ∃ t, exec (.registerWrite 0x10C4 4 data) s = .next t ∧ t.rd P.clk R.fmcWindow = s.rd P.clk R.fmcWindow ∧
      t.rd P.clk R.pgErrCodeCode = 2 ∧ s.regsBut t ((P.clk, R.fmcWindow) :: errRegs P.clk) ∧ s.sameBut t [.regs, .host, .due])

/-- PG_IRQ_STATUS_W1C (06 R299), PG_IRQ_SET (R276, R298), IRQ_ROUTE_ENABLE (R298, R302), GROUP_MSIX (R298 to R301), BUS_MASTER_ENABLE_CLEAR
(09 R405), BUS_MASTER_ENABLE_SET (19 R1022), BAR4_WINDOW_ACCESS (09 R399 to R402). Enables, masks and the vector table are log entry
19's. -/
def Obligations.InterruptGroups : Prop :=
  (∀ (page mask p : Nat) (s : State), s.regsOk = true → p = page / 0x1000 * 0x1000 → s.reaches p = true →
    ∃ t, exec (.pgIrqStatusW1c page mask) s = .next t ∧
      t.rd p R.pgIrqStatus = (s.rd p R.pgIrqStatus - (s.rd p R.pgIrqStatus &&& mask)) % 2 ^ 32 ∧
      (∀ g, groupOf (p / 0x1000) = some g → t.groupPending g = true → s.on P.dev (R.devIrqRouteRouteEn g) = true → g ∈ t.host.dueGroups) ∧
      s.regsBut t [(p, R.pgIrqStatus)] ∧ s.sameBut t [.regs, .due]) ∧
  (∀ (page mask p : Nat) (s : State), s.regsOk = true → p = page / 0x1000 * 0x1000 → s.reaches p = true →
    ∃ t, exec (.pgIrqSet page mask) s = .next t ∧ t.rd p R.pgIrqStatus = (s.rd p R.pgIrqStatus ||| mask) % 2 ^ 32 ∧
      (∀ g, groupOf (p / 0x1000) = some g → s.groupPending g = false → t.groupPending g = true →
        s.on P.dev (R.devIrqRouteRouteEn g) = true → g ∈ t.host.dueGroups) ∧
      s.regsBut t [(p, R.pgIrqStatus)] ∧ s.sameBut t [.regs, .due]) ∧
  (∀ (g v : Nat) (s : State), s.regsOk = true → g < 32 → s.reaches P.dev = true →
    (v < 512 → ∃ t, exec (.irqRouteEnable g v) s = .next t ∧ t.rd P.dev (R.devIrqRouteVector g) = v ∧
      t.rd P.dev (R.devIrqRouteRouteEn g) = 1 ∧ (t.groupPending g = true → g ∈ t.host.dueGroups) ∧
      s.regsBut t [(P.dev, R.devIrqRouteVector g), (P.dev, R.devIrqRouteRouteEn g)] ∧ s.sameBut t [.regs, .due]) ∧
    (512 ≤ v → ∃ t, exec (.irqRouteEnable g v) s = .next t ∧ t.rd P.dev R.pgErrCodeCode = 2 ∧ s.regsBut t (errRegs P.dev) ∧
      s.sameBut t [.regs, .due])) ∧
  (∀ (g v : Nat) (s : State) (f : Func), g ∈ s.host.dueGroups → v = s.rd P.dev (R.devIrqRouteVector g) → s.host.funcs[0]? = some f →
    f.present = true →
    (f.msixEn = true → f.msixMask = false → v ∈ f.vecOpen → f.bme = true →
      ∃ t, exec (.groupMsix g) s = .next t ∧ t.out = { s.out with msix := s.out.msix ++ [(0, v)] } ∧ g ∉ t.host.dueGroups ∧
        (∀ h, h ≠ g → h ∈ s.host.dueGroups → h ∈ t.host.dueGroups) ∧ s.sameBut t [.due, .out]) ∧
    (f.bme = false ∨ f.msixEn = false ∨ f.msixMask = true ∨ v ∉ f.vecOpen →
      ∃ t f', exec (.groupMsix g) s = .next t ∧ t.host.funcs[0]? = some f' ∧ f' = { f with vecPend := f'.vecPend } ∧ v ∈ f'.vecPend ∧
        (∀ x, x ≠ v → (x ∈ f'.vecPend ↔ x ∈ f.vecPend)) ∧ (∀ k, k ≠ 0 → t.host.funcs[k]? = s.host.funcs[k]?) ∧ g ∉ t.host.dueGroups ∧
        s.sameBut t [.due, .host])) ∧
  (∀ (fn : Nat) (s : State) (f : Func), s.host.funcs[fn]? = some f →
    ∃ t, exec (.busMasterEnableClear fn) s = .next t ∧ t.host.funcs[fn]? = some { f with bme := false } ∧ t.dmaOk fn = false ∧
      (∀ k, k ≠ fn → t.host.funcs[k]? = s.host.funcs[k]?) ∧ t.host = { s.host with funcs := t.host.funcs } ∧ s.sameBut t [.host]) ∧
  (∀ (fn : Nat) (s : State) (f : Func), s.host.funcs[fn]? = some f → f.present = true → f.msixEn = true → f.msixMask = false →
    ∃ t, exec (.busMasterEnableSet fn) s = .next t ∧
      t.host.funcs[fn]? = some { f with bme := true, vecPend := f.vecPend.filter (fun v => !f.vecOpen.contains v) } ∧
      t.out = { s.out with msix := s.out.msix ++ (f.vecPend.filter (fun v => f.vecOpen.contains v)).map (fun v => (fn, v)) } ∧
      (∀ k, k ≠ fn → t.host.funcs[k]? = s.host.funcs[k]?) ∧ t.host = { s.host with funcs := t.host.funcs } ∧ s.sameBut t [.host, .out]) ∧
  (∀ (fn addr size data a : Nat) (s : State), s.fnPresent fn = true → 0x10000 ≤ addr → a = s.winOf fn + (addr - 0x10000) →
    (s.admits (fn - 1) a size true = true →
      ∃ t, exec (.bar4WindowAccess fn addr size data true) s = .next t ∧ t.mem = (s.partWrite (fn - 1) a (leBytes size data)).mem ∧
        s.sameBut t [.mem]) ∧
    (s.admits (fn - 1) a size false = true → s.partPoisoned (fn - 1) a size = false →
      ∃ t, exec (.bar4WindowAccess fn addr size data false) s = .next t ∧
        t.out = { s.out with reads := (leNat (s.partRead (fn - 1) a size), false) :: s.out.reads } ∧ s.sameBut t [.out]) ∧
    (∀ w, s.regsOk = true → s.admits (fn - 1) a size w = false →
      ∃ t, exec (.bar4WindowAccess fn addr size data w) s = .next t ∧ t.rd P.part R.partFwAddrHiWrite = b2n w ∧
        t.rd P.part R.partFwAddrHiPartition = (fn - 1) % 2 ^ R.partFwAddrHiPartition.w ∧
        t.out = (if w then s.out else { s.out with reads := (0, false) :: s.out.reads }) ∧
        s.regsBut t [(P.part, R.partFwViol (fn - 1)), (P.part, R.partFwAddr), (P.part, R.partFwAddrHiPartition), (P.part, R.partFwAddrHiWrite),
          (P.part, R.pgIrqStatus)] ∧ s.sameBut t [.regs, .due, .shares, .out]))

/-- PG_CTRL_ENABLE_CLEAR (06 R271), PG_CTRL_ENABLE_SET (R272), SOFT_RESET (R273, R274), BLOCK_READY (08 R376), BLOCK_NOT_READY (R377),
CACHE_ONLY_END (R379), FE_KQ_ENABLE (02 R44, R50, R116, R117). Pages whose block does more as it comes up, or that log entry 64 couples, are
left out by their kind. -/
def Obligations.BlockControl : Prop :=
  (∀ (page p : Nat) (s : State), s.regsOk = true → p = page / 0x1000 * 0x1000 → s.reaches p = true → s.busy p = false →
    runState (s.rd p R.pgStatusState) = true →
    ∃ t, exec (.pgCtrlEnableClear page) s = .next t ∧ t.rd p R.pgCtrlEnable = 0 ∧ t.rd p R.pgStatusState = 4 ∧ t.ready p = false ∧
      (∀ x ∈ bringOrder, p ∈ x.2 → x.1 ≠ p → t.ready x.1 = false) ∧ s.sameBut t [.regs, .due]) ∧
  (∀ (page p : Nat) (s : State) (i : PageInfo), s.regsOk = true → p = page / 0x1000 * 0x1000 → s.reaches p = true → isLink p = false →
    pageAt (p / 0x1000) = some i → i.kind ∉ [PT.core, .cl, .flow] →
    (s.rd p R.pgStatusState ≠ 4 → ∃ t, exec (.pgCtrlEnableSet page) s = .next t ∧ t.rd p R.pgCtrlEnable = 1 ∧ s.regsBut t [(p, R.pgCtrlEnable)] ∧
      s.sameBut t [.regs]) ∧
    (s.rd p R.pgStatusState = 4 → ((s.wr p R.pgCtrlEnable 1).setState p 1).mayComeUp p = true →
      ∃ t, exec (.pgCtrlEnableSet page) s = .next t ∧ t.rd p R.pgCtrlEnable = 1 ∧ t.rd p R.pgStatusState = 3 ∧ t.ready p = true ∧
        s.sameBut t [.regs, .pins, .due, .free, .path, .tab]) ∧
    (s.rd p R.pgStatusState = 4 → (∃ r ∈ requiresOf p, r ≠ p ∧ s.ready r = false) →
      ∃ t, exec (.pgCtrlEnableSet page) s = .next t ∧ t.rd p R.pgCtrlEnable = 1 ∧ t.rd p R.pgStatusState = 1 ∧ s.sameBut t [.regs, .due])) ∧
  (∀ (page p : Nat) (s : State) (i : PageInfo), s.regsOk = true → p = page / 0x1000 * 0x1000 → s.reaches p = true →
    pageAt (p / 0x1000) = some i →
    (s.busy p = true → ∃ t, exec (.softReset page) s = .next t ∧ t.rd p R.pgErrCodeCode = 1 ∧ s.regsBut t (errRegs p) ∧ s.sameBut t [.regs, .due]) ∧
    (s.busy p = false → i.kind ∉ [PT.feGlobal, .feSlot, .port, .fport, .flow, .clk, .rst] →
      ∃ t, exec (.softReset page) s = .next t ∧ t.rd p R.pgStatusState = 5 ∧ t.ready p = false ∧ t.rd p R.pgCtrlSoftReset = 1 ∧
        t.rd p R.pgCtrlEnable = s.rd p R.pgCtrlEnable % 2 ∧ t.rd p R.pgProgress = s.rd p R.pgProgress % 2 ^ 32 ∧
        (∀ k, k < 6 → t.rd p (R.pgSentinel k) = s.rd p (R.pgSentinel k) % 2 ^ 32) ∧
        (∀ f : Fld, f.pos < 32768 → f.pos ∉ [R.pgCtrlEnable.pos, R.pgCtrlSoftReset.pos, R.pgStatusState.pos, R.pgProgress.pos] →
          (∀ k, k < 6 → f.pos ≠ (R.pgSentinel k).pos) → t.rd p f = f.rst) ∧
        (∀ x ∈ bringOrder, p ∈ x.2 → x.1 ≠ p → t.ready x.1 = false))) ∧
  (∀ (page p : Nat) (s : State) (i : PageInfo), s.regsOk = true → p = page / 0x1000 * 0x1000 → s.mayComeUp p = true →
    pageAt (p / 0x1000) = some i → i.kind ∉ [PT.core, .cl, .flow] →
    (s.on p R.pgCtrlEnable = true → ∃ t, exec (.blockReady page) s = .next t ∧ t.ready p = true ∧ t.rd p R.pgStatusState = 3 ∧
      s.sameBut t [.regs, .pins, .due, .free, .path, .tab]) ∧
    (s.on p R.pgCtrlEnable = false → ∃ t, exec (.blockReady page) s = .next t ∧ t.ready p = false ∧ t.rd p R.pgStatusState = 4 ∧
      s.sameBut t [.regs, .pins, .due, .free, .path, .tab])) ∧
  (∀ (page p : Nat) (s : State) (i : PageInfo), s.regsOk = true → p = page / 0x1000 * 0x1000 → s.ready p = true →
    pageAt (p / 0x1000) = some i → i.kind ∉ [PT.core, .port, .fport] → p ≠ P.hbm 0 →
    ∃ t, exec (.blockNotReady page) s = .next t ∧ t.ready p = false ∧ t.rd p R.pgStatusState = 1 ∧
      (∀ x ∈ bringOrder, p ∈ x.2 → x.1 ≠ p → t.ready x.1 = false) ∧ s.sameBut t [.regs, .due]) ∧
  (∀ (d : Nat) (s : State), s.regsOk = true → d < s.part.code.ioDies → s.rd (P.flow d) R.pgStatusState = 0x80 → s.flowStacksReady = true →
    ∃ t, exec (.cacheOnlyEnd d) s = .next t ∧ t.rd (P.flow d) R.pgStatusState = 3 ∧ t.on (P.flow d) R.pgStatusDegraded = false ∧
      s.sameBut t [.regs, .due, .tab]) ∧
  (∀ (s : State) (a b v : Nat) (sl : Slot), s.regsOk = true → s.ready P.fe = true → s.on P.fe R.feKqCtrlEnable = false →
    a = s.rd P.fe R.feKqCfgSqLog2 → b = s.rd P.fe R.feKqCfgCqLog2 → v = s.rd P.fe R.feKqCfgMsixVector →
    (4 ≤ a → a ≤ 16 → 4 ≤ b → b ≤ 16 → v < 512 → bits (s.rd P.fe R.feKqSqBase) 1 5 = 0 → bits (s.rd P.fe R.feKqCqBase) 1 5 = 0 →
      s.slot 0 = some sl →
      ∃ t r, exec .feKqEnable s = .next t ∧ t.queue 0 = some r ∧ r.ents = [] ∧ r.qcb.state = 1 ∧ r.qcb.part = 0 ∧
        r.qcb.sqBase = s.rd P.fe R.feKqSqBase ∧ r.qcb.cqBase = s.rd P.fe R.feKqCqBase ∧ r.qcb.sqLog2 = a ∧ r.qcb.cqLog2 = b ∧ r.qcb.vector = v ∧
        r.qcb.prio = 7 ∧ r.qcb.phase = 1 ∧ r.qcb.sqHead = 0 ∧ r.qcb.sqTail = 0 ∧ r.qcb.cqHead = 0 ∧ r.qcb.cqTail = 0 ∧
        (t.slot 0).map (·.queue) = some (some 0) ∧ t.rd P.fe R.feKqCtrlEnable = 1 ∧ t.rd P.fe R.feKqCtrlCfgErr = 0 ∧
        (∀ q, q ≠ 0 → t.queue q = s.queue q) ∧ s.sameBut t [.regs, .due, .fe, .trace]) ∧
    ((a < 4 ∨ 16 < a ∨ b < 4 ∨ 16 < b ∨ 512 ≤ v ∨ bits (s.rd P.fe R.feKqSqBase) 1 5 ≠ 0 ∨ bits (s.rd P.fe R.feKqCqBase) 1 5 ≠ 0) →
      ∃ t, exec .feKqEnable s = .next t ∧ t.rd P.fe R.feKqCtrlCfgErr = 1 ∧ s.regsBut t [(P.fe, R.feKqCtrlCfgErr)] ∧ s.sameBut t [.regs]))

/-- FUNCTION_RESET (08 R361), HOT_RESET (R362), VF_ENABLE_CHANGE (09 R397), HOST_READ_ERROR (09; 19), MGMT_READ (20 R1007, R1008),
JTAG_INSTRUCTION (R1010 to R1012; the captured boundary bits are free, and the codes are log entry 19's neighbours). -/
def Obligations.FunctionResets : Prop :=
  (∀ (fn : Nat) (s : State), fn ≠ 0 → s.fnPresent fn = true →
    ∃ t, exec (.functionReset fn) s = .next t ∧ t.host.funcs[fn]? = some (Func.reset true) ∧ (∀ x ∈ t.host.shadows, x.1 ≠ fn) ∧
      (∀ x ∈ s.host.shadows, x.1 ≠ fn → x ∈ t.host.shadows) ∧ (∀ k, k ≠ fn → t.host.funcs[k]? = s.host.funcs[k]?) ∧
      t.host.vfEnable = s.host.vfEnable ∧ t.host.numVfs = s.host.numVfs ∧ s.sameBut t [.host]) ∧
  (∀ (s : State) (f : Func) (c : Instr), s.host.funcs[0]? = some f → f.present = true → c = .functionReset 0 ∨ c = .hotReset →
    ∃ t, exec c s = .next t ∧ t.host.funcs[0]? = some (Func.reset true) ∧ (∀ k, k ≠ 0 → t.fnPresent k = false) ∧ t.host.vfEnable = false ∧
      t.host.numVfs = 0 ∧ t.host.dueGroups = [] ∧ (c = .hotReset → t.host.shadows = []) ∧ s.sameBut t [.host, .due]) ∧
  (∀ (num : Nat) (en : Bool) (s : State),
    (num ≤ 16 → ∃ t, exec (.vfEnableChange num en) s = .next t ∧ t.host.vfEnable = en ∧ t.host.numVfs = num ∧
      t.host.funcs.length = s.host.funcs.length ∧ t.host.funcs[0]? = s.host.funcs[0]? ∧
      (∀ k f, s.host.funcs[k + 1]? = some f → t.host.funcs[k + 1]? =
        some (if f.present = (en && decide (k < num)) then f else Func.reset (en && decide (k < num)))) ∧ s.sameBut t [.host]) ∧
    (16 < num → exec (.vfEnableChange num en) s = .next s)) ∧
  (∀ (q i : Nat) (s : State) (e : Entry), s.regsOk = true → s.frozen = false → s.entry q i = some e → s.readsHost e = true →
    s.dmaOk (s.qFn q) = true → e.void = false → e.st = .granted ∨ e.st = .started →
    ∃ t, exec (.hostReadError q i) s = .next t ∧ t.endedWith q i St.memoryError 0 ∧ s.onlyEntry t q i ∧
      t.rd P.dma R.dmaHostErr = (s.rd P.dma R.dmaHostErr + 1) % 2 ^ 32 ∧ s.regsBut t ((P.dma, R.dmaHostErr) :: entryRegs) ∧
      s.sameBut t [.regs, .due, .fe, .trace]) ∧
  (∀ (off count : Nat) (s : State), s.pins.pwrGood = true → off < 64 → off + count ≤ 64 →
    ∃ t, exec (.mgmtRead off count) s = .next t ∧ t.out = { s.out with mgmt := (s.mgmtBlock.drop off).take count :: s.out.mgmt } ∧
      s.sameBut t [.out]) ∧
  (∀ (code : Nat) (s : State), s.pins.pwrGood = true → code < 6 →
    (code = 1 → ∃ t, exec (.jtagInstruction code) s = .next t ∧ t.pins = { s.pins with jtag := 1 } ∧
      t.out = { s.out with tdr := (32, s.idcode) :: s.out.tdr } ∧ s.sameBut t [.pins, .out]) ∧
    (code = 0 ∨ 3 ≤ code ∧ s.pins.perst = false → ∃ t, exec (.jtagInstruction code) s = .next t ∧ t.pins = { s.pins with jtag := 0 } ∧
      t.out = { s.out with tdr := (1, 0) :: s.out.tdr } ∧ s.sameBut t [.pins, .out]) ∧
    (code = 2 ∨ code = 3 ∧ s.pins.perst = true → ∃ t v, exec (.jtagInstruction code) s = .next t ∧ t.pins = { s.pins with jtag := code } ∧
      t.out = { s.out with tdr := (Config.boundaryBits, v) :: s.out.tdr } ∧ s.sameBut t [.pins, .out, .free]))

/-- RST_CMD_WARM (08 R355), WARM_RESET (R356, R368), FLOW_WRITEBACK_TIMEOUT (R358), POWER_GOOD_RISE (R351; 20 R995, R1013),
POWER_GOOD_FALL (20 R996), PERST_ASSERT, PERST_DEASSERT (08 R353, R354), RST_PART_CMD (R363, R364), PARTITION_RESET_DONE (R366).
The start times that PARTITION_RESET_DONE reads are the model's. -/
def Obligations.ResetCommands : Prop :=
  (∀ (data : Nat) (s : State), s.regsOk = true → s.pins.pwrGood = true → s.pins.perst = false →
    (data % 256 = 0xA5 → data.testBit 8 = true → s.rst.warm = none →
      ∃ t, exec (.rstCmdWarm data) s = .next t ∧ t.rst = { s.rst with warm := some 2, warmAt := s.ns, stopped := true } ∧ s.sameBut t [.rst]) ∧
    (data % 256 ≠ 0xA5 ∨ data.testBit 8 = false →
      ∃ t, exec (.rstCmdWarm data) s = .next t ∧ t.rd P.rst R.pgErrCodeCode = 2 ∧ s.regsBut t (errRegs P.rst) ∧ s.sameBut t [.regs, .due])) ∧
  (∀ (c : Instr) (s : State) (cause : Nat), s.regsOk = true → s.rst.warm = some cause →
    (c = .warmReset ∧ s.writeAllBack.dirtyLines = []) ∨ (c = .flowWritebackTimeout ∧ s.rst.warmAt + 4000000 ≤ s.ns) →
    ∃ t, exec c s = .next t ∧ t.bare ∧ t.rst = { RstSt.mk [] none 0 true s.pins.thermtrip true with warmAt := t.rst.warmAt } ∧
      t.rd P.rst R.rstCause = cause % 2 ^ 3 ∧
      (c = .flowWritebackTimeout → t.rd P.rst R.rstWbLost = s.dirtyLines.length % 2 ^ 32) ∧ (c = .warmReset → t.rd P.rst R.rstWbLost = 0) ∧
      (∀ (p : Nat) (f : Fld), 8 * p + f.pos ≠ 8 * P.rst + R.rstCause.pos → 8 * p + f.pos ≠ 8 * P.plant + R.plantCtrl.pos →
        (∀ x ∈ warmKept s.part.code, 8 * p + f.pos ≠ 8 * x.1 + x.2.pos) → t.rd p f = f.rst) ∧
      t.part = s.part ∧ t.time.ck4 = s.time.ck4 ∧ t.time.base = s.time.base ∧ t.flt.log = s.flt.log ∧ t.flt.seq = s.flt.seq ∧
      t.trust.records = s.trust.records ∧ t.nse.channels = s.nse.channels ∧ t.mem.host = s.mem.host ∧ t.mem.cm = [] ∧ t.mem.core = [] ∧
      t.mem.forest = [] ∧ t.pending = s.pending ∧ t.free = s.free) ∧
  (∀ (straps : Nat) (s : State), s.pins.pwrGood = false →
    ∃ t, exec (.powerGoodRise straps) s = .next t ∧ t.bare ∧ t.part = { s.part with straps := strapsOf straps } ∧
      t.regs = (State.init t.part).regs ∧ t.pins.pwrGood = true ∧ t.pins.lowState = true ∧ t.pins.perst = s.pins.perst ∧ t.mem.dev = [] ∧
      t.mem.host = s.mem.host ∧ t.flt = FltSt.reset ∧ t.trust.descs = s.trust.descs ∧ t.trust.banks = s.trust.banks ∧ t.time.ck4 = 0 ∧
      t.time.base = 0 ∧ t.pending = s.pending) ∧
  (∀ (s : State), s.pins.pwrGood = true →
    ∃ t, exec .powerGoodFall s = .next t ∧ t.bare ∧ t.part = s.part ∧ t.pins.pwrGood = false ∧ t.pins.lowState = true ∧ t.rst.held = true ∧
      t.regs = (State.init s.part).regs ∧ (∀ p, t.reaches p = false) ∧ t.pending = s.pending) ∧
  (∀ (s : State), s.pins.perst = false →
    (s.pins.pwrGood = true → ∃ t, exec .perstAssert s = .next t ∧ t.bare ∧ t.pins.perst = true ∧ t.rst.held = true ∧
      t.rd P.rst R.rstCause = 1 ∧ t.part = s.part ∧ t.time.ck4 = s.time.ck4 ∧ t.time.base = s.time.base ∧ t.flt.log = s.flt.log ∧
      t.mem.host = s.mem.host ∧ t.trust.records = (TrustSt.reset s.part.code).records ∧
      (∀ (p : Nat) (f : Fld), 8 * p + f.pos ≠ 8 * P.rst + R.rstCause.pos → 8 * p + f.pos ≠ 8 * P.plant + R.plantCtrl.pos →
        (∀ x ∈ perstKept s.part.code, 8 * p + f.pos ≠ 8 * x.1 + x.2.pos) → t.rd p f = f.rst)) ∧
    (s.pins.pwrGood = false → exec .perstAssert s = .next { s with pins := { s.pins with perst := true } })) ∧
  (∀ (s : State), s.pins.perst = true → s.pins.pwrGood = true →
    ∃ t, exec .perstDeassert s = .next t ∧ t.pins.perst = false ∧ t.rst = { s.rst with held := false } ∧
      (∀ a, Memory.get t.mem.dev a = 0) ∧ t.mem.cm = [] ∧ t.mem.host = s.mem.host ∧ (s.pins.jtag < 3 → t.pins.jtag = s.pins.jtag) ∧
      (3 ≤ s.pins.jtag → t.pins.jtag = 0) ∧ s.sameBut t [.pins, .mem, .rst]) ∧
  (∀ (mask p : Nat) (s : State), s.reaches P.rst = true → p < 16 → mask.testBit p = true → (∀ x ∈ s.rst.parts, x.1 ≠ p) →
    ∃ t, exec (.rstPartCmd mask) s = .next t ∧ (p, s.time.ck4) ∈ t.rst.parts ∧ (∀ q r, t.queue q = some r → r.qcb.part ≠ p) ∧
      (s.fnPresent (p + 1) = true → t.host.funcs[p + 1]? = some (Func.reset true)) ∧ (∀ x ∈ t.host.shadows, x.1 = p + 1 → s.fnPresent (p + 1) = false) ∧
      t.trust.records = s.trust.records ∧ t.pins = s.pins ∧ t.clk = s.clk ∧ t.time = s.time) ∧
  (∀ (p c : Nat) (s : State), s.regsOk = true → s.rst.parts.find? (fun x => x.1 = p) = some (p, c) →
    (∀ x ∈ s.fe.invs, x.2.part ≠ p) →
    ∃ t, exec (.partitionResetDone p) s = .next t ∧ t.rst = { s.rst with parts := s.rst.parts.filter (fun y => y.1 ≠ p) } ∧
      (t.rd P.rst R.pgIrqStatus).testBit 10 = true ∧ s.sameBut t [.regs, .due, .rst])

/-- GATE_CLOSE (07 R324), GATE_OPEN (R325, R326), SWITCH_TO_IOSC, SWITCH_TO_REF (R332, R334), COAST_DELAY_EXPIRY, REF_OK_HELD, RELOCK_DONE
(R332), REFCLK_LOSS (R328, R329, R335), REF_RETURN (R305, R333), PLL_LOCK (R308, R312). That a switch before the first lock and one to
the reference in use do nothing is log entry 17. -/
def Obligations.ClockReferences : Prop :=
  (∀ (g : Nat) (s : State), s.regsOk = true → s.gatePages g ≠ [] → s.gateOpenBit g = true →
    ((∀ p ∈ s.gatedBy g, s.on p R.pgCtrlEnable = false ∧ s.busy p = false) →
      ∃ t, exec (.gateClose g) s = .next t ∧ t.gateOpenBit g = false ∧ (∀ h, h ≠ g → t.gateOpenBit h = s.gateOpenBit h) ∧
        s.regsBut t [(P.clk, R.clkEn (g / 32))] ∧ s.sameBut t [.regs]) ∧
    ((∃ p ∈ s.gatedBy g, s.on p R.pgCtrlEnable = true ∨ s.busy p = true) →
      ∃ t, exec (.gateClose g) s = .next t ∧ t.gateOpenBit g = true ∧ t.rd P.clk R.pgErrCodeCode = 0x0100 ∧
        s.regsBut t ((P.clk, R.pgSentinel 5) :: errRegs P.clk) ∧ s.sameBut t [.regs, .due])) ∧
  (∀ (g : Nat) (s : State), s.regsOk = true → s.gatePages g ≠ [] →
    ∃ t, exec (.gateOpen g) s = .next t ∧ t.gateOpenBit g = true ∧ (∀ h, h ≠ g → t.gateOpenBit h = s.gateOpenBit h) ∧
      (∀ p ∈ s.gatedBy g, ∀ x, groupOf (p / 0x1000) = some x → s.groupPending x = false → t.groupPending x = true →
        s.on P.dev (R.devIrqRouteRouteEn x) = true → x ∈ t.host.dueGroups) ∧
      s.regsBut t [(P.clk, R.clkEn (g / 32))] ∧ s.sameBut t [.regs, .due]) ∧
  (∀ (c : Instr) (src : Nat) (s : State), s.regsOk = true → (c = .switchToIosc ∧ src = 1) ∨ (c = .switchToRef ∧ src = 0) →
    (s.clkState = 4 → ∃ t, exec c s = .next t ∧ t.rd P.clk R.pgErrCodeCode = 0x0104 ∧ s.regsBut t (errRegs P.clk) ∧ s.sameBut t [.regs, .due]) ∧
    (2 ≤ s.clkState → s.clkState ≠ 4 → src = 0 → s.on P.clk R.clkStateRefOk = false →
      ∃ t, exec c s = .next t ∧ t.rd P.clk R.pgErrCodeCode = 0x0103 ∧ s.regsBut t (errRegs P.clk) ∧ s.sameBut t [.regs, .due]) ∧
    (s.clkState = 3 ∨ s.clkState = 2 ∧ src = 1 ∨ s.clkState = 5 ∧ src = 0 → src = 0 → s.on P.clk R.clkStateRefOk = true →
      ∃ t, exec c s = .next t ∧ t.clkState = 4 ∧ t.clk = { s.clk with relockTo := 0 } ∧ t.rd P.clk R.pgStatusState = 0x81 ∧
        s.regsBut t rootRegs ∧ s.sameBut t [.regs, .due, .clk]) ∧
    (s.clkState = 2 ∨ s.clkState = 3 → src = 1 →
      ∃ t, exec c s = .next t ∧ t.clkState = 4 ∧ t.clk = { s.clk with relockTo := 1 } ∧ t.rd P.clk R.pgStatusState = 0x81 ∧
        t.ready P.clk = s.ready P.clk ∧ s.regsBut t rootRegs ∧ s.sameBut t [.regs, .due, .clk])) ∧
  (∀ (s : State), s.regsOk = true → s.clkState = 3 →
    (s.rd P.clk R.clkSrcCtrl = 1 ∨ s.rd P.clk R.clkSrcCtrl = 2 → s.clk.coastSince + 1000 * s.rd P.clk R.clkCoastDelay ≤ s.ns →
      ∃ t, exec .coastDelayExpiry s = .next t ∧ t.clkState = 4 ∧ t.clk = { s.clk with relockTo := 1 } ∧ s.regsBut t rootRegs ∧
        s.sameBut t [.regs, .due, .clk]) ∧
    (s.rd P.clk R.clkSrcCtrl = 0 → exec .coastDelayExpiry s = .next s)) ∧
  (∀ (s : State), s.regsOk = true → s.rd P.clk R.clkSrcCtrl = 2 → s.on P.clk R.clkStateRefOk = true → s.clkState = 3 ∨ s.clkState = 5 →
    s.clk.refOkSince + 1000000 ≤ s.ns →
    ∃ t, exec .refOkHeld s = .next t ∧ t.clkState = 4 ∧ t.clk = { s.clk with relockTo := 0 } ∧ s.regsBut t rootRegs ∧
      s.sameBut t [.regs, .due, .clk]) ∧
  (∀ (s : State), s.regsOk = true → s.clkState = 4 →
    ∃ t, exec .relockDone s = .next t ∧ t.clkState = (if s.clk.relockTo = 0 then 2 else 5) ∧ t.rd P.clk R.clkStateRefSrc = s.clk.relockTo % 2 ∧
      t.rd P.clk R.pgStatusState = 3 ∧ t.on P.clk R.pgStatusDegraded = false ∧ (t.rd P.clk R.pgIrqStatus).testBit 10 = true ∧
      s.regsBut t rootRegs ∧ s.sameBut t [.regs, .due]) ∧
  (∀ (s : State), s.regsOk = true → s.on P.clk R.clkStateRefOk = true →
    ∃ t, exec .refclkLoss s = .next t ∧ t.pins = { s.pins with refclk := false } ∧ t.on P.clk R.clkStateRefOk = false ∧
      t.rd P.clk R.clkFlagsRefLost = 1 ∧ (t.rd P.clk R.pgIrqStatus).testBit 8 = true ∧
      (s.clkState = 2 → t.clkState = 3 ∧ t.clk = { s.clk with coastSince := s.ns } ∧ t.rd P.clk R.pgStatusState = 0x80) ∧
      (s.clkState = 5 → t.clkState = 5 ∧ t.clk = s.clk) ∧
      s.regsBut t ((P.clk, R.clkStateRefOk) :: (P.clk, R.clkFlagsRefLost) :: (P.clk, R.pgSentinel 0) :: rootRegs) ∧
      s.sameBut t [.regs, .pins, .due, .clk]) ∧
  (∀ (s : State), s.regsOk = true → s.on P.clk R.clkStateRefOk = false →
    ∃ t, exec .refReturn s = .next t ∧ t.pins = { s.pins with refclk := true } ∧ t.on P.clk R.clkStateRefOk = true ∧
      t.clk = { s.clk with refOkSince := s.ns } ∧ (t.rd P.clk R.pgIrqStatus).testBit 9 = true ∧ t.clkState = s.clkState ∧
      s.regsBut t [(P.clk, R.clkStateRefOk), (P.clk, R.pgIrqStatus)] ∧ s.sameBut t [.regs, .pins, .due, .clk]) ∧
  (∀ (s : State), s.regsOk = true → s.pins.pwrGood = true → s.clkState ≤ 1 →
    ∃ t, exec .pllLock s = .next t ∧ t.clkState = (if s.on P.clk R.clkStateRefOk then 2 else 5) ∧
      t.rd P.clk R.clkStateRefSrc = (if s.on P.clk R.clkStateRefOk then 0 else 1) ∧
      (s.on P.clk R.clkStateRefOk = false → t.rd P.clk R.clkFlagsRefLost = 1) ∧ t.time = { s.time with ck4 := 0 } ∧
      (∀ i, i < 5 → t.rd P.clk (R.deskewStatLock i) = b2n (s.receives i)) ∧
      s.regsBut t ((P.clk, R.clkFlagsRefLost) :: (List.range 5).map (fun i => (P.clk, R.deskewStatLock i)) ++ rootRegs) ∧
      s.sameBut t [.regs, .time])

/-- DESKEW_TICK (07 R313 to R316; the direction of a positive error is log entry 18), IOSC_TRIM_WRITE (R341), TRIM_INTERVAL (R337 to R340),
TRIM_HOLD (R338), FMC_START (R346, R348), FMC_DONE (R346, R349), FMC_NO_EDGE, FMC_OVERFLOW (R348). -/
def Obligations.ClockLoops : Prop :=
  (∀ (errs : List Int) (s : State), s.regsOk = true → 2 ≤ s.clkState → errs.length = 5 → (∀ e ∈ errs, e.natAbs ≤ 8) →
    (∀ i, i < 5 → 0 < s.rd P.clk (R.deskewStatTap i) ∧ s.rd P.clk (R.deskewStatTap i) < 319) →
    ∃ t, exec (.deskewTick errs) s = .next t ∧ t.ready P.clk = s.ready P.clk ∧
      (∀ i e, i < 5 → s.receives i = true → errs[i]? = some e → t.rd P.clk (R.deskewStatLock i) = 1 ∧
        t.rd P.clk (R.deskewStatErr i) = ofS 8 e ∧
        t.rd P.clk (R.deskewStatTap i) = (if s.on P.clk R.deskewCtrl then s.rd P.clk (R.deskewStatTap i)
          else if e < 0 then s.rd P.clk (R.deskewStatTap i) + 1 else if 0 < e then s.rd P.clk (R.deskewStatTap i) - 1
          else s.rd P.clk (R.deskewStatTap i))) ∧
      (∀ i, i < 5 → s.receives i = false → t.rd P.clk (R.deskewStatTap i) = s.rd P.clk (R.deskewStatTap i)) ∧
      s.regsBut t ((List.range 5).flatMap (fun i => [(P.clk, R.deskewStatTap i), (P.clk, R.deskewStatLock i), (P.clk, R.deskewStatErr i)])) ∧
      s.sameBut t [.regs]) ∧
  (∀ (e : Int) (s : State), s.regsOk = true → 2 ≤ s.clkState →
    (8 < e.natAbs → e.natAbs ≤ 64 → s.ready P.clk = true →
      ∃ t, exec (.deskewTick [e]) s = .next t ∧ t.rd P.clk (R.deskewStatLock 0) = 0 ∧ t.ready P.clk = false ∧
        (32 < e.natAbs → t.rd P.clk R.clkFlagsDeskewAlarm = 1) ∧ s.sameBut t [.regs, .due]) ∧
    (64 < e.natAbs → ∃ t, exec (.deskewTick [e]) s = .next t ∧ s.turnsFatal t 0x0020)) ∧
  (∀ (v : Nat) (s : State), s.regsOk = true →
    (s.rd P.clk R.ioscTrimCtrlMode = 0 → (toS 24 v).natAbs ≤ 3000000 →
      ∃ t, exec (.ioscTrimWrite v) s = .next t ∧ t.rd P.clk R.ioscTrim = v % 2 ^ 24 ∧ s.regsBut t [(P.clk, R.ioscTrim)] ∧ s.sameBut t [.regs]) ∧
    (s.rd P.clk R.ioscTrimCtrlMode ≠ 0 → ∃ t, exec (.ioscTrimWrite v) s = .next t ∧ t.rd P.clk R.pgErrCodeCode = 0x0101 ∧
      s.regsBut t (errRegs P.clk) ∧ s.sameBut t [.regs, .due]) ∧
    (s.rd P.clk R.ioscTrimCtrlMode = 0 → 3000000 < (toS 24 v).natAbs → ∃ t, exec (.ioscTrimWrite v) s = .next t ∧
      t.rd P.clk R.pgErrCodeCode = 2 ∧ s.regsBut t (errRegs P.clk) ∧ s.sameBut t [.regs, .due])) ∧
  (∀ (n m : Nat) (s : State), s.regsOk = true → m = s.rd P.clk R.ioscTrimCtrlMode → m = 1 ∨ m = 2 →
    (s.frameHold = false → (trimErr n m).natAbs ≤ 10000 → s.on P.clk R.ioscTrimCtrlFreeze = false →
      ∃ t, exec (.trimInterval n) s = .next t ∧
        t.rd P.clk R.ioscTrim = ofS 24 (trimStep n m (toS 24 (s.rd P.clk R.ioscTrim)) (s.rd P.clk R.ioscTrimCtrlStepMax)) ∧
        t.rd P.clk R.ioscTrimErr = ofS 32 (trimErr n m) ∧ t.clk = { s.clk with trimEdge := s.ns } ∧
        s.regsBut t [(P.clk, R.ioscTrim), (P.clk, R.ioscTrimErr), (P.clk, R.pgSentinel 4)] ∧ s.sameBut t [.regs, .clk]) ∧
    (s.frameHold = true ∨ 10000 < (trimErr n m).natAbs →
      ∃ t, exec (.trimInterval n) s = .next t ∧ t.rd P.clk R.clkFlagsTrimHold = 1 ∧ (t.rd P.clk R.pgIrqStatus).testBit 12 = true ∧
        t.clk = { s.clk with trimEdge := s.ns } ∧
        s.regsBut t [(P.clk, R.ioscTrimErr), (P.clk, R.clkFlagsTrimHold), (P.clk, R.pgIrqStatus)] ∧ s.sameBut t [.regs, .due, .clk]) ∧
    (s.clk.trimEdge + (if m = 1 then 1100000000 else 2000) < s.ns →
      ∃ t, exec .trimHold s = .next t ∧ t.rd P.clk R.clkFlagsTrimHold = 1 ∧ (t.rd P.clk R.pgIrqStatus).testBit 12 = true ∧
        s.regsBut t [(P.clk, R.clkFlagsTrimHold), (P.clk, R.pgIrqStatus)] ∧ s.sameBut t [.regs, .due])) ∧
  (∀ (s : State), s.regsOk = true →
    (s.on P.clk R.fmcStatusBusy = false → ∃ t, exec .fmcStart s = .next t ∧ t.rd P.clk R.fmcStatusBusy = 1 ∧ t.rd P.clk R.fmcStatusDone = 0 ∧
      t.rd P.clk R.fmcStatusNoEdge = 0 ∧ t.rd P.clk R.fmcStatusOverflow = 0 ∧ t.clk = { s.clk with fmcAt := s.time.ck4 } ∧
      s.regsBut t [(P.clk, R.fmcStatusBusy), (P.clk, R.fmcStatusDone), (P.clk, R.fmcStatusNoEdge), (P.clk, R.fmcStatusOverflow)] ∧
      s.sameBut t [.regs, .clk]) ∧
    (s.on P.clk R.fmcStatusBusy = true → ∃ t, exec .fmcStart s = .next t ∧ t.rd P.clk R.pgErrCodeCode = 0x0102 ∧ s.regsBut t (errRegs P.clk) ∧
      s.sameBut t [.regs, .due])) ∧
  (∀ (n : Nat) (s : State), s.regsOk = true → s.on P.clk R.fmcStatusBusy = true →
    (s.fmcStopped (s.rd P.clk R.fmcCtrlRef) = false → n < 2 ^ 48 →
      ∃ t, exec (.fmcDone n) s = .next t ∧ t.rd P.clk R.fmcStatusBusy = 0 ∧ t.rd P.clk R.fmcStatusDone = 1 ∧
        t.rd P.clk R.fmcCount = (if s.fmcStopped (s.rd P.clk R.fmcCtrlMeas) then 0 else n) ∧ (t.rd P.clk R.pgIrqStatus).testBit 13 = true ∧
        s.regsBut t [(P.clk, R.fmcStatusBusy), (P.clk, R.fmcStatusDone), (P.clk, R.fmcCount), (P.clk, R.pgIrqStatus)] ∧
        s.sameBut t [.regs, .due]) ∧
    (s.clk.fmcAt + 2 ^ 30 ≤ s.time.ck4 → ∃ t, exec .fmcNoEdge s = .next t ∧ t.rd P.clk R.fmcStatusBusy = 0 ∧ t.rd P.clk R.fmcStatusNoEdge = 1 ∧
      s.regsBut t [(P.clk, R.fmcStatusBusy), (P.clk, R.fmcStatusNoEdge)] ∧ s.sameBut t [.regs]) ∧
    (∃ t, exec .fmcOverflow s = .next t ∧ t.rd P.clk R.fmcStatusBusy = 0 ∧ t.rd P.clk R.fmcStatusOverflow = 1 ∧
      s.regsBut t [(P.clk, R.fmcStatusBusy), (P.clk, R.fmcStatusOverflow)] ∧ s.sameBut t [.regs]))

/-- PWR_OFF_WRITE (17 R829, R830), DROOP_FLAG (R838), DROOP_LEVEL_RISE (R839), DROOP_HOLD_EXPIRY (R840), AVS_INTERVAL (R833 to R836), CPM_FATAL
(R837), AVSBUS_POLL (R823 to R827), EQ_TICK (R841 to R843). -/
def Obligations.PowerLoops : Prop :=
  (∀ (mask : Nat) (s : State), s.regsOk = true → s.rd P.pwr R.pwrOff < 2 ^ 24 →
    ∃ t, exec (.pwrOffWrite mask) s = .next t ∧
      (∀ b, b < 24 → mask.testBit b = (s.rd P.pwr R.pwrOff).testBit b ∨ mask.testBit b = false ∨
          s.gateOpenBit (if b < 16 then b else 160 + (b - 16)) = false → (t.rd P.pwr R.pwrOff).testBit b = mask.testBit b) ∧
      (∀ b, b < 24 → mask.testBit b = true → (s.rd P.pwr R.pwrOff).testBit b = false →
        (s.gateOpenBit (if b < 16 then b else 160 + (b - 16)) = true →
          (t.rd P.pwr R.pwrOff).testBit b = false ∧ t.rd P.pwr R.pgErrCodeCode = 0x0101) ∧
        (s.gateOpenBit (if b < 16 then b else 160 + (b - 16)) = false →
          (∀ p ∈ offPages b, ∀ f : Fld, f.pos < 32768 → t.rd p f = f.rst) ∧
          (b < 16 → ∀ a, b * 2 ^ 24 ≤ a → a < (b + 1) * 2 ^ 24 → Memory.get t.mem.cm a = 0))) ∧
      s.sameBut t [.regs, .mem, .due]) ∧
  (∀ (cpm : Nat) (s : State), s.regsOk = true → s.cpmPresent cpm = true →
    ∃ t, exec (.droopFlag cpm) s = .next t ∧ t.pwr.cpmDroop = s.pwr.cpmDroop.set cpm true ∧ t.pwr.lastDroop = s.ns ∧
      (s.frozen = false → t.rd P.pwr R.droopFlags = (s.rd P.pwr R.droopFlags + 1) % 2 ^ 32) ∧
      (s.loopFrozen 1 = false → t.pwr.droopActive = true ∧ t.rd P.clk R.clkStateSwallowLevel =
        (if s.rd P.clk R.clkStateSwallowLevel = 0 then s.rd P.pwr R.droopCfgLevelInit % 8 else s.rd P.clk R.clkStateSwallowLevel)) ∧
      (s.loopFrozen 1 = true → t.rd P.clk R.clkStateSwallowLevel = s.rd P.clk R.clkStateSwallowLevel) ∧
      s.regsBut t [(P.clk, R.clkStateSwallowLevel), (P.clk, R.pgSentinel 2), (P.clk, R.pgIrqStatus), (P.pwr, R.droopFlags), (P.pwr, R.pgSentinel 1)] ∧
      s.sameBut t [.regs, .due, .pwr]) ∧
  (∀ (s : State) (l : Nat), s.regsOk = true → s.loopFrozen 1 = false → l = s.rd P.clk R.clkStateSwallowLevel → 0 < l → l < 8 →
    (s.pwr.droopActive = true → l < s.rd P.pwr R.droopCfgMaxLevel → s.rd P.pwr R.droopCfgMaxLevel < 8 → s.pwr.lastStep + s.root32 ≤ s.ns →
      ∃ t, exec .droopLevelRise s = .next t ∧ t.rd P.clk R.clkStateSwallowLevel = l + 1 ∧
        s.regsBut t [(P.clk, R.clkStateSwallowLevel)] ∧ s.sameBut t [.regs, .pwr]) ∧
    (max s.pwr.lastDroop s.pwr.lastStep + s.rd P.pwr R.droopCfgHoldNs ≤ s.ns →
      ∃ t, exec .droopHoldExpiry s = .next t ∧ t.rd P.clk R.clkStateSwallowLevel = l - 1 ∧
        s.regsBut t [(P.clk, R.clkStateSwallowLevel)] ∧ s.sameBut t [.regs, .pwr])) ∧
  (∀ (lows : List Int) (s : State), s.regsOk = true → s.ready P.pwr = true →
    ∃ t, exec (.avsInterval lows) s = .next t ∧ (∀ x ∈ t.pwr.cpmDroop, x = false) ∧
      (s.loopFrozen 0 = true → ∀ r, r < 8 → t.vset r = s.vset r) ∧
      (s.loopFrozen 0 = false →
        (∀ r lim, r < 3 → lim = s.rd P.pwr (R.railLimits r) → lim < 2 ^ 32 → lim % 65536 ≤ s.vset r → s.vset r ≤ lim / 65536 →
          ((∃ m ∈ s.railCpms r, ∃ v, lows[m]? = some v ∧ v < (s.rd P.pwr R.avsTarget : Int)) → s.vset r + 5 ≤ lim / 65536 →
            t.vset r = s.vset r + 5) ∧
          ((∀ m ∈ s.railCpms r, ∀ v, lows[m]? = some v → (s.rd P.pwr R.avsTarget : Int) + 20 ≤ v) → s.rd P.pwr R.avsTarget ≤ 107 →
            (∀ m ∈ s.railCpms r, (s.pwr.cpmDroop[m]?).getD false = false) → (∃ n, s.pwr.goodRun[r]? = some n ∧ 9 ≤ n) →
            lim % 65536 + 5 ≤ s.vset r → t.vset r = s.vset r - 5)) ∧
        t.vset 3 = clampN (max (t.vset 0) (t.vset 1) + 50) (s.rd P.pwr (R.railLimits 3) % 65536) (s.rd P.pwr (R.railLimits 3) / 65536) % 65536) ∧
      s.sameBut t [.regs, .due, .pwr]) ∧
  (∀ (cpm : Nat) (m : Int) (s : State), s.regsOk = true → s.cpmPresent cpm = true → m ≤ 0 →
    ∃ t, exec (.cpmFatal cpm m) s = .next t ∧ s.turnsFatal t 0x0021 ∧ t.mem = s.mem ∧ t.fe = s.fe) ∧
  (∀ (reads : List (Option (Nat × Nat))) (s : State), s.regsOk = true →
    ∃ t, exec (.avsbusPoll reads) s = .next t ∧
      (∀ r mv ma, r < 8 → reads[r]? = some (some (mv, ma)) → s.railPresent r = true →
        t.rd P.pwr (R.railV r) = putBits (s.rd P.pwr (R.railV r)) 16 16 mv % 2 ^ 32 ∧ t.rd P.pwr (R.railI r) = ma % 2 ^ 32 ∧
        (r < s.pwr.railFail.length → t.pwr.railFail[r]? = some 0)) ∧
      (∀ r n, r < 8 → reads[r]? = some none → s.railPresent r = true → s.pwr.railFail[r]? = some n → 2 ≤ n →
        t.on P.pwr R.pgStatusDegraded = true ∧ ((n + 1) % 3 = 0 → (t.rd P.pwr R.pgIrqStatus).testBit 9 = true)) ∧
      t.rd P.pwr R.pwrTotal = meanOf t.pwr.hist 10 % 2 ^ 32 ∧ s.sameBut t [.regs, .due, .pwr]) ∧
  (∀ (lane : Nat) (dirs old : List Int) (s : State), s.regsOk = true → s.pagePresent (P.serdes (lane / 24)) = true →
    s.on (P.serdes (lane / 24)) (R.laneRxLock (lane % 24)) = true → old = (aget s.pwr.eq lane).getD (List.replicate 13 0) →
    (s.loopFrozen 2 = false → ∃ t, exec (.eqTick [(lane, dirs)]) s = .next t ∧
      aget t.pwr.eq lane = some ((List.range 13).map (fun k =>
        clampI (old.getD k 0 + clampI (dirs.getD k 0) (-1) 1) (eqRange k).1 (eqRange k).2)) ∧
      (∀ x, x ≠ lane → aget t.pwr.eq x = aget s.pwr.eq x) ∧ t.rd (P.serdes (lane / 24)) (R.laneEqAdapting (lane % 24)) = 1 ∧
      t.rd (P.serdes (lane / 24)) (R.laneEqFrozen (lane % 24)) = 0 ∧ s.sameBut t [.regs, .pwr]) ∧
    (s.loopFrozen 2 = true → ∃ t, exec (.eqTick [(lane, dirs)]) s = .next t ∧ t.rd (P.serdes (lane / 24)) (R.laneEqFrozen (lane % 24)) = 1 ∧
      t.rd (P.serdes (lane / 24)) (R.laneEqAdapting (lane % 24)) = 0 ∧ s.sameBut t [.regs]))

/-- THERMAL_SAMPLE (17 R851), HBM_TEMP_READ (R852), both with R853 and R854; THERMTRIP (R855, R856), GOV_TICK (R859 to R863; the rounding of
signed divisions is log entry 20), FLOOR_TICK (R874, R876), THM_ALARM_CLEAR (R854), HOUSEKEEPING_WATCHDOG (19 R943, R958). -/
def Obligations.ThermalLoops : Prop :=
  (∀ (temps : List (Option Int)) (s : State), s.regsOk = true →
    ∃ t, exec (.thermalSample temps) s = .next t ∧ t.alarmed ∧
      (∀ i v, i < 64 → s.sensorPresent i = true → temps[i]? = some (some v) → t.rd P.thm (R.thmSensor i) = ofS 16 v) ∧
      (∀ i, i < 64 → s.sensorPresent i = true → temps[i]? = some none →
        t.rd P.thm (R.thmSensor i) = 0x8000 ∧ t.on P.thm R.pgStatusDegraded = true) ∧
      (∀ i v, i < 64 → s.sensorPresent i = true → temps[i]? = some (some v) → (s.rd P.thm R.thmTrip : Int) ≤ v →
        i ∈ t.thm.tripRun ∧ (i ∈ s.thm.tripRun → i + 64 ∈ t.thm.tripRun)) ∧
      s.sameBut t [.regs, .due, .thm]) ∧
  (∀ (temps : List Int) (s : State), s.regsOk = true →
    ∃ t, exec (.hbmTempRead temps) s = .next t ∧ t.alarmed ∧
      (∀ k v, k < s.part.code.stacks → temps[k]? = some v → t.rd P.thm (R.thmHbm k) = ofS 16 v) ∧ s.sameBut t [.regs, .due, .thm]) ∧
  (∀ (s : State) (i : Nat), s.regsOk = true → s.thm.tripRun.find? (fun i => 64 ≤ i) = some i → s.pins.thermtrip = false →
    ∃ t, exec .thermtrip s = .next t ∧ t.pins.thermtrip = true ∧ t.pins.faultN = true ∧ t.rst.stopped = true ∧
      (∀ o, o < 4 → t.rd P.plant (R.pwmDutyOut o) = 1000) ∧ s.turnsFatal t 0x0022 ∧ t.mem = s.mem ∧ t.fe = s.fe) ∧
  (∀ (s : State), s.ready P.hk = false ∨ s.flt.hkStopped = true → exec .govTick s = .next s) ∧
  (∀ (s : State), s.regsOk = true → s.ready P.hk = true → s.flt.hkStopped = false →
    ∃ t, exec .govTick s = .next t ∧ t.rd P.thm R.govTpred = ofS 16 s.predict ∧ t.rd P.thm R.govFf = s.feedForward % 2 ^ 11 ∧
      t.rd P.hk R.hkTicks = (s.rd P.hk R.hkTicks + 1) % 2 ^ 32 ∧ t.flt.wdtServiced = s.ns ∧
      (s.loopFrozen 5 = true → t.rd P.thm R.govOutDuty = s.rd P.thm R.govOutDuty ∧ t.rd P.thm R.govOutCduty = s.rd P.thm R.govOutCduty ∧ t.thm = s.thm) ∧
      (s.loopFrozen 5 = false → ∀ e integ dmin : Int, ∀ duty : Nat, e = s.predict - (s.rd P.thm R.thmTarget : Int) →
        integ = clampI (s.thm.integ + e) (-(s.rd P.thm R.govImax : Int)) (s.rd P.thm R.govImax) →
        dmin = (s.rd P.thm R.govFfDuty / 65536 : Nat) →
        duty = (clampI (dmin + Int.tdiv ((s.rd P.thm R.govGain % 65536 : Nat) * e + (s.rd P.thm R.govGain / 65536 : Nat) * integ) 16 +
          ((s.rd P.thm R.govFfDuty % 65536 * s.feedForward / 1024 : Nat) : Int)) dmin 1000).toNat →
        t.thm = { s.thm with integ := integ } ∧ t.rd P.thm R.govOutDuty = duty % 2 ^ 10 ∧
        t.rd P.thm R.govOutCduty = nextCduty e duty (s.rd P.thm R.govOutCduty) (s.rd P.thm R.govCdutyMin) (s.rd P.pwr R.pwrMean / 65536)
          (s.rd P.pwr R.pwrMean % 65536) (s.rd P.pwr (R.pwrLimits s.part.code) % 65536) (s.rd P.pwr (R.pwrLimits s.part.code) / 65536) % 2 ^ 7) ∧
      s.regsBut t [(P.thm, R.govTpred), (P.thm, R.govFf), (P.thm, R.govOutDuty), (P.thm, R.govOutCduty), (P.hk, R.hkTicks),
        (P.thm, R.pgSentinel 2), (P.thm, R.pgSentinel 3), (P.thm, R.pgSentinel 4)] ∧ s.sameBut t [.regs, .thm, .flt]) ∧
  (∀ (s : State) (df fl : Nat), s.regsOk = true → df = s.rd P.thm R.govOutDF → fl = s.rd P.pwr (R.pwrFloor s.part.code) →
    (s.on P.thm R.thmStatusFloor = true → s.on P.plant R.plantStatusPumpLost = false → s.on P.thm R.thmStatusAlarm = false → s.pumpInLoss = false →
      ∃ t, exec .floorTick s = .next t ∧ t.rd P.thm R.thmStatusFloor = 0 ∧ t.thm = { s.thm with releasing := true } ∧
        s.regsBut t [(P.thm, R.thmStatusFloor)] ∧ s.sameBut t [.regs, .thm]) ∧
    (s.on P.thm R.thmStatusFloor = true → s.on P.plant R.plantStatusPumpLost = true ∨ s.on P.thm R.thmStatusAlarm = true ∨ s.pumpInLoss = true →
      df ≤ 64 → ∃ t, exec .floorTick s = .next t ∧
        t.rd P.thm R.govOutDF = (if fl < s.watts then max 1 (df - max (ceilDiv df 4) (ceilDiv (df * (s.watts - fl)) s.watts))
          else if s.watts * 20 ≤ fl * 19 ∧ df < s.rd P.thm R.govOutCduty then df + 1 else df) ∧
        s.regsBut t [(P.thm, R.govOutDF)] ∧ s.sameBut t [.regs]) ∧
    (s.on P.thm R.thmStatusFloor = false → s.thm.releasing = true → df ≤ 64 →
      ∃ t, exec .floorTick s = .next t ∧
        t.rd P.thm R.govOutDF = (if s.rd P.thm R.govOutCduty ≤ df + 4 then 64 else df + 4) ∧
        t.thm.releasing = decide (df + 4 < s.rd P.thm R.govOutCduty) ∧ s.regsBut t [(P.thm, R.govOutDF)] ∧ s.sameBut t [.regs, .thm])) ∧
  (∀ (s : State), s.regsOk = true →
    ((∃ x ∈ s.temps, (s.rd P.thm R.thmAlarm : Int) - 80 < x.2) → exec .thmAlarmClear s = .next s) ∧
    ((∀ x ∈ s.temps, x.2 ≤ (s.rd P.thm R.thmAlarm : Int) - 80) →
      ∃ t, exec .thmAlarmClear s = .next t ∧ t.rd P.thm R.thmStatusAlarm = 0 ∧ s.regsBut t [(P.thm, R.thmStatusAlarm)] ∧ s.sameBut t [.regs])) ∧
  (∀ (s : State), s.regsOk = true → s.ready P.hk = true → s.flt.wdtServiced + 100000000 ≤ s.ns →
    ∃ t, exec .housekeepingWatchdog s = .next t ∧ t.flt.hkStopped = true ∧ s.turnsFatal t 0x0023 ∧
      (s.flt.fatal = none → (t.flt.fatal.map (fun f => (f.hwOnly, f.warmCause))) = some (true, 4)) ∧
      t.rd P.hk R.hkWdtExpired = (s.rd P.hk R.hkWdtExpired + 1) % 2 ^ 32 ∧ t.mem = s.mem ∧ t.fe = s.fe)

/-- PUMP_LOSS (17 R872 to R874), PUMP_LOST_CLEAR (R877), TACH_EDGE, TACH_NO_EDGE (R867), PWM_PERIOD (R865, R866, R873), PLANT_SENSOR_READ (R869,
R870), REEL_STEP_MOVE (R845 to R848). -/
def Obligations.PlantLoops : Prop :=
  (∀ (i : Nat) (s : State), s.regsOk = true → i < 6 → s.ready P.plant = true → s.pumpIsLost i = true →
    ∃ t, exec (.pumpLoss i) s = .next t ∧ t.rd P.plant R.plantStatusPumpLost = 1 ∧ (t.rd P.plant R.plantStatusTachLost).testBit i = true ∧
      (t.rd P.plant R.pgIrqStatus).testBit 8 = true ∧
      (s.on P.plant R.plantCtrl = true → t.on P.thm R.thmStatusFloor = true ∧
        (s.on P.thm R.thmStatusFloor = false → t.rd P.thm R.govOutDF = min (s.rd P.thm R.govOutCduty) 16)) ∧
      (s.on P.plant R.plantCtrl = false → t.rd P.thm R.govOutDF = s.rd P.thm R.govOutDF ∧ t.thm = s.thm) ∧ s.sameBut t [.regs, .due, .thm]) ∧
  (∀ (s : State), s.regsOk = true →
    (s.pumpInLoss = true → exec .pumpLostClear s = .next s) ∧
    (s.pumpInLoss = false → ∃ t, exec .pumpLostClear s = .next t ∧ t.rd P.plant R.plantStatusPumpLost = 0 ∧
      s.regsBut t [(P.plant, R.plantStatusPumpLost)] ∧ s.sameBut t [.regs])) ∧
  (∀ (i old rate : Nat) (es l : List Nat) (s : State), s.regsOk = true → i < 6 → s.thm.tach[i]? = some l → l ≠ [] → es = (s.ns :: l).take 5 →
    es.getLast? = some old → old < s.ns →
    rate = (if s.tachKind i then 6 * 10 ^ 13 else 60 * 10 ^ 9) * (es.length - 1) / ((s.ns - old) * s.tachScale i) →
    ∃ t, exec (.tachEdge i) s = .next t ∧ t.thm.tach[i]? = some es ∧ t.rd P.plant (R.tachRate i) = satN 32 rate ∧
      (s.tachKind i = false ∨ s.rd P.plant (R.flowMin i) ≤ rate → (t.rd P.plant R.plantStatusTachLost).testBit i = false) ∧
      s.regsBut t [(P.plant, R.tachRate i), (P.plant, R.plantStatusTachLost)] ∧ s.sameBut t [.regs, .thm]) ∧
  (∀ (i : Nat) (s : State), s.regsOk = true → i < 6 → s.noEdge i = true →
    ∃ t, exec (.tachNoEdge i) s = .next t ∧ t.rd P.plant (R.tachRate i) = 0 ∧ (t.rd P.plant R.plantStatusTachLost).testBit i = true ∧
      s.regsBut t [(P.plant, R.tachRate i), (P.plant, R.plantStatusTachLost), (P.plant, R.pgIrqStatus)] ∧ s.sameBut t [.regs, .due, .thm]) ∧
  (∀ (s : State), s.regsOk = true → s.pins.thermtrip = true ∨ s.ready P.plant = true →
    ∃ t, exec .pwmPeriod s = .next t ∧ (∀ o, o < 4 → t.rd P.plant (R.pwmDutyOut o) = s.dutyFor o % 2 ^ 10) ∧
      s.regsBut t ((List.range 4).map (fun o => (P.plant, R.pwmDutyOut o))) ∧ s.sameBut t [.regs]) ∧
  (∀ (raws : List (Option Nat)) (s : State), s.regsOk = true →
    ∃ t, exec (.plantSensorRead raws) s = .next t ∧
      (∀ i raw, i < 8 → bits (s.rd P.plant (R.sensCfg i)) 20 2 ≠ 0 → raws[i]? = some (some raw) →
        t.rd P.plant (R.sensValueValid i) = 1 ∧ t.rd P.plant (R.sensValueTemp i) = ofS 16 (sensTemp (s.rd P.plant (R.sensCfg i)) raw)) ∧
      (∀ i, i < 8 → bits (s.rd P.plant (R.sensCfg i)) 20 2 ≠ 0 → raws[i]? = some none → s.thm.i3cFail[i]? = some 2 →
        t.rd P.plant (R.sensValueValid i) = 0 ∧ t.rd P.plant R.plantStatusSensorLost = 1 ∧ (t.rd P.plant R.pgIrqStatus).testBit 10 = true) ∧
      ((∀ n ∈ t.thm.i3cFail, n < 3) → t.rd P.plant R.plantStatusSensorLost = 0) ∧ s.sameBut t [.regs, .due, .thm]) ∧
  (∀ (n k c : Nat) (s : State) (v : Inv) (d : Bytes) (st : Step), s.inv n = some v → v.at_ k = some (d, st) → s.reelMay n k c v d st = true →
    (s.reelHot c = false → ∃ t v', exec (.reelStepMove n k c) s = .next t ∧ t.inv n = some v' ∧
      v'.step k = some { st with cluster := c, moved := true } ∧ (∀ j, j ≠ k → v'.step j = v.step j) ∧ v' = { v with steps := v'.steps } ∧
      (∀ m, m ≠ n → t.inv m = s.inv m) ∧ t.reelWindow st.cluster = ((s.reelWindow st.cluster).1, (s.reelWindow st.cluster).2.1,
        (s.reelWindow st.cluster).2.2 + 1) ∧ s.regsBut t [(P.pwr, R.reelStepMoves)] ∧ s.sameBut t [.regs, .fe, .pwr]) ∧
    (s.reelHot c = true → s.regsOk = true → s.frozen = false → ∃ t, exec (.reelStepMove n k c) s = .next t ∧
      t.rd P.pwr R.reelHotSkip = (s.rd P.pwr R.reelHotSkip + 1) % 2 ^ 32 ∧ s.regsBut t [(P.pwr, R.reelHotSkip)] ∧ s.sameBut t [.regs]))

/-- FRAME_RECEIVE (10 R442 to R453; 11 R501, R508, R519), PAUSE_FRAME (10 R449), PFC_FRAME (R450), PAUSE_EXPIRY (R449, R450), FLOW_LOOKUP (12
R563 to R568), TRIGGER_STAGE (13 R618 to R626, R635 to R641), HEAD_POINT (R628), ITEM_QUEUE (R624 to R634). The ordinal of a packet
without a flow is free (log entry 45). -/
def Obligations.FramesArrive : Prop :=
  (∀ (port k : Nat) (frame : Bytes) (s : State) (gs : GenSet), s.rxOpen port = true → u16be frame 12 ≠ 0x8808 →
    k = s.path.nextPkt → s.genSet s.rules.cur = some gs → s.regsOk = true → s.frozen = false →
    (64 ≤ frame.length + 4 → frame.length + 4 ≤ s.rd (P.port port) R.portMaxFrame →
      s.ready (P.parse (pipeOf port)) = true → s.ready (P.classp (pipeOf port)) = true → s.ready (P.flow (port / 4)) = true →
      (s.hasTag port frame = false ∨ s.rd (P.port port) R.portTagTagRx ≠ 1 ∧ s.rd (P.port port) R.portTagTagRx ≠ 2 →
        ∃ t p, exec (.frameReceive port frame) s = .next t ∧ t.pkt k = some p ∧ p.frame = frame ∧ p.port = port ∧ p.gen = s.rules.cur ∧
          p.tail = 0 ∧ p.reason = (s.rules.parse gs s.rules.cur port frame (s.hasTag port frame)).reason ∧
          p.held = false ∧ p.item = none ∧ p.committed = false ∧ t.path.nextPkt = k + 1 ∧ (∀ j, j ≠ k → t.pkt j = s.pkt j) ∧
          t.rd (P.port port) R.rxFrames = (s.rd (P.port port) R.rxFrames + 1) % 2 ^ 64 ∧ t.rules.cur = s.rules.cur ∧
          s.sameBut t [.regs, .rules, .path, .shares]) ∧
      (s.hasTag port frame = true → s.rd (P.port port) R.portTagTagRx = 1 →
        ∃ t p, exec (.frameReceive port frame) s = .next t ∧ t.pkt k = some p ∧ p.frame = frame.take 12 ++ frame.drop 28 ∧ p.port = port ∧
          t.path.nextPkt = k + 1 ∧ (∀ j, j ≠ k → t.pkt j = s.pkt j)) ∧
      (s.hasTag port frame = true → s.rd (P.port port) R.portTagTagRx = 2 →
        ∃ t, exec (.frameReceive port frame) s = .next t ∧ t.rd (P.port port) R.tagRxDrop = (s.rd (P.port port) R.tagRxDrop + 1) % 2 ^ 32 ∧
          s.sameBut t [.regs])) ∧
    (frame.length + 4 < 64 → ∃ t, exec (.frameReceive port frame) s = .next t ∧
      t.rd (P.port port) R.rxRunt = (s.rd (P.port port) R.rxRunt + 1) % 2 ^ 32 ∧ s.sameBut t [.regs]) ∧
    (64 ≤ frame.length + 4 → s.rd (P.port port) R.portMaxFrame < frame.length + 4 → ∃ t, exec (.frameReceive port frame) s = .next t ∧
      t.rd (P.port port) R.rxOversize = (s.rd (P.port port) R.rxOversize + 1) % 2 ^ 32 ∧ s.sameBut t [.regs]) ∧
    (64 ≤ frame.length + 4 → frame.length + 4 ≤ s.rd (P.port port) R.portMaxFrame → s.ready (P.parse (pipeOf port)) = false →
      ∃ t, exec (.frameReceive port frame) s = .next t ∧ s.sameBut t [.regs])) ∧
  (∀ (port q : Nat) (s : State) (e : EPort), s.regsOk = true → s.rxOpen port = true → q < 65536 → s.eport port = some e →
    (s.on (P.port port) R.portPausePauseEn = true → ∃ t, exec (.pauseFrame port q) s = .next t ∧
      t.eport port = some { e with paused := if q = 0 then 0 else s.pauseEnd port q } ∧
      t.rd (P.port port) R.portStatusPaused = b2n (q ≠ 0) ∧ (∀ x, x ≠ port → t.eport x = s.eport x) ∧ s.sameBut t [.regs, .path]) ∧
    (s.on (P.port port) R.portPausePauseEn = false → ∃ t, exec (.pauseFrame port q) s = .next t ∧ s.sameBut t [.regs]) ∧
    (∀ i quanta tc, i < 8 → s.on (P.port port) R.portPausePfcEn = true → quanta.getD i 0 = q → i < quanta.length →
      tc = s.rd (P.port port) R.portPcpTc / 2 ^ (3 * i) % 8 →
      ∃ t, exec (.pfcFrame port (2 ^ i) quanta) s = .next t ∧
        t.eport port = some { e with pfc := e.pfc.set tc (if q = 0 then 0 else s.pauseEnd port q) } ∧
        (t.rd (P.port port) R.portStatusPfcPaused).testBit tc = decide (q ≠ 0) ∧ (∀ x, x ≠ port → t.eport x = s.eport x) ∧
        s.sameBut t [.regs, .path])) ∧
  (∀ (port : Nat) (s : State) (e : EPort), s.regsOk = true → s.eport port = some e →
    ∃ t, exec (.pauseExpiry port) s = .next t ∧ t.rd (P.port port) R.portStatusPaused = b2n (decide (s.ns < e.paused)) ∧
      (∀ i, i < 8 → (t.rd (P.port port) R.portStatusPfcPaused).testBit i = decide (s.ns < e.pfc.getD i 0)) ∧
      s.regsBut t [(P.port port, R.portStatusPaused), (P.port port, R.portStatusPfcPaused)] ∧ s.sameBut t [.regs]) ∧
  (∀ (k : Nat) (s : State) (p : Pkt), s.pkt k = some p → p.stage = 0 → p.tail = 0 →
    (recFlowKey p.rec_ = 0 ∨ byteAt p.rec_ 0 % 2 = 0 → p.flow = none →
      ∃ t o, exec (.flowLookup k) s = .next t ∧ t.pkt k = some { p with stage := 1, tp := false, ordinal := o } ∧
        (∀ j, j ≠ k → t.pkt j = s.pkt j) ∧ s.sameBut t [.free, .path]) ∧
    (∀ fk d idx, recFlowKey p.rec_ ≠ 0 → byteAt p.rec_ 0 % 2 = 1 → d = p.die → fk = flowKeyOf (recPart p.rec_) (recFlowKey p.rec_) p.key →
      s.mem.poison = [] →
      (s.findKey d fk = some idx → ∃ t p', exec (.flowLookup k) s = .next t ∧ t.pkt k = some p' ∧ p'.stage = 1 ∧ p'.fkey = fk ∧
        p'.flow = some (flowHandle idx (ctxPart fk)) ∧ p'.ctx = s.flowCtx d idx ∧ p'.resv = p.resv ∧ p'.tail = 0 ∧
        p'.ordinal = satN 32 (fieldLE (s.flowCtx d idx) 68 4 + s.busyCount idx + 1) ∧ (∀ j, j ≠ k → t.pkt j = s.pkt j)) ∧
      (s.findKey d fk = none → s.findResv fk = none → (waysOf s.flowBuckets fk).find? (fun x => s.freeWay d x) = some idx →
        s.flowCount (ctxPart fk) < s.maxFlows (ctxPart fk) →
        ∃ t p', exec (.flowLookup k) s = .next t ∧ t.pkt k = some p' ∧ p'.stage = 1 ∧ p'.fkey = fk ∧ p'.resv = some idx ∧
          p'.flow = some (flowHandle idx (ctxPart fk)) ∧ p'.ordinal = satN 32 (s.busyCount idx + 1) ∧
          t.resvAt idx = some ⟨fk, [k]⟩ ∧ (∀ j, j ≠ k → t.pkt j = s.pkt j)))) ∧
  (∀ (k : Nat) (s : State) (p : Pkt), s.pkt k = some p → p.stage = 1 → p.fabric = false → byteAt p.rec_ 0 % 2 = 1 →
    (recTrigger p.rec_ = 0 → s.heldAhead p = none → ∃ t, exec (.triggerStage k) s = .next t ∧
      t.pkt k = some { p with stage := 2, epoch := some s.epoch, stampAt := s.ns, fired := false } ∧
      (∀ j, j ≠ k → t.pkt j = s.pkt j) ∧ s.sameBut t [.path]) ∧
    (p.reason = 0 → s.ready (P.trig p.die) = true → p.fires.1 = true → recMode p.rec_ = 2 → s.canInfer = true → s.taskFor p.rec_ s.epoch = true →
      s.ready (P.hold p.die) = true →
      (s.holdOcc p.die + s.cellsOf p ≤ 262144 → s.holdPart p.die (recPart p.rec_) + s.cellsOf p ≤ s.rd (P.hold p.die) (R.holdLimit (recPart p.rec_)) →
        ∃ t, exec (.triggerStage k) s = .next t ∧
          t.pkt k = some { p with stage := 2, epoch := some s.epoch, stampAt := s.ns, fired := true, held := true, ahead := s.heldAhead p, cells := s.cellsOf p } ∧
          t.mods = ((s.drainBy s.epoch 1).drainBy s.epoch 1).mods ∧ (∀ j, j ≠ k → t.pkt j = s.pkt j) ∧ s.sameBut t [.regs, .mods, .path]) ∧
      (262144 < s.holdOcc p.die + s.cellsOf p → s.regsOk = true →
        ∃ t, exec (.triggerStage k) s = .next t ∧
          t.pkt k = some { p with stage := 2, epoch := some s.epoch, stampAt := s.ns, fired := true } ∧
          t.mods = (s.drainBy s.epoch 1).mods ∧ (t.rd (P.hold p.die) R.pgIrqStatus).testBit 8 = true ∧
          (∀ j, j ≠ k → t.pkt j = s.pkt j) ∧ s.sameBut t [.regs, .due, .mods, .path]))) ∧
  (∀ (k : Nat) (s : State) (p : Pkt), s.pkt k = some p → p.fired = false → (124 ≤ p.frame.length ∨ p.tail ≠ 0) →
    ∃ t, exec (.headPoint k) s = .next t ∧ t.pkt k = some { p with head := true } ∧ (∀ j, j ≠ k → t.pkt j = s.pkt j) ∧ s.sameBut t [.path]) ∧
  (∀ (k : Nat) (s : State) (p : Pkt) (q : InQueue), s.pkt k = some p → p.fired = true → 2 ≤ p.stage → p.queued = false → p.tail = 1 →
    recTrigger p.rec_ ≠ 3 → aget s.fe.iqs (byteAt p.rec_ 6) = some q →
    (q.items.length < 2 ^ q.log2 → ∃ t it, exec (.itemQueue k) s = .next t ∧
      t.pkt k = some { p with item := some s.fe.nextItem, queued := true } ∧ it.bytes = p.itemBytes s.fe.nextItem ∧ it.pkt = some k ∧
      aget t.fe.iqs (byteAt p.rec_ 6) = some { q with items := q.items ++ [it] } ∧
      (∀ j, j ≠ byteAt p.rec_ 6 → aget t.fe.iqs j = aget s.fe.iqs j) ∧ t.fe.nextItem = (s.fe.nextItem + 1) % 2 ^ 32 ∧
      (∀ j, j ≠ k → t.pkt j = s.pkt j) ∧ s.sameBut t [.regs, .due, .fe, .trace, .path]) ∧
    (2 ^ q.log2 ≤ q.items.length → ∀ e, p.epoch = some e → ∃ t, exec (.itemQueue k) s = .next t ∧ t.pkt k = some { p with fired := false } ∧
      t.mods = (s.drainBy e (-1)).mods ∧ (∀ j, j ≠ k → t.pkt j = s.pkt j) ∧ s.sameBut t [.regs, .mods, .path]))

/-- TAIL_GOOD (12 R572), TAIL_BAD (R567; 13 R658), VERDICT_ARRIVE (13 R648 to R656), HOLD_DEADLINE (R643), VERDICT_STAGE (R662 to R665),
TRACKER_UPDATE (R669, R671), TRACKER_ANCHOR (R670), TRK_INIT (R673), RATE_DATA_WRITE (R666, R668). -/
def Obligations.VerdictsAndTails : Prop :=
  (∀ (k : Nat) (s : State) (p : Pkt), s.pkt k = some p → p.tail = 0 → p.reason = 0 → (∀ x ∈ s.path.slow, x.2.pkt ≠ k) → p.reasons = [] →
    (p.stage = 0 → ∃ t, exec (.tailGood k) s = .next t ∧
      t.pkt k = some { p with tail := 1, head := true, cells := if p.held then ceilDiv p.frame.length 256 else 0 } ∧
      (∀ j, j ≠ k → t.pkt j = s.pkt j) ∧ s.sameBut t [.path]) ∧
    (∀ h x, p.stage = 1 ∨ p.stage = 2 → p.committed = false → p.flow = some h → s.flowSplit = false → s.holderOf (h % 2 ^ 28) = some x →
      s.resvAt (h % 2 ^ 28) = none → s.validKey p.die (h % 2 ^ 28) p.fkey = true →
      ∃ t p', exec (.tailGood k) s = .next t ∧ t.pkt k = some p' ∧ p'.tail = 1 ∧ p'.committed = true ∧ p'.stage = p.stage ∧
        (t.lineOf x (h % 2 ^ 28)).map (·.ctx) = some (putAt (storeBytes (featureUpdate (s.flowCtx p.die (h % 2 ^ 28)) (fieldLE p.key 62 2) p.t
          (byteAt p.key 60) (byteAt p.key 18)) p.tpBytes p.tpMask) 102 (leBytes 1 (x % 4 + 4))) ∧
        (∀ j, j ≠ k → t.pkt j = s.pkt j) ∧ t.mem.host = s.mem.host)) ∧
  (∀ (k : Nat) (s : State) (p : Pkt), s.pkt k = some p → p.tail = 0 → p.flow = none → p.fired = false → p.held = false → p.copies = 0 →
    p.item = none → p.gen < 8 → (∀ x ∈ s.path.slow, x.2.pkt ≠ k) →
    (∀ e ∈ s.path.ports, (∀ q ∈ e.queues, ∀ x ∈ q, x.pkt ≠ some k) ∧ ∀ c, e.cur = some c → c.ent.pkt ≠ some k) →
    ∃ t, exec (.tailBad k) s = .next t ∧ t.pkt k = none ∧ (∀ j, j ≠ k → t.pkt j = s.pkt j) ∧ t.path.ports = s.path.ports ∧
      (s.regsOk = true → s.frozen = false → p.port < 16 → t.rd (P.port p.port) R.rxFcsErr = (s.rd (P.port p.port) R.rxFcsErr + 1) % 2 ^ 32) ∧
      s.sameBut t [.regs, .rules, .path]) ∧
  (∀ (die : Nat) (s : State) (v : VerdictMsg) (p : Pkt), s.path.verdicts.find? (fun x => x.die = die) = some v →
    s.ready (P.verdict die) = true → s.ready (P.rate die) = true → s.pkt v.pkt = some p → actBit v.rec_ 5 = false → vrValid v.rec_ = false →
    (p.held = true → p.release = 0 → v.held = true → ∃ t, exec (.verdictArrive die) s = .next t ∧
      t.pkt v.pkt = some { p with verdict := some v.rec_, early := decide (p.tail = 0), release := 1 } ∧ t.path.verdicts = s.path.verdicts.erase v ∧
      (∀ j, j ≠ v.pkt → t.pkt j = s.pkt j) ∧ s.sameBut t [.regs, .due, .trace, .shares, .path]) ∧
    (p.held = false → ∃ t, exec (.verdictArrive die) s = .next t ∧ t.path = { s.path with verdicts := s.path.verdicts.erase v } ∧
      (s.regsOk = true → s.frozen = false → v.held = true → p.tail ≠ 2 →
        t.rd (P.verdict die) R.verdictLate = (s.rd (P.verdict die) R.verdictLate + 1) % 2 ^ 32) ∧
      s.sameBut t [.regs, .due, .trace, .shares, .path])) ∧
  (∀ (k : Nat) (s : State) (p : Pkt), s.pkt k = some p → p.held = true → p.fired = true → recMode p.rec_ = 2 → p.release = 0 →
    p.stampAt + recBudget p.rec_ * 1000 ≤ s.ns →
    ∃ t, exec (.holdDeadline k) s = .next t ∧ t.pkt k = some { p with release := 2 } ∧ (∀ j, j ≠ k → t.pkt j = s.pkt j) ∧
      (s.regsOk = true → s.frozen = false → t.rd (P.hold p.die) R.holdExpired = (s.rd (P.hold p.die) R.holdExpired + 1) % 2 ^ 32) ∧
      s.regsBut t [(P.hold p.die, R.holdExpired)] ∧ s.sameBut t [.regs, .path]) ∧
  (∀ (k : Nat) (s u : State) (p : Pkt) (c : Choice), s.pkt k = some p → p.fabric = false → s.mayLeave p = true → p.held = false →
    s.choose p = (u, c) → s.moveBlocked p = false → actBit c.acts 2 = false → actBit c.acts 3 = false → actBit c.acts 4 = false →
    (∀ r ep, c.instead = 0 → actDisp c.acts = 1 → r = actRedirect c.acts → s.portReady r = true → s.portRemote r = false →
      s.eport r = some ep → ep.bytes + p.frame.length + 4 ≤ 4 * 2 ^ 20 →
      ∃ t e p', exec (.verdictStage k) s = .next t ∧
        t.eport r = some { ep with queues := ep.queues.modify (s.pktTc p r) (· ++ [e]) } ∧ e.frame = p.frame ∧ e.pkt = some k ∧
        e.part = recPart p.rec_ ∧ (∀ x, x ≠ r → t.eport x = s.eport x) ∧ t.pkt k = some p' ∧ p'.stage = 4 ∧ p'.copies = p.copies + 1 ∧
        p'.actions = c.acts ∧ (∀ j, j ≠ k → t.pkt j = s.pkt j) ∧ s.sameBut t [.regs, .path]) ∧
    (c.instead = 1 ∨ c.instead = 0 ∧ actDisp c.acts = 2 → p.copies = 0 → p.item = none → p.tail = 1 → p.gen < 8 →
      ∃ t, exec (.verdictStage k) s = .next t ∧ t.pkt k = none ∧ t.path.ports = s.path.ports ∧ t.path.slow = s.path.slow ∧
        (∀ j, j ≠ k → t.pkt j = s.pkt j) ∧ s.sameBut t [.regs, .rules, .path])) ∧
  (∀ (die cls score : Nat) (s : State) (tr : Tracker), cls < 256 →
    s.path.scores.find? (fun x => x.1 = die && x.2.1 = cls) = some (die, cls, score) → tr = s.tracker die cls → tr.enable = true →
    ∃ t, exec (.trackerUpdate die cls) s = .next t ∧ t.path.scores = s.path.scores.erase (die, cls, score) ∧
      (tr.freeze = false → (s.rd P.pwr R.pwrLoopFreeze).testBit 3 = false → (t.tracker die cls).theta = (track tr (toS 32 score)).theta) ∧
      (tr.freeze = true ∨ (s.rd P.pwr R.pwrLoopFreeze).testBit 3 = true → (t.tracker die cls).theta = tr.theta) ∧
      (t.tracker die cls).above = (if tr.theta < toS 32 score * 65536 then (tr.above + 1) % 2 ^ 32 else tr.above) ∧
      (∀ d c, c < 256 → (d ≠ die ∨ c ≠ cls) → t.tracker d c = s.tracker d c) ∧ s.sameBut t [.path]) ∧
  (∀ (die : Nat) (s : State), s.path.anchorAt / 1000000 < s.ns / 1000000 →
    ∃ t, exec (.trackerAnchor die) s = .next t ∧ (∀ c, c < 256 → t.tracker die c = { s.tracker die c with anchor := (s.tracker die c).theta }) ∧
      (∀ d c, d ≠ die → c < 256 → t.tracker d c = s.tracker d c) ∧ t.path.pkts = s.path.pkts ∧ s.sameBut t [.path]) ∧
  (∀ (die theta c : Nat) (s : State), die < s.part.code.ioDies → s.gated (P.verdict die) = false → c = s.rd (P.verdict die) R.trkSel → c < 256 →
    ∃ t, exec (.trkInit die theta) s = .next t ∧
      t.tracker die c = { s.tracker die c with theta := toS 32 theta * 65536, anchor := toS 32 theta * 65536 } ∧
      (∀ d x, x < 256 → (d ≠ die ∨ x ≠ c) → t.tracker d x = s.tracker d x) ∧ s.sameBut t [.path]) ∧
  (∀ (die data i : Nat) (s : State) (b : Bucket), die < s.part.code.ioDies → s.gated (P.rate die) = false → i = s.rd (P.rate die) R.rateSel →
    b = s.bucket die i →
    (∃ t, exec (.rateDataWrite die 0 data) s = .next t ∧
      t.bucket die i = { b with rate := data % 2 ^ 32, tokens := b.burst * 8000000, last := s.ns } ∧ s.sameBut t [.path]) ∧
    (∃ t, exec (.rateDataWrite die 4 data) s = .next t ∧
      t.bucket die i = { b with burst := data % 2 ^ 32, tokens := data % 2 ^ 32 * 8000000, last := s.ns } ∧ s.sameBut t [.path]) ∧
    (data % 4 ≠ 3 → ∃ t, exec (.rateDataWrite die 24 data) s = .next t ∧
      t.bucket die i = { b with exceed := data % 4, dscp := data / 256 % 64 } ∧ s.sameBut t [.path]) ∧
    (data % 4 = 3 → s.regsOk = true → ∃ t, exec (.rateDataWrite die 24 data) s = .next t ∧ (t.bucket die i).exceed = b.exceed ∧
      t.rd (P.rate die) R.pgErrCodeCode = 2 ∧ s.regsBut t (errRegs (P.rate die)) ∧ s.sameBut t [.regs, .due, .path]))

/-- EGRESS_START (10 R448, R455, R474, R479), PREEMPT_FRAGMENT (R489, R490), PREEMPT_VERIFY (R485), PORT_LINK_UP, PORT_LINK_DOWN (R445),
EGRESS_TIMESTAMP (R465 to R468), TS_POP (R466). -/
def Obligations.FramesLeave : Prop :=
  (∀ (port tc : Nat) (e : EgrEnt) (rest : List EgrEnt) (ep : EPort) (s : State), s.portReady port = true → s.portRemote port = false →
    s.rst.stopped = false → s.eport port = some ep → tc < 8 → ep.queues[tc]? = some (e :: rest) → s.tcPaused ep tc = false → s.tailIn e = true →
    s.wantsTag port e = false → s.preemptable port tc = false → e.left = 0 → ep.cur = none →
    (s.on (P.gate port) R.gateCtrlEnable = false → (∀ x, tc < x → ep.queues.getD x [] = []) →
      ∃ t, exec (.egressStart port) s = .next t ∧
        t.eport port = some { ep with queues := ep.queues.set tc rest, cur := some ⟨e, s.time.base, s.time.base + wire16 (e.frame.length + 4) (s.portRate port), e.frame, 0, tc, false⟩ } ∧
        (∀ x, x ≠ port → t.eport x = s.eport x) ∧ t.path.pkts = s.path.pkts ∧ s.sameBut t [.path]) ∧
    (s.regsOk = true → s.on (P.gate port) R.gateCtrlEnable = true → ep.oper = none → (s.rd (P.gate port) R.gateInitStates).testBit tc = false →
      e.counted = false → (∀ x, x ≠ tc → ep.queues.getD x [] = []) →
      ∃ t, exec (.egressStart port) s = .next t ∧ t.eport port = some { ep with queues := ep.queues.set tc ({ e with counted := true } :: rest) } ∧
        (s.frozen = false → t.rd (P.port port) R.heldForWindow = (s.rd (P.port port) R.heldForWindow + 1) % 2 ^ 32) ∧
        s.regsBut t [(P.port port, R.heldForWindow), (P.port port, R.pgSentinel 5)] ∧ s.sameBut t [.regs, .shares, .path])) ∧
  (∀ (port : Nat) (ep : EPort) (c : EgrCur) (s : State), s.regsOk = true → s.portReady port = true → s.portRemote port = false →
    s.rst.stopped = false → s.eport port = some ep → ep.cur = some c → c.frag = 0 → c.stop ≤ s.time.base → c.ent.pkt = none → c.ent.ptp = none →
    (∀ x, ep.queues.getD x [] = []) →
    ∃ t, exec (.egressStart port) s = .next t ∧ t.eport port = some { ep with cur := none } ∧
      t.out = { s.out with eth := (port, c.start / 65536, c.bytes, true) :: s.out.eth } ∧
      (s.frozen = false → t.rd (P.port port) R.txFrames = (s.rd (P.port port) R.txFrames + 1) % 2 ^ 64 ∧
        t.rd (P.port port) R.txBytes = (s.rd (P.port port) R.txBytes + (c.ent.frame.length + 4)) % 2 ^ 64) ∧
      (∀ x, x ≠ port → t.eport x = s.eport x) ∧ s.sameBut t [.regs, .shares, .out, .path]) ∧
  (∀ (port : Nat) (ep : EPort) (c : EgrCur) (s : State), s.eport port = some ep → ep.cur = some c →
    (c.frag = 0 ∨ s.time.base < c.stop → exec (.preemptFragment port) s = .next s) ∧
    (c.frag ≠ 0 → c.stop ≤ s.time.base →
      ∃ t, exec (.preemptFragment port) s = .next t ∧
        t.eport port = some { ep with cur := none, queues := ep.queues.modify c.tc ({ c.ent with left := c.ent.left + c.frag, counted := false } :: ·) } ∧
        t.out = { s.out with eth := (port, c.start / 65536, c.bytes.take c.frag, true) :: s.out.eth } ∧
        (s.regsOk = true → s.frozen = false →
          t.rd (P.port port) R.preemptFragments = (s.rd (P.port port) R.preemptFragments + 1) % 2 ^ 32) ∧
        (∀ x, x ≠ port → t.eport x = s.eport x) ∧ t.path.pkts = s.path.pkts ∧ s.sameBut t [.regs, .shares, .out, .path])) ∧
  (∀ (port : Nat) (ok : Bool) (e : EPort) (s : State), s.regsOk = true → s.portReady port = true → s.on (P.port port) R.portCfgPreemptEn = true →
    s.eport port = some e → e.preempt = false → e.verifyTries < 3 →
    (ok = true ∨ s.on (P.port port) R.portCfgVerifyDis = true →
      ∃ t, exec (.preemptVerify port ok) s = .next t ∧ t.eport port = some { e with preempt := true } ∧
        t.rd (P.port port) R.portStatusPreemptActive = 1 ∧ s.regsBut t [(P.port port, R.portStatusPreemptActive)] ∧ s.sameBut t [.regs, .path]) ∧
    (ok = false → s.on (P.port port) R.portCfgVerifyDis = false →
      ∃ t, exec (.preemptVerify port ok) s = .next t ∧ t.eport port = some { e with verifyTries := e.verifyTries + 1 } ∧
        (e.verifyTries = 2 → (t.rd (P.port port) R.pgIrqStatus).testBit 11 = true) ∧
        s.regsBut t [(P.port port, R.pgIrqStatus)] ∧ s.sameBut t [.regs, .due, .path])) ∧
  (∀ (port : Nat) (s : State), s.regsOk = true → s.portExists port = true → s.gated (P.port port) = false → port < s.path.ports.length →
    s.rd (P.port port) R.pgStatusState = 2 → s.rd (P.port port) R.portCfgSpeed ≠ 0 → s.on (P.port port) R.pgCtrlEnable = true →
    s.ready (P.serdes (port / 4)) = true → port < 16 →
    ∃ t, exec (.portLinkUp port) s = .next t ∧ t.rd (P.port port) R.portStatusLink = 1 ∧ t.rd (P.port port) R.portStatusPcsLock = 1 ∧
      t.rd (P.port port) R.pgStatusState = 3 ∧ t.ready (P.port port) = true ∧ (t.rd (P.port port) R.pgIrqStatus).testBit 8 = true ∧
      t.eport port = (s.eport port).map (fun e => { e with preempt := s.on (P.port port) R.portCfgPreemptEn && s.on (P.port port) R.portCfgVerifyDis, verifyTries := 0 }) ∧
      (∀ x, x ≠ port → t.eport x = s.eport x) ∧ s.sameBut t [.regs, .due, .path]) ∧
  (∀ (port : Nat) (ep : EPort) (s : State), s.regsOk = true → port < 16 → s.portExists port = true → s.on (P.port port) R.portStatusLink = true →
    s.eport port = some ep →
    ∃ t, exec (.portLinkDown port) s = .next t ∧ t.rd (P.port port) R.portStatusLink = 0 ∧ t.rd (P.port port) R.portStatusPcsLock = 0 ∧
      t.rd (P.port port) R.pgStatusState = 2 ∧ t.ready (P.port port) = false ∧ (t.rd (P.port port) R.pgIrqStatus).testBit 9 = true ∧
      t.eport port = some { ep with cur := none, queues := ep.queues.map (fun _ => []), preempt := false, verifyTries := 0, paused := 0, pfc := List.replicate 8 0 } ∧
      (s.frozen = false → t.rd (P.port port) R.txLinkDrop = (s.rd (P.port port) R.txLinkDrop + (ep.cur.toList.length + ep.queues.flatten.length)) % 2 ^ 32) ∧
      (∀ x, x ≠ port → t.eport x = s.eport x) ∧ s.sameBut t [.regs, .due, .fab, .trace, .out, .rules, .path]) ∧
  (∀ (port o k ty : Nat) (ts : Int) (ep : EPort) (c : EgrCur) (s : State), s.eport port = some ep → ep.cur = some c → port < 16 →
    ty = byteAt c.bytes o % 16 → ts = s.egressStamp port c.start →
    (c.ent.ptp = none → exec (.egressTimestamp port) s = .next s) ∧
    (c.ent.ptp = some (o, k) → 3 < ty →
      ∃ t, exec (.egressTimestamp port) s = .next t ∧ t.eport port = some { ep with cur := some { c with ent := { c.ent with ptp := none } } } ∧
        s.sameBut t [.path]) ∧
    (c.ent.ptp = some (o, k) → ty ≤ 3 → s.on (P.ptp 0) R.ptpCtrlPtpTcEn = false → c.ent.tsReq = 1 → ep.fifo.length < 64 → s.regsOk = true →
      ∃ t, exec (.egressTimestamp port) s = .next t ∧
        t.eport port = some { ep with cur := some { c with ent := { c.ent with ptp := none } }, fifo := ep.fifo ++ [stampBytes ts ++ leBytes 2 (u16be c.bytes (o + 30)) ++ leBytes 1 ty ++ leBytes 1 (byteAt c.bytes (o + 4))] } ∧
        t.rd (P.port port) R.tsStatus = ep.fifo.length + 1 ∧ (t.rd (P.port port) R.pgIrqStatus).testBit 10 = true ∧ s.sameBut t [.regs, .due, .path]) ∧
    (c.ent.ptp = some (o, k) → ty ≤ 3 → s.on (P.ptp 0) R.ptpCtrlPtpTcEn = false → c.ent.tsReq = 1 → 64 ≤ ep.fifo.length → s.regsOk = true →
      ∃ t, exec (.egressTimestamp port) s = .next t ∧ t.eport port = some { ep with cur := some { c with ent := { c.ent with ptp := none } } } ∧
        (s.frozen = false → t.rd (P.port port) R.tsFifoOverrun = (s.rd (P.port port) R.tsFifoOverrun + 1) % 2 ^ 32) ∧ s.sameBut t [.regs, .path]) ∧
    (c.ent.ptp = some (o, k) → ty = 0 → s.on (P.ptp 0) R.ptpCtrlPtpTcEn = false → c.ent.tsReq = 2 → s.on (P.port port) R.portPtp = false →
      ∃ t, exec (.egressTimestamp port) s = .next t ∧
        t.eport port = some { ep with cur := some { c with ent := { c.ent with ptp := none }, bytes := ptpPut c.bytes (o, k) 34 (beBytes 6 (ts.toNat / 65536 / 1000000000) ++ beBytes 4 (ts.toNat / 65536 % 1000000000)) } } ∧
        s.sameBut t [.path]) ∧
    (c.ent.ptp = some (o, k) → ty ≤ 3 → s.on (P.ptp 0) R.ptpCtrlPtpTcEn = true → c.ent.pkt.isSome = true → c.ent.tsReq = 0 →
      s.on (P.port port) R.portPtp = false →
      ∃ t, exec (.egressTimestamp port) s = .next t ∧
        t.eport port = some { ep with cur := some { c with ent := { c.ent with ptp := none }, bytes := ptpPut c.bytes (o, k) 8 (beBytes 8 (ofS 64 (toS 64 (fieldBE c.bytes (o + 8) 8) + (ts - c.ent.ingress)))) } } ∧
        s.sameBut t [.path])) ∧
  (∀ (port : Nat) (ep : EPort) (s : State), s.regsOk = true → port < 16 → s.eport port = some ep → ep.fifo.length ≤ 64 → s.portExists port = true →
    s.gated (P.port port) = false →
    ∃ t, exec (.tsPop port) s = .next t ∧ t.eport port = some { ep with fifo := ep.fifo.drop 1 } ∧
      t.rd (P.port port) R.tsStatus = ep.fifo.length - 1 ∧ s.regsBut t [(P.port port, R.tsStatus)] ∧ s.sameBut t [.regs, .path])

/-- GATE_COMMIT (10 R473, R474, R476), GATE_LIST_CHANGE (R473, R478), GATE_EVENT (R474), PTP_CAPTURE, PTP_STEP, PTP_RATE_WRITE (R458 to R462),
PPS_IN_EDGE, PPS_OUT_EDGE (R469). -/
def Obligations.GatesAndClock : Prop :=
  (∀ (port n cyc base : Nat) (ep : EPort) (s : State), s.regsOk = true → port < 16 → s.portExists port = true → s.gated (P.gate port) = false →
    s.eport port = some ep → n = s.rd (P.gate port) R.gateAdminLen → cyc = s.rd (P.gate port) R.gateAdminCycle → base = s.rd (P.gate port) R.gateAdminBase →
    (n < 1 ∨ 256 < n ∨ (∃ x ∈ s.adminList port, x.2 < 8) ∨ cyc < 64 ∨ 1000000000 < cyc →
      ∃ t, exec (.gateCommit port) s = .next t ∧ t.rd (P.gate port) R.gateCtrlCommit = 0 ∧ t.rd (P.gate port) R.pgErrCodeCode = 2 ∧ t.path = s.path ∧
        s.regsBut t ((P.gate port, R.gateCtrlCommit) :: errRegs (P.gate port)) ∧ s.sameBut t [.regs, .due]) ∧
    (1 ≤ n → n ≤ 256 → (∀ x ∈ s.adminList port, 8 ≤ x.2) → 64 ≤ cyc → cyc ≤ 1000000000 →
      ∃ t e, exec (.gateCommit port) s = .next t ∧ t.rd (P.gate port) R.gateCtrlCommit = 1 ∧ t.eport port = some e ∧
        (∃ ch k : Int, ch = base + k * cyc ∧ s.ptp16 + 2000 * 65536 ≤ ch * 65536 ∧ (ch - cyc) * 65536 < s.ptp16 + 2000 * 65536 ∧
          e = { ep with pendingList := some (ch, ⟨s.adminList port, base, cyc⟩), extend := e.extend } ∧
          t.rd (P.gate port) R.gateChange = ofS 64 ch ∧ (ep.oper = none → e.extend = none)) ∧
        (∀ x, x ≠ port → t.eport x = s.eport x) ∧
        s.regsBut t [(P.gate port, R.gateCtrlCommit), (P.gate port, R.gateChange)] ∧
        s.sameBut t [.regs, .path])) ∧
  (∀ (port : Nat) (ch : Int) (gl : GateList) (ep : EPort) (s : State), s.regsOk = true → port < 16 → s.eport port = some ep →
    ep.pendingList = some (ch, gl) →
    (s.ptp16 < ch * 65536 → exec (.gateListChange port) s = .next s) ∧
    (ch * 65536 ≤ s.ptp16 →
      ∃ t, exec (.gateListChange port) s = .next t ∧ t.eport port = some { ep with oper := some gl, pendingList := none, extend := none } ∧
        t.rd (P.gate port) R.gateCtrlCommit = 0 ∧ t.rd (P.gate port) R.gateOperBase = gl.base % 2 ^ 64 ∧
        t.rd (P.gate port) R.gateOperCycle = gl.cycle % 2 ^ 30 ∧
        (∀ tc, tc < 8 → t.rd (P.gate port) (R.gateMaxWindow tc) = ((gl.window tc).getD 0xFFFFFFFF) % 2 ^ 32) ∧
        t.rd (P.gate port) R.gateOperStates = (if s.on (P.gate port) R.gateCtrlEnable = true then gl.gatesAt s.ptp16 else 255) % 256 ∧
        (t.rd (P.gate port) R.pgIrqStatus).testBit 8 = true ∧ (∀ x, x ≠ port → t.eport x = s.eport x) ∧ s.sameBut t [.regs, .due, .path])) ∧
  (∀ (port : Nat) (s : State), s.regsOk = true → s.portExists port = true → s.gated (P.gate port) = false →
    ∃ t, exec (.gateEvent port) s = .next t ∧ t.rd (P.gate port) R.gateOperStates = s.gatesNow port % 256 ∧
      s.regsBut t [(P.gate port, R.gateOperStates)] ∧ s.sameBut t [.regs]) ∧
  (∀ (die : Nat) (s : State), s.regsOk = true → die < s.part.code.ioDies → s.gated (P.ptp die) = false →
    ∃ t, exec (.ptpCapture die) s = .next t ∧ t.rd (P.ptp die) R.ptpTimeNs = s.ptp16.toNat / 65536 % 1000000000 ∧
      t.rd (P.ptp die) R.ptpTimeSec = s.ptp16.toNat / 65536 / 1000000000 % 2 ^ 48 ∧ t.rd (P.ptp die) R.ptpTimeFrac = s.ptp16.toNat % 65536 ∧
      s.sameBut t [.regs]) ∧
  (∀ (die ns : Nat) (s : State), (die ≠ 0 → exec (.ptpStep die ns) s = .next s) ∧
    (die = 0 → s.gated (P.ptp 0) = false → ∃ t, exec (.ptpStep die ns) s = .next t ∧ t.ptpVal = s.ptpVal + toS 64 ns * 2 ^ 56 ∧
      t.path = { s.path with ptp := { s.path.ptp with val := t.path.ptp.val, at_ := t.path.ptp.at_ } } ∧ s.sameBut t [.path])) ∧
  (∀ (die rate : Nat) (s : State), (die ≠ 0 → exec (.ptpRateWrite die rate) s = .next s) ∧
    (die = 0 → s.regsOk = true → s.gated (P.ptp 0) = false → ∃ t, exec (.ptpRateWrite die rate) s = .next t ∧ t.ptpVal = s.ptpVal ∧
      t.rd (P.ptp 0) R.ptpRate = rate % 2 ^ 32 ∧
      (∀ (d : Nat) (u : State), u.path.ptp = t.path.ptp → u.rd (P.ptp 0) R.ptpRate = rate % 2 ^ 32 → u.ptpSource = t.ptpSource + d →
        u.ptpVal = s.ptpVal + d * (2 ^ 40 + toS 32 (rate % 2 ^ 32))) ∧
      s.regsBut t [(P.ptp 0, R.ptpRate)] ∧ s.sameBut t [.regs, .path])) ∧
  (∀ (s : State), (s.on (P.ptp 0) R.ptpPpsCtrlPpsInEn = false → exec .ppsInEdge s = .next s) ∧
    (s.on (P.ptp 0) R.ptpPpsCtrlPpsInEn = true → ∀ v, v = s.ptp16.toNat → ∃ t, exec .ppsInEdge s = .next t ∧
      t.path = { s.path with ptp := { s.path.ptp with ppsIn := leBytes 4 (v / 65536 / 1000000000) ++ leBytes 4 (v / 65536 / 1000000000 / 2 ^ 32) ++ leBytes 4 (v / 65536 % 1000000000) ++ leBytes 4 (v % 65536) } } ∧
      s.sameBut t [.path])) ∧
  (∀ (s : State) (sec : Nat), sec = (s.ptpNs / 1000000000).toNat →
    (s.on (P.ptp 0) R.ptpPpsCtrlPpsOutEn = false ∨ sec ≤ s.path.ptp.ppsSec → exec .ppsOutEdge s = .next s) ∧
    (s.on (P.ptp 0) R.ptpPpsCtrlPpsOutEn = true → s.path.ptp.ppsSec < sec → ∃ t, exec .ppsOutEdge s = .next t ∧
      t.pins = { s.pins with ppsOut := true } ∧
      t.path = { s.path with ptp := { s.path.ptp with ppsSec := sec, ppsHighUntil := s.ns + s.rd (P.ptp 0) R.ptpPpsCtrlPpsOutWidth } } ∧
      s.sameBut t [.pins, .path]))

/-- SLOW_PATH_DELIVER (11 R545 to R549), SLOW_PATH_IRQ (R550), REINJECT_DESCRIPTOR (R552 to R555), DATA_SEND (16 R800, R786), DATA_RECEIVE
(R801, R802; 13 R665). -/
def Obligations.CopiesAndCarriage : Prop :=
  (∀ (k n log head tail : Nat) (e : SlowEnt) (p : Pkt) (f : Func) (s : State), s.regsOk = true → e.part < 16 → e.pkt = k →
    s.path.slow.find? (fun (x : Nat × SlowEnt) => decide (x.2.pkt = k) && x.2.ready) = some (n, e) → s.pkt k = some p → p.die < 4 →
    (∀ x ∈ s.path.slow, x.1 < n → x.2.ready = true → x.2.part = e.part → (s.pkt x.2.pkt).map (·.port) ≠ some p.port) →
    log = s.rd ringPage (R.spRxCfgLog2 e.part) → log ≤ 16 → head = s.rd ringPage (R.spRxHead e.part) → tail = s.rd ringPage (R.spRxTail e.part) →
    s.on ringPage (R.spRxCfgEnable e.part) = true → s.host.funcs[e.part + 1]? = some f →
    (f.present = true → f.bme = true → s.ready P.pcie = true → s.ready P.dma = true → (tail + 1) % 2 ^ log ≠ head % 2 ^ log → p.classified = true →
      ∀ cap a ph : Nat, cap = min (2 ^ (s.rd ringPage (R.spRxCfgEntryLog2 e.part)) - 64) e.frame.length → a = s.rxEntry e.part tail →
        ph = (aget s.path.spPhase e.part).getD 1 →
      ∃ t, exec (.slowPathDeliver k) s = .next t ∧ t.path.slow = adel s.path.slow n ∧
        t.mem = { s.mem with host := Memory.write (Memory.write s.mem.host (a + 64) (e.frame.take cap)) a (slowRecord p e (s.recordTag p e) cap ph (b2n (2 ^ (s.rd ringPage (R.spRxCfgEntryLog2 e.part)) - 64 < e.frame.length))) } ∧
        t.rd ringPage (R.spRxTail e.part) = (tail + 1) % 2 ^ log % 2 ^ 16 ∧ e.part ∈ t.path.spIrqDue ∧
        ((tail + 1) % 2 ^ log = 0 → aget t.path.spPhase e.part = some (1 - ph)) ∧
        (s.frozen = false → t.rd (P.slowpath p.die) R.spDelivered = (s.rd (P.slowpath p.die) R.spDelivered + 1) % 2 ^ 32) ∧
        s.sameBut t [.regs, .mem, .due, .fab, .trace, .shares, .out, .rules, .path, .free]) ∧
    (f.present = true → f.bme = true → s.ready P.pcie = true → s.ready P.dma = true → (tail + 1) % 2 ^ log = head % 2 ^ log →
      ∃ t, exec (.slowPathDeliver k) s = .next t ∧ t.path.slow = adel s.path.slow n ∧ t.rd ringPage (R.spRxTail e.part) = tail ∧
        (s.frozen = false → t.rd (P.slowpath p.die) R.spRingFull = (s.rd (P.slowpath p.die) R.spRingFull + 1) % 2 ^ 32) ∧
        s.sameBut t [.regs, .due, .fab, .trace, .out, .rules, .path]) ∧
    (f.present = false ∨ f.bme = false →
      ∃ t, exec (.slowPathDeliver k) s = .next t ∧ t.path.slow = adel s.path.slow n ∧ t.rd ringPage (R.spRxTail e.part) = tail ∧
        (s.frozen = false → t.rd (P.slowpath p.die) R.spNoFunction = (s.rd (P.slowpath p.die) R.spNoFunction + 1) % 2 ^ 32) ∧
        s.sameBut t [.regs, .due, .fab, .trace, .out, .rules, .path])) ∧
  (∀ (die part v : Nat) (f : Func) (s : State), die < s.part.code.ioDies → part ∈ s.path.spIrqDue → v = s.rd ringPage (R.spRxCfgVector part) →
    s.host.funcs[part + 1]? = some f → f.present = true →
    (∀ n, aget s.path.spIrqAt part = some n → s.ns < n + s.rd ringPage (R.spRxHoldoff part) * 1000 → exec (.slowPathIrq die part) s = .next s) ∧
    ((∀ n, aget s.path.spIrqAt part = some n → n + s.rd ringPage (R.spRxHoldoff part) * 1000 ≤ s.ns) →
      ∃ t, exec (.slowPathIrq die part) s = .next t ∧ part ∉ t.path.spIrqDue ∧ aget t.path.spIrqAt part = some s.ns ∧
        (f.msixEn = true → f.msixMask = false → v ∈ f.vecOpen → f.bme = true → t.out = { s.out with msix := s.out.msix ++ [(part + 1, v)] } ∧ t.host = s.host) ∧
        (f.msixEn = false ∨ f.msixMask = true ∨ v ∉ f.vecOpen ∨ f.bme = false →
          t.out = s.out ∧ ∃ g, t.host.funcs[part + 1]? = some g ∧ v ∈ g.vecPend ∧ ∀ x, x ≠ part + 1 → t.host.funcs[x]? = s.host.funcs[x]?) ∧
        s.sameBut t [.host, .out, .path])) ∧
  (∀ (die part log head h fl port : Nat) (d fr : Bytes) (s : State), s.regsOk = true → die < s.part.code.ioDies → part < 16 →
    s.on ringPage (R.spTxCfgEnable part) = true → s.ready (P.slowpath die) = true → log = s.rd ringPage (R.spTxCfgLog2 part) → log ≤ 16 →
    head = s.rd ringPage (R.spTxHead part) → head % 2 ^ log ≠ s.rd ringPage (R.spTxTail part) % 2 ^ log → s.dmaOk (part + 1) = true →
    s.ready P.pcie = true → d = s.hostRead (s.rd ringPage (R.spTxBase part) + 32 * head) 32 → fr = s.hostRead (fieldLE d 0 8) (fieldLE d 8 2) →
    fl = byteAt d 11 → port = byteAt d 10 → h = (head + 1) % 2 ^ log →
    (s.txBad d = true →
      ∃ t, exec (.reinjectDescriptor die part) s = .next t ∧ t.rd ringPage (R.spTxHead part) = h % 2 ^ 16 ∧ t.path = s.path ∧
        (s.frozen = false → t.rd (P.slowpath die) R.spTxBad = (s.rd (P.slowpath die) R.spTxBad + 1) % 2 ^ 32) ∧
        t.mem = { s.mem with host := Memory.write s.mem.host (s.rd ringPage (R.spTxWb part)) (leBytes 4 h) } ∧ s.sameBut t [.regs, .mem]) ∧
    (∀ ep, s.txBad d = false → fl % 2 = 0 → s.portReady port = true → s.portRemote port = false → s.eport port = some ep →
      ep.bytes + fr.length + 4 ≤ 4 * 2 ^ 20 →
      ∃ t e, exec (.reinjectDescriptor die part) s = .next t ∧ t.rd ringPage (R.spTxHead part) = h % 2 ^ 16 ∧
        t.eport port = some { ep with queues := ep.queues.modify (byteAt d 13) (· ++ [e]) } ∧ e.frame = fr ∧ e.pkt = none ∧ e.part = part ∧
        e.tsReq = (if fl.testBit 2 = true then 2 else if fl.testBit 1 = true then 1 else 0) ∧ (fl.testBit 3 = true → e.tag = []) ∧
        (∀ x, x ≠ port → t.eport x = s.eport x) ∧ t.path.pkts = s.path.pkts ∧
        (s.frozen = false → t.rd (P.slowpath die) R.spTxFrames = (s.rd (P.slowpath die) R.spTxFrames + 1) % 2 ^ 32) ∧
        t.mem = { s.mem with host := Memory.write s.mem.host (s.rd ringPage (R.spTxWb part)) (leBytes 4 h) } ∧ s.sameBut t [.regs, .mem, .path])) ∧
  (∀ (k r : Nat) (rest : List Nat) (p : Pkt) (s : State), s.pkt k = some p → p.remote = r :: rest →
    (p.tail ≠ 1 → exec (.dataSend k) s = .next s) ∧
    (p.tail = 1 → p.stage ≠ 4 ∨ 2 ≤ p.copies →
      ∃ t, exec (.dataSend k) s = .next t ∧ t.pkt k = some { p with remote := rest, copies := p.copies - 1 } ∧ (∀ j, j ≠ k → t.pkt j = s.pkt j) ∧
        (s.hopFor (s.dataFrame p r) ≠ none → t.sent (s.rd P.fab (R.fabRportDevice r)) (.data p.frame)) ∧
        (s.hopFor (s.dataFrame p r) = none → s.regsOk = true → s.frozen = false →
          t.rd P.fab R.fabNorouteDrop = (s.rd P.fab R.fabNorouteDrop + 1) % 2 ^ 32 ∧ t.out = s.out) ∧
        s.sameBut t [.regs, .due, .fab, .trace, .out, .path])) ∧
  (∀ (port : Nat) (b : Bytes) (fr : MFrame) (s : State), s.hears port fr → fr.body = .data b →
    (∀ ep, s.carriedOk fr.epoch = true → s.portReady fr.egress = true → s.portRemote fr.egress = false → s.eport fr.egress = some ep →
      ep.bytes + b.length + 4 ≤ 4 * 2 ^ 20 →
      ∃ t e, exec (.dataReceive port fr) s = .next t ∧
        t.eport fr.egress = some { ep with queues := ep.queues.modify (s.pktTc (s.carried fr b) fr.egress % 8) (· ++ [e]) } ∧ e.frame = b ∧ e.pkt = none ∧
        e.tag = carriedTag fr (s.carried fr b) ∧ (∀ x, x ≠ fr.egress → t.eport x = s.eport x) ∧ t.path.pkts = s.path.pkts ∧
        s.sameBut t [.regs, .due, .fab, .trace, .out, .path]) ∧
    (s.carriedOk fr.epoch = true → s.portReady fr.egress = false ∨ s.portRemote fr.egress = true →
      ∃ t, exec (.dataReceive port fr) s = .next t ∧ t.path = s.path ∧
        (s.regsOk = true → s.frozen = false → t.rd P.fab R.fabRxNoport = (s.rd P.fab R.fabRxNoport + 1) % 2 ^ 32) ∧
        s.sameBut t [.regs, .due, .fab, .trace, .out]) ∧
    (s.carriedOk fr.epoch = false → recMismatch (s.carried fr b).rec_ = 2 →
      ∃ t, exec (.dataReceive port fr) s = .next t ∧ t.path = s.path ∧
        (s.regsOk = true → (t.rd (P.verdict (s.carried fr b).die) R.pgIrqStatus).testBit 9 = true ∧ (s.frozen = false →
          t.rd (P.verdict (s.carried fr b).die) R.epochMismatch = (s.rd (P.verdict (s.carried fr b).die) R.epochMismatch + 1) % 2 ^ 32)) ∧
        s.sameBut t [.regs, .due, .fab, .trace, .shares, .out]))

/-- FP_TRAINING, FP_TRAINING_TIMEOUT (16 R757), FP_DOWN (R758, R759), HELLO (R764, R771), HELLO_SEND (R771), CREDIT_FRAME (R764, R765),
CREDIT_RETURN_TIMER (R766), MARK_SEND (R769), MARK_RECEIVE (R767, R770; 07 R337), MELAZ_FRAME_FORWARD (R761, R786). -/
def Obligations.FabricLinks : Prop :=
  (∀ (p : Nat) (x : FPort) (s : State), s.fport p = some x → s.mayTrain p = true →
    (x.st = 0 → ∃ t, exec (.fpTraining p) s = .next t ∧ t.fport p = some { x with st := 1, since := s.ns } ∧
      (∀ q, q ≠ p → t.fport q = s.fport q) ∧ s.sameBut t [.fab]) ∧
    (x.st = 1 → ∃ t y h, exec (.fpTraining p) s = .next t ∧ t.fport p = some y ∧ y.st = 3 ∧ y.since = s.ns ∧ y.helloAt = s.ns + 1000000 ∧
      t.sent 0xFF (.hello h) ∧ h.serial = s.rd P.dev R.devSerial ∧ h.port = p ∧ h.role = s.role ∧ h.id = s.myId ∧ h.epoch = s.epoch ∧
      h.digest = s.configDigest ∧ (∀ q, q ≠ p → t.fport q = s.fport q) ∧ s.sameBut t [.regs, .due, .fab, .trace, .out])) ∧
  (∀ (p : Nat) (x : FPort) (s : State), s.fport p = some x →
    (x.st = 1 ∧ x.since + 500000000 ≤ s.ns ∨ x.st = 3 ∧ x.since + 10000000 ≤ s.ns →
      ∃ t, exec (.fpTrainingTimeout p) s = .next t ∧ t.fport p = some (downFPort s.ns) ∧ (∀ q, q ≠ p → t.fport q = s.fport q) ∧ s.sameBut t [.fab]) ∧
    (x.st ≠ 1 → x.st ≠ 3 → exec (.fpTrainingTimeout p) s = .next s)) ∧
  (∀ (p : Nat) (fecLost : Bool) (x : FPort) (s : State), s.fport p = some x →
    (fecLost = false → s.ns < max x.since x.lastRx + 3000 → exec (.fpDown p fecLost) s = .next s) ∧
    (x.st = 3 ∨ x.st = 4 → fecLost = true ∨ x.lastRx ≠ 0 ∧ max x.since x.lastRx + 3000 ≤ s.ns →
      ∃ t, exec (.fpDown p fecLost) s = .next t ∧ t.fport p = some (downFPort s.ns) ∧ (∀ q, q ≠ p → t.fport q = s.fport q) ∧
        (s.regsOk = true → s.frozen = false → t.rd (P.fport p) R.fpDownEvents = (s.rd (P.fport p) R.fpDownEvents + 1) % 2 ^ 32) ∧
        s.regsBut t [(P.fport p, R.fpDownEvents)] ∧ s.sameBut t [.regs, .fab])) ∧
  (∀ (p : Nat) (h : Hello) (fr : MFrame) (x : FPort) (s : State), s.hearsAny p fr x → fr.body = .hello h → fr.crCount = 0 → x.st = 3 →
    x.granted = false → x.peerSerial = none ∨ x.peerSerial = some h.serial →
    ∃ t y, exec (.hello p fr) s = .next t ∧ t.fport p = some y ∧ y.st = 4 ∧ y.since = s.ns ∧ y.peer = some h ∧ y.peerSerial = some h.serial ∧
      t.sent 0xFF .credit ∧ (∀ q, q ≠ p → t.fport q = s.fport q) ∧ s.sameBut t [.regs, .due, .fab, .trace, .out]) ∧
  (∀ (p n : Nat) (h : Hello) (fr : MFrame) (x : FPort) (s : State), s.hearsAny p fr x → fr.body = .hello h → x.st = 3 ∨ x.st = 4 →
    x.peerSerial = some n → n ≠ h.serial →
    ∃ t, exec (.hello p fr) s = .next t ∧ (t.fport p).map (·.st) = some 0 ∧ (t.fport p).bind (·.peer) = none ∧
      (s.regsOk = true → s.frozen = false → t.rd (P.fport p) R.fpDownEvents = (s.rd (P.fport p) R.fpDownEvents + 1) % 2 ^ 32) ∧
      (∀ q, q ≠ p → t.fport q = s.fport q) ∧ s.sameBut t [.regs, .due, .fab, .trace, .out]) ∧
  (∀ (s : State), ∃ t, exec .helloSend s = .next t ∧
    (∀ p x, p < 8 → s.fport p = some x → x.st = 5 → x.helloAt ≤ s.ns → t.sent 0xFF (.hello (s.ownHello p))) ∧
    (∀ p, s.fup p = false → t.fport p = s.fport p) ∧
    (∀ p x, s.fport p = some x → s.ns < x.helloAt → x.sentHello = some (s.ownHello p) → t.fport p = s.fport p) ∧
    s.sameBut t [.regs, .due, .fab, .trace, .out]) ∧
  (∀ (p : Nat) (fr : MFrame) (x : FPort) (s : State), s.hearsAny p fr x → fr.body = .credit → x.st = 5 → fr.crVc < 3 → x.queue = [] →
    ∃ t y, exec (.creditFrame p fr) s = .next t ∧ t.fport p = some y ∧ y.credits = x.credits.modify fr.crVc (· + fr.crCount) ∧ y.st = 5 ∧
      (∀ q, q ≠ p → t.fport q = s.fport q) ∧ t.out = s.out ∧ s.sameBut t [.regs, .due, .fab, .trace]) ∧
  (∀ (p : Nat) (x : FPort) (s : State), s.fport p = some x → x.st = 5 →
    (s.ns < x.owedSince + 1000 → exec (.creditReturnTimer p) s = .next s) ∧
    (x.owedSince + 1000 ≤ s.ns → x.owed.length = 3 → (∃ n ∈ x.owed, n ≠ 0) →
      ∃ t y, exec (.creditReturnTimer p) s = .next t ∧ t.sent 0xFF .credit ∧ t.fport p = some y ∧ (∀ n ∈ y.owed, n = 0) ∧
        (∀ q, q ≠ p → t.fport q = s.fport q) ∧ s.sameBut t [.regs, .due, .fab, .trace, .out])) ∧
  (∀ (us : Nat) (s : State), us = (s.fab16 / 65536000).toNat → ∃ t, exec .markSend s = .next t ∧
    (∀ p x, p < 8 → s.fport p = some x → x.st = 5 → x.markTx ≠ us → t.sent 0xFF (.mark us ((s.fab16 - us * 65536000).toNat) x.sent)) ∧
    (∀ p x, s.fport p = some x → x.st ≠ 5 ∨ x.markTx = us → t.fport p = s.fport p) ∧ s.sameBut t [.regs, .due, .fab, .trace, .out]) ∧
  (∀ (p us delay : Nat) (cum : List Nat) (fr : MFrame) (x : FPort) (s : State), s.hearsAny p fr x → fr.body = .mark us delay cum → (∀ z ∈ x.recvd, z < 2 ^ 32) →
    ∃ t y, exec (.markReceive p fr) s = .next t ∧ t.fport p = some y ∧ y.markRx = some us ∧ y.st = x.st ∧
      (s.regsOk = true → s.frozen = false →
        t.rd (P.fport p) R.fpMarkMiss = (s.rd (P.fport p) R.fpMarkMiss + (match x.markRx with | some m => us - m - 1 | none => 0)) % 2 ^ 32 ∧
        t.rd (P.fport p) R.fpCreditResync = (s.rd (P.fport p) R.fpCreditResync + ((List.range 3).filter (fun v =>
          decide (0 < (cum.getD v 0 + 2 ^ 32 - x.recvd.getD v 0) % 2 ^ 32) && decide ((cum.getD v 0 + 2 ^ 32 - x.recvd.getD v 0) % 2 ^ 32 < 2 ^ 31))).length) % 2 ^ 32) ∧
      t.clk = (if s.rd P.clk R.ioscTrimCtrlMode = 2 ∧ s.rd P.clk R.ioscTrimCtrlFramePort = p then { s.clk with trimEdge := s.ns } else s.clk) ∧
      (∀ q, q ≠ p → t.fport q = s.fport q) ∧ s.sameBut t [.regs, .due, .fab, .trace, .out, .clk]) ∧
  (∀ (p : Nat) (fr : MFrame) (x : FPort) (s : State), s.hearsAny p fr x → fr.dst ≠ 0xFE → fr.dst ≠ 0xFF → fr.dst ≠ s.myId → s.ready P.fab = true →
    (fr.ttl ≤ 1 → ∃ t, exec (.melazFrameForward p fr) s = .next t ∧
      (s.regsOk = true → s.frozen = false → t.rd P.fab R.fabTtlDrop = (s.rd P.fab R.fabTtlDrop + 1) % 2 ^ 32) ∧
      s.sameBut t [.regs, .due, .fab, .trace, .out]) ∧
    (1 < fr.ttl → ∃ t, exec (.melazFrameForward p fr) s = .next t ∧
      (s.hopFor { fr with ttl := fr.ttl - 1, crVc := 0, crCount := 0, arrival := 0 } ≠ none → t.sent fr.dst fr.body) ∧
      (s.hopFor { fr with ttl := fr.ttl - 1, crVc := 0, crCount := 0, arrival := 0 } = none → s.regsOk = true → s.frozen = false →
        t.rd P.fab R.fabNorouteDrop = (s.rd P.fab R.fabNorouteDrop + 1) % 2 ^ 32) ∧ s.sameBut t [.regs, .due, .fab, .trace, .out]))

/-- ELECTION_START (16 R774, R776), ELECT (R773, R775, R776), ELECT_QUIET_EXPIRY (R777, R778), CLAIM (R778, R779, R753), ASSIGN_JOIN,
ASSIGN_TABLE (R782), ROUTE_COMPUTE, ROUTE_TABLE (R783 to R786), RPORT_BIND (R798, R799). -/
def Obligations.ManagerElection : Prop :=
  (∀ (s : State),
    (s.ready P.fab = false ∨ s.role = 1 ∨ s.upPorts = [] ∨ s.electionDue = false → exec .electionStart s = .next s) ∧
    (s.regsOk = true → s.ready P.fab = true → s.role ≠ 1 → s.upPorts ≠ [] → s.electionDue = true →
      ∃ t, exec .electionStart s = .next t ∧ t.role = 1 ∧ t.rd P.fab R.fabTerm = (s.topTerm + 1) % 2 ^ 32 ∧ t.fab.mgr = none ∧
        (s.rd P.fab R.fabCfg0Priority ≠ 0 → ∃ k, t.fab.best = some k ∧ k.prio = s.rd P.fab R.fabCfg0Priority ∧ k.serial = s.rd P.dev R.devSerial ∧
          t.sent 0xFE (.elect false ((s.topTerm + 1) % 2 ^ 32) k t.fab.latest)) ∧
        (s.rd P.fab R.fabCfg0Priority = 0 → t.fab.best = none) ∧
        (s.frozen = false → t.rd P.fab R.fabElections = (s.rd P.fab R.fabElections + 1) % 2 ^ 32) ∧
        s.sameBut t [.regs, .due, .fe, .fab, .trace, .out])) ∧
  (∀ (p term latest : Nat) (key : Key) (fr : MFrame) (x : FPort) (s : State), s.hearsAny p fr x → fr.body = .elect false term key latest → s.regsOk = true →
    (term < s.rd P.fab R.fabTerm ∨ term = s.rd P.fab R.fabTerm ∧ s.role ≠ 1 →
      ∃ t, exec (.elect p fr) s = .next t ∧ t.fab = { s.fab with ports := t.fab.ports } ∧ t.rd P.fab R.fabTerm = s.rd P.fab R.fabTerm ∧
        t.role = s.role ∧ s.sameBut t [.regs, .due, .fab, .trace, .out]) ∧
    (s.ready P.fab = true → s.rd P.fab R.fabTerm < term ∨ s.role = 1 ∧ term = s.rd P.fab R.fabTerm → key.serial ≠ s.rd P.dev R.devSerial →
      ∃ t k, exec (.elect p fr) s = .next t ∧ t.role = 1 ∧ t.rd P.fab R.fabTerm = term % 2 ^ 32 ∧ t.fab.best = some k ∧ keyBeats key k = false ∧
        (s.role ≠ 1 → t.fab.mgr = none ∧ (s.upPorts ≠ [] → t.sent 0xFE (.elect false (term % 2 ^ 32) k t.fab.latest))) ∧
        s.sameBut t [.regs, .pins, .due, .fe, .fab, .obs, .trace, .flt, .out, .rst])) ∧
  (∀ (k : Key) (s : State), s.role = 1 → s.fab.best = some k →
    (k ≠ s.ownKey s.fab.latest ∨ s.ns < s.fab.bestSince + s.rd P.fab R.fabCfg2 * 1000 → exec .electQuietExpiry s = .next s) ∧
    (k = s.ownKey s.fab.latest → s.fab.bestSince + s.rd P.fab R.fabCfg2 * 1000 ≤ s.ns → s.regsOk = true →
      ∃ t, exec .electQuietExpiry s = .next t ∧ t.role = 2 ∧ t.fab.mgr = some k ∧ t.fab.hasId = true ∧ t.mgrId = t.myId ∧
        (s.fab.hasId = true → t.myId = s.myId % 64) ∧ t.fab.claimAt = some s.ns ∧ t.fab.published = false ∧ t.fab.quarantined = [] ∧
        t.rd P.fabEpoch R.qEpochsFabric = s.fab.latest % 2 ^ 16 ∧ t.rd P.fabTime R.ftStatusTimeDegraded = 0 ∧
        (s.upPorts ≠ [] → t.sent 0xFE (.elect true (s.rd P.fab R.fabTerm) k s.fab.latest)) ∧
        s.sameBut t [.regs, .time, .due, .fab, .trace, .out, .nse])) ∧
  (∀ (p term latest : Nat) (key : Key) (fr : MFrame) (x : FPort) (s : State), s.hearsAny p fr x → fr.body = .elect true term key latest → s.regsOk = true →
    (s.role ≠ 1 ∨ term ≠ s.rd P.fab R.fabTerm ∨ s.fab.best ≠ some key →
      ∃ t, exec (.claim p fr) s = .next t ∧ t.fab = { s.fab with ports := t.fab.ports } ∧ t.role = s.role ∧
        s.sameBut t [.regs, .due, .fab, .trace, .out]) ∧
    (s.role = 1 → term = s.rd P.fab R.fabTerm → s.fab.best = some key → s.rd P.fab R.fabStatusQReason = 0 →
      ∃ t, exec (.claim p fr) s = .next t ∧ t.fab.mgr = some key ∧ t.mgrId = fr.src % 64 ∧
        t.rd P.fabEpoch R.qEpochsFabric = laterEpoch latest s.fab.latest % 2 ^ 16 ∧
        (s.epoch = laterEpoch latest s.fab.latest → t.role = 3) ∧ (s.epoch ≠ laterEpoch latest s.fab.latest → t.role = 4 ∧ t.rd P.fab R.fabStatusQReason = 2) ∧
        s.sameBut t [.regs, .pins, .due, .fab, .obs, .trace, .flt, .out, .rst, .nse])) ∧
  (∀ (p serial : Nat) (pref : Option Nat) (fr : MFrame) (s : State), s.hears p fr → fr.body = .join serial pref →
    (s.role ≠ 2 → ∃ t, exec (.assignJoin p fr) s = .next t ∧ t.fab = { s.fab with ports := t.fab.ports } ∧ s.sameBut t [.regs, .due, .fab, .trace, .out]) ∧
    (∀ d, s.role = 2 → s.pickId serial pref = some d →
      ∃ t, exec (.assignJoin p fr) s = .next t ∧ t.fab.ids = s.fab.ids.filter (fun (x : Nat × Nat) => x.1 ≠ serial) ++ [(serial, d)] ∧
        (serial, d, s.ns) ∈ t.fab.given ∧ t.fab.linksDirty = true ∧
        (s.upPorts ≠ [] → t.sent 0xFE (.idTable (t.fab.ids.map (fun (x : Nat × Nat) => (x.2, x.1))))) ∧
        s.sameBut t [.regs, .due, .fab, .trace, .out])) ∧
  (∀ (p d n : Nat) (l : List (Nat × Nat)) (fr : MFrame) (s : State), s.hears p fr → fr.body = .idTable l → s.regsOk = true → s.role = 3 ∨ s.role = 4 →
    (fr.src ≠ s.mgrId → ∃ t, exec (.assignTable p fr) s = .next t ∧ t.fab = { s.fab with ports := t.fab.ports } ∧ t.myId = s.myId ∧
      s.sameBut t [.regs, .due, .fab, .trace, .out]) ∧
    (fr.src = s.mgrId → l.find? (fun (x : Nat × Nat) => x.2 = s.rd P.dev R.devSerial) = some (d, n) → d < 64 →
      ∃ t, exec (.assignTable p fr) s = .next t ∧ t.myId = d ∧ t.fab.hasId = true ∧ t.fab.ids = l.map (fun (x : Nat × Nat) => (x.2, x.1)) ∧
        s.sameBut t [.regs, .due, .fab, .trace, .out])) ∧
  (∀ (s : State) (ver : Nat) (l : List (Nat × Nat × Nat × Nat)), l = s.fab.links → ver = (s.rd P.fabRoute R.routeVer + 1) % 65536 →
    (s.role ≠ 2 ∨ s.fab.linksDirty = false → exec .routeCompute s = .next s) ∧
    (s.role = 2 → s.fab.linksDirty = true → s.regsOk = true →
      ∃ t, exec .routeCompute s = .next t ∧ t.fab.routes = routeTab l s.myId ∧ t.rd P.fabRoute R.routeVer = ver ∧ t.fab.linksDirty = false ∧
        t.fab.links = l ∧
        (∀ d n, (d, n) ∈ distTo l s.myId → d ≠ s.myId → t.reachable d = true → t.sent d (.route ver (routeTab l d))) ∧
        s.sameBut t [.regs, .due, .fab, .trace, .out])) ∧
  (∀ (p ver : Nat) (tab : List RouteEnt) (fr : MFrame) (s : State), s.hears p fr → fr.body = .route ver tab →
    (s.role = 3 ∨ s.role = 4 → fr.src = s.mgrId → ∃ t, exec (.routeTable p fr) s = .next t ∧ t.fab.routes = tab ∧
      (s.regsOk = true → t.rd P.fabRoute R.routeVer = ver % 2 ^ 16) ∧ s.sameBut t [.regs, .due, .fab, .trace, .out]) ∧
    (fr.src ≠ s.mgrId → ∃ t, exec (.routeTable p fr) s = .next t ∧ t.fab = { s.fab with ports := t.fab.ports } ∧
      s.sameBut t [.regs, .due, .fab, .trace, .out])) ∧
  (∀ (port device rport : Nat) (s : State), s.regsOk = true → port < 16 →
    (s.pagePresent (P.port port) = false ∨ s.rd (P.port port) R.portCfgSpeed ≠ 0 →
      ∃ t, exec (.rportBind port device rport) s = .next t ∧ t.rd P.fab R.pgErrCodeCode = 2 ∧ s.regsBut t (errRegs P.fab) ∧ s.sameBut t [.regs, .due]) ∧
    (s.pagePresent (P.port port) = true → s.rd (P.port port) R.portCfgSpeed = 0 → (∀ q, q < 16 → q ≠ port → s.on P.fab (R.fabRportEn q) = false) →
      ∃ t, exec (.rportBind port device rport) s = .next t ∧ t.rd P.fab (R.fabRportEn port) = 1 ∧ t.rd P.fab (R.fabRportDevice port) = device % 2 ^ 6 ∧
        t.rd P.fab (R.fabRportRport port) = rport % 2 ^ 4 ∧
        (s.gated (P.port port) = false → s.on (P.port port) R.pgCtrlEnable = true → s.reachable (device % 64) = true →
          t.rd (P.port port) R.pgStatusState = 0x80) ∧
        (s.gated (P.port port) = false → s.reachable (device % 64) = false → t.rd (P.port port) R.pgStatusState ≠ 0x80) ∧
        s.sameBut t [.regs, .due]))

/-- STATUS_REPORT (16 R772, R783), BEACON_SEND (R787), BEACON (R754, R787, R795, R796), MANAGER_LOST (R788), FABRIC_ALONE (R789), TIME_REQ,
TIME_REQ_RECEIVE, TIME_RESP (R790, R791; log entry 20 for the rounding), TIME_DEGRADED_ENTER (R792). -/
def Obligations.ManagerAndTime : Prop :=
  (∀ (p d role : Nat) (l : List (Nat × Nat × Nat × Nat)) (fr : MFrame) (s : State), s.hears p fr → fr.body = .neighbours d role l → s.role = 2 → d < 64 →
    ∃ t, exec (.statusReport p fr) s = .next t ∧
      t.fab.links = s.fab.links.filter (fun x => x.1 ≠ d && x.2.2.1 ≠ d) ++ (l.filter (fun x => x.2.2.1 < 64)).map (fun x => (d, x.1, x.2.2.1, x.2.2.2)) ∧
      (t.fab.links ≠ s.fab.links → t.fab.linksDirty = true) ∧ (d ∈ t.fab.quarantined ↔ role = 4) ∧
      (∀ e, e ≠ d → (e ∈ t.fab.quarantined ↔ e ∈ s.fab.quarantined)) ∧
      s.sameBut t [.regs, .pins, .due, .fab, .obs, .trace, .flt, .out, .rst, .nse]) ∧
  (∀ (s : State), (s.fab.mgr = none ∨ s.role ≠ 2 ∨ s.ns < s.fab.beaconSent + 100000 → exec .beaconSend s = .next s) ∧
    (∀ k, s.fab.mgr = some k → s.role = 2 → s.fab.beaconSent + 100000 ≤ s.ns →
      ∃ t, exec .beaconSend s = .next t ∧ t.fab.beaconSent = s.ns ∧
        (s.upPorts ≠ [] → t.sent 0xFE (.beacon k (s.rd P.fab R.fabTerm) s.myId s.configDigest s.fabEpoch s.fab.quarantined)) ∧
        s.sameBut t [.regs, .due, .fab, .trace, .out])) ∧
  (∀ (p term m fe : Nat) (key k : Key) (digest : Bytes) (qs : List Nat) (bad behind : Bool) (fr : MFrame) (x : FPort) (s : State), s.hearsAny p fr x →
    fr.dst = 0xFE → fr.body = .beacon key term m digest fe qs → s.regsOk = true → s.role = 3 ∨ s.role = 4 →
    (s.fab.mgr = none ∨ term ≠ s.rd P.fab R.fabTerm → ∃ t, exec (.beacon p fr) s = .next t ∧ t.fab = { s.fab with ports := t.fab.ports } ∧
      t.role = s.role ∧ s.sameBut t [.regs, .due, .fab, .trace, .out]) ∧
    (s.fab.mgr = some k → k.serial = key.serial → term = s.rd P.fab R.fabTerm → bad = decide (digest ≠ s.configDigest) →
      behind = ((s.rd P.fab R.fabStatusQReason).testBit 1 || (s.fab.quad.isNone && (decide (s.epoch ≠ fe) || qs.contains s.myId))) →
      ∃ t, exec (.beacon p fr) s = .next t ∧ t.fab.lastBeacon = s.ns ∧ t.rd P.fabEpoch R.qEpochsFabric = fe % 2 ^ 16 ∧
        t.rd P.fab R.fabStatusQReason = b2n bad + 2 * b2n behind ∧
        (s.rd P.fab R.fabStatusQReason ≠ b2n bad + 2 * b2n behind → t.role = (if bad || behind then 4 else 3)) ∧
        (s.frozen = false → bad = true → t.rd P.fab R.fabDigestMismatch = (s.rd P.fab R.fabDigestMismatch + 1) % 2 ^ 32) ∧
        s.sameBut t [.regs, .pins, .due, .fab, .obs, .trace, .flt, .out, .rst, .nse])) ∧
  (∀ (s : State) (k : Key), s.role = 3 ∨ s.role = 4 → s.fab.mgr = some k →
    (s.fab.lastBeacon + 500000 ≤ s.ns ∨ (∃ n, s.fab.mgrLostSince = some n ∧ n + 100000 ≤ s.ns) →
      ∃ t, exec .managerLost s = .next t ∧ t.fab = { s.fab with mgr := none, electDue := true } ∧ s.sameBut t [.fab]) ∧
    (s.ns < s.fab.lastBeacon + 500000 → (∀ n, s.fab.mgrLostSince = some n → s.ns < n + 100000) → exec .managerLost s = .next s)) ∧
  (∀ (s : State) (n : Nat), s.fab.aloneSince = some n →
    (s.ns < n + 500000 ∨ s.rd P.fab R.fabStatusRole = 0 → exec .fabricAlone s = .next s) ∧
    (n + 500000 ≤ s.ns → s.rd P.fab R.fabStatusRole ≠ 0 → s.regsOk = true →
      ∃ t, exec .fabricAlone s = .next t ∧ t.rd P.fab R.fabStatusRole = 0 ∧ t.rd P.fab R.fabStatusQReason = 0 ∧ t.rd P.fab R.fabStatusDeviceId = 0 ∧
        t.fab.hasId = false ∧ t.fab.mgr = none ∧ t.fab.routes = [] ∧ t.fns = s.ns ∧ t.degraded = false ∧ t.rd P.fabTime R.ftStatusSynced = 0 ∧
        s.sameBut t [.regs, .time, .due, .fe, .fab, .trace, .out, .nse])) ∧
  (∀ (s : State) (p : Nat), s.parentPort = some p →
    (s.follows = false ∨ s.ns < s.fab.reqSent + 16000 → exec .timeReq s = .next s) ∧
    (s.follows = true → s.fab.reqSent + 16000 ≤ s.ns → ∃ t, exec .timeReq s = .next t ∧ t.fab.reqSent = s.ns ∧ t.sent 0xFF (.timeReq s.fab16) ∧
      (∀ q, q ≠ p → t.fport q = s.fport q) ∧ s.sameBut t [.regs, .due, .fab, .trace, .out])) ∧
  (∀ (p : Nat) (t1 : Int) (fr : MFrame) (x : FPort) (s : State), s.hearsAny p fr x → fr.body = .timeReq t1 →
    ∃ t, exec (.timeReqReceive p fr) s = .next t ∧ t.sent 0xFF (.timeResp t1 fr.arrival s.fab16) ∧ s.sameBut t [.regs, .due, .fab, .trace, .out]) ∧
  (∀ (p : Nat) (t1 t2 t3 o : Int) (fr : MFrame) (x : FPort) (s : State), s.hearsAny p fr x → fr.body = .timeResp t1 t2 t3 →
    (s.follows = false ∨ s.parentPort ≠ some p →
      ∃ t, exec (.timeResp p fr) s = .next t ∧ t.fab = { s.fab with ports := t.fab.ports } ∧ s.sameBut t [.regs, .due, .fab, .trace, .out]) ∧
    (s.regsOk = true → s.follows = true → s.parentPort = some p →
      o = Int.tdiv ((t2 - t1) - (fr.arrival - t3)) 2 - Int.tdiv (toS 16 (s.rd (P.fport p) R.fpAsymPs) * 65536) 1000 →
      ∃ t, exec (.timeResp p fr) s = .next t ∧ t.rd P.fabTime R.ftOffset = ofS 32 (Int.tdiv o 65536) ∧
        t.rd P.fabTime R.ftDelay = (Int.tdiv ((fr.arrival - t1) - (t3 - t2)) 2 / 65536).toNat % 2 ^ 32 ∧
        t.rd P.fabTime R.ftStatusSynced = b2n (o.natAbs ≤ s.rd P.fab R.fabCfg1TimeTolNs * 65536) ∧
        t.fab.lastO = (o :: s.fab.lastO).take 4 ∧ t.fab.lastExch = s.ns ∧
        (s.frozen = false → t.rd P.fabTime R.ftExchanges = (s.rd P.fabTime R.ftExchanges + 1) % 2 ^ 32) ∧
        (s.on P.fabTime R.ftCtrl = true → t.time = { s.time with spread := 0, spreadEdges := 0 } ∧ t.fab.acc = s.fab.acc) ∧
        (s.on P.fabTime R.ftCtrl = false → 2000 * 65536 < o.natAbs → t.time = { s.time with corr := s.time.corr + o } ∧ t.fab.acc = 0) ∧
        (s.on P.fabTime R.ftCtrl = false → o.natAbs ≤ 2000 * 65536 →
          t.fab.acc = clampI (s.fab.acc + o) (-(100000 * 65536)) (100000 * 65536) ∧
          t.time = { s.time with spread := s.time.spread + clampI (o / 4 + t.fab.acc / 64) (-(1600 * 65536)) (1600 * 65536), spreadEdges := 6400 }) ∧
        s.sameBut t [.regs, .time, .due, .fab, .trace, .out])) ∧
  (∀ (s : State),
    (s.follows = false ∨ s.degraded = true ∨ s.fab.badRun < 4 ∧ s.ns < s.fab.lastExch + 1000000 → exec .timeDegradedEnter s = .next s) ∧
    (s.regsOk = true → s.follows = true → s.degraded = false → 4 ≤ s.fab.badRun ∨ s.fab.lastExch + 1000000 ≤ s.ns →
      ∃ t, exec .timeDegradedEnter s = .next t ∧ t.degraded = true ∧ t.fab = { s.fab with goodRun := 0 } ∧
        s.regsBut t [(P.fabTime, R.ftStatusTimeDegraded)] ∧ s.sameBut t [.regs, .fab]))

/-- QUAD_PROPOSE (16 R805), QUAD_ARM (R807), QUAD_FLIP (R809), QUAD_ABORT (R812), FLIP_TIME_REACHED (R809, R810), QUAD_FLIP_NOW (R810),
QUAD_STAGE (R805, R806), QUAD_ARMED (R808), QUAD_FLIPPED (R811), STAGE_TIMEOUT, ARM_LATE (R808, R812), FLIP_NOW_REPEAT (R810),
FLIPPED_TIMEOUT (R814), QUAD_REJOIN (R816). -/
def Obligations.QuadrilleSteps : Prop :=
  (∀ (p id expect mask : Nat) (fr : MFrame) (s : State), s.hears p fr → fr.body = .propose id expect mask → s.regsOk = true →
    (s.quadWorker fr = false → ∃ t, exec (.quadPropose p fr) s = .next t ∧ t.fab = { s.fab with ports := t.fab.ports } ∧
      s.sameBut t [.regs, .due, .fab, .trace, .out]) ∧
    (s.quadWorker fr = true → s.commitCheck expect mask = none →
      ∃ t, exec (.quadPropose p fr) s = .next t ∧ t.fab.quad = some (newQuad false id expect mask none) ∧ t.rd P.fabEpoch R.qState = 2 ∧
        t.rd P.fabEpoch R.qCommitId = id % 2 ^ 32 ∧ (s.parentPort.isSome = true → t.sent s.mgrId (.stage id 0 (s.stageDigests mask))) ∧
        s.sameBut t [.regs, .due, .fab, .trace, .out]) ∧
    (∀ st d, s.quadWorker fr = true → s.commitCheck expect mask = some (st, d) →
      ∃ t, exec (.quadPropose p fr) s = .next t ∧ t.fab.quad = none ∧ t.rd P.fabEpoch R.qState = 0 ∧
        (s.parentPort.isSome = true → t.sent s.mgrId (.stage id (failReason st) [])) ∧ s.sameBut t [.regs, .due, .fab, .trace, .out])) ∧
  (∀ (p id flip : Nat) (q : Quad) (fr : MFrame) (s : State), s.hears p fr → fr.body = .arm id flip → s.regsOk = true → s.fab.quad = some q →
    s.quadWorker fr = true → q.commitId = id → q.flip = 0 →
    (s.commitCheck q.expect q.mask = none →
      ∃ t, exec (.quadArm p fr) s = .next t ∧ t.fab.quad = some { q with flip := flip, ownMsg := s.degraded } ∧ t.rd P.fabEpoch R.qState = 3 ∧
        t.rd P.fabEpoch R.qFlipTime = flip % 2 ^ 64 ∧ t.mods = (s.journalArm 1 q.mask q.newEpoch flip).mods ∧
        t.mem = (s.journalArm 1 q.mask q.newEpoch flip).mem ∧ (s.parentPort.isSome = true → t.sent s.mgrId (.armed id 0 s.degraded)) ∧
        s.sameBut t [.regs, .mem, .due, .mods, .fab, .trace, .out]) ∧
    (∀ st d, s.commitCheck q.expect q.mask = some (st, d) →
      ∃ t, exec (.quadArm p fr) s = .next t ∧ t.fab.quad = none ∧ (s.parentPort.isSome = true → t.sent s.mgrId (.armed id (failReason st) false)) ∧
        s.sameBut t [.regs, .due, .fab, .trace, .out])) ∧
  (∀ (p id : Nat) (q : Quad) (fr : MFrame) (s : State), s.hears p fr → fr.body = .flip id → s.regsOk = true → s.fab.quad = some q →
    s.quadWorker fr = true → q.commitId = id → q.flip ≠ 0 →
    (s.fab16 ≤ ((q.flip : Int) - 2000) * 65536 →
      ∃ t, exec (.quadFlip p fr) s = .next t ∧ t.fab.quad = some { q with go := true } ∧ t.rd P.fabEpoch R.qState = 4 ∧
        s.sameBut t [.regs, .due, .fab, .trace, .out]) ∧
    (((q.flip : Int) - 2000) * 65536 < s.fab16 →
      ∃ t, exec (.quadFlip p fr) s = .next t ∧ t.fab.quad = some q ∧ s.sameBut t [.regs, .due, .fab, .trace, .out])) ∧
  (∀ (p id reason : Nat) (q : Quad) (fr : MFrame) (s : State), s.hears p fr → fr.body = .abort id reason → s.regsOk = true → s.fab.quad = some q →
    s.quadWorker fr = true → q.commitId = id → q.manager = false →
    ∃ t, exec (.quadAbort p fr) s = .next t ∧ t.fab.quad = none ∧ t.rd P.fabEpoch R.qState = 0 ∧ t.epoch = s.epoch ∧
      s.sameBut t [.regs, .due, .fab, .trace, .out]) ∧
  (∀ (q : Quad) (s : State), s.fab.quad = some q → s.regsOk = true →
    (q.flip = 0 ∨ s.fab16 < (q.flip : Int) * 65536 → exec .flipTimeReached s = .next s) ∧
    (q.flip ≠ 0 → (q.flip : Int) * 65536 ≤ s.fab16 → q.manager = false →
      (q.go = true → q.ownMsg = false → s.degraded = false →
        ∃ t, exec .flipTimeReached s = .next t ∧ t.epoch = q.newEpoch ∧ t.mods.slots = s.slotsAfter q.mask q.newEpoch ∧ t.fab.quad = none ∧
          t.rd P.fabEpoch R.qEpochsFabric = q.newEpoch ∧ (s.parentPort.isSome = true → t.sent s.mgrId (.flipped q.commitId q.newEpoch)) ∧
          s.sameBut t [.regs, .mem, .due, .mods, .fab, .trace, .out]) ∧
      (q.go = false ∨ q.ownMsg = false ∧ s.degraded = true →
        ∃ t, exec .flipTimeReached s = .next t ∧ t.fab.quad = none ∧ t.rd P.fabEpoch R.qState = 0 ∧
          (s.frozen = false → t.rd P.fabEpoch R.qDisarmed = (s.rd P.fabEpoch R.qDisarmed + 1) % 2 ^ 32) ∧ s.sameBut t [.regs, .fab])) ∧
    (q.flip ≠ 0 → (q.flip : Int) * 65536 ≤ s.fab16 → q.manager = true → q.go = true → q.flipped.testBit s.myId = false →
      q.parts &&& (q.flipped + 2 ^ s.myId) ≠ q.parts →
      ∃ t, exec .flipTimeReached s = .next t ∧ t.epoch = q.newEpoch ∧ t.mods.slots = s.slotsAfter q.mask q.newEpoch ∧
        t.fab.quad = some { q with flipped := q.flipped + 2 ^ s.myId, nowAt := s.ns } ∧
        (∀ d ∈ bitList (q.msgFlip &&& q.parts) 64, s.reachable d = true → t.sent d (.flipNow q.commitId)) ∧
        s.sameBut t [.regs, .mem, .due, .mods, .fab, .trace, .out])) ∧
  (∀ (p id : Nat) (q : Quad) (fr : MFrame) (s : State), s.hears p fr → fr.body = .flipNow id → s.regsOk = true → s.fab.quad = some q →
    s.quadWorker fr = true → q.commitId = id → q.flip ≠ 0 →
    (q.ownMsg = true →
      ∃ t, exec (.quadFlipNow p fr) s = .next t ∧ t.epoch = q.newEpoch ∧ t.fab.quad = none ∧ t.rd P.fabEpoch R.qEpochsFabric = q.newEpoch ∧
        (s.parentPort.isSome = true → t.sent s.mgrId (.flipped id q.newEpoch)) ∧ s.sameBut t [.regs, .mem, .due, .mods, .fab, .trace, .out]) ∧
    (q.ownMsg = false → ∃ t, exec (.quadFlipNow p fr) s = .next t ∧ t.fab.quad = some q ∧ s.sameBut t [.regs, .due, .fab, .trace, .out])) ∧
  (∀ (p id reason : Nat) (ds own : List (Nat × Bytes)) (q : Quad) (fr : MFrame) (s : State), s.hears p fr → fr.body = .stage id reason ds →
    s.regsOk = true → s.quadOf fr id = some q → fr.src < 64 → q.flip = 0 → q.go = false → q.staged.testBit fr.src = false →
    own = (aget q.digests s.myId).getD [] →
    (reason = 0 → q.parts &&& (q.staged + 2 ^ fr.src) ≠ q.parts →
      ∃ t, exec (.quadStage p fr) s = .next t ∧
        t.fab.quad = some { q with staged := q.staged + 2 ^ fr.src, digests := aput q.digests fr.src ds } ∧ t.rd P.fabEpoch R.qState = 1 ∧
        s.sameBut t [.regs, .due, .fab, .trace, .out]) ∧
    (∀ flip, reason = 0 → q.parts &&& (q.staged + 2 ^ fr.src) = q.parts → fr.src ≠ s.myId → ds = own →
      (∀ d ∈ s.others q, d ≠ fr.src → aget q.digests d = some own) →
      flip = max (roundUp q.asked 1000) (s.usAfter (s.rd P.fab R.fabCfg1ArmLeadUs * 1000)) →
      ∃ t q', exec (.quadStage p fr) s = .next t ∧ t.fab.quad = some q' ∧ q'.flip = flip ∧ q'.armed = 2 ^ s.myId ∧ q'.parts = q.parts ∧ q'.go = false ∧
        t.rd P.fabEpoch R.qState = 3 ∧ t.rd P.fabEpoch R.qFlipTime = flip % 2 ^ 64 ∧
        (∀ d ∈ s.others q, s.reachable d = true → t.sent d (.arm id flip)) ∧ s.sameBut t [.regs, .mem, .due, .mods, .fab, .trace, .out]) ∧
    (reason ≠ 0 → s.on P.fab R.fabCfg0CommitPolicy = false →
      ∃ t, exec (.quadStage p fr) s = .next t ∧ t.fab.quad = none ∧ t.rd P.fabEpoch R.qState = 0 ∧
        t.rd P.fabEpoch R.qLastAbort = (reason + fr.src % 64 * 256) % 2 ^ 14 ∧
        (s.frozen = false → t.rd P.fabEpoch R.qAborts = (s.rd P.fabEpoch R.qAborts + 1) % 2 ^ 32) ∧
        (∀ d ∈ s.others q, s.reachable d = true → t.sent d (.abort id reason)) ∧
        (∀ i e, q.entry = some i → s.entry 0 i = some e → t.endedWith 0 i St.commitAborted (reason + fr.src % 64 * 256)) ∧
        s.sameBut t [.regs, .due, .fe, .fab, .trace, .out])) ∧
  (∀ (p id : Nat) (msg : Bool) (q : Quad) (fr : MFrame) (s : State), s.hears p fr → fr.body = .armed id 0 msg → s.regsOk = true →
    s.quadOf fr id = some q → q.flip ≠ 0 → q.go = false → q.armed.testBit fr.src = false →
    (((q.flip : Int) - 20000) * 65536 < s.fab16 →
      ∃ t, exec (.quadArmed p fr) s = .next t ∧ t.fab.quad = some q ∧ s.sameBut t [.regs, .due, .fab, .trace, .out]) ∧
    (s.fab16 ≤ ((q.flip : Int) - 20000) * 65536 → q.parts &&& (q.armed + 2 ^ fr.src) ≠ q.parts →
      ∃ t, exec (.quadArmed p fr) s = .next t ∧
        t.fab.quad = some { q with armed := q.armed + 2 ^ fr.src, msgFlip := q.msgFlip + (if msg = true then 2 ^ fr.src else 0) } ∧
        t.rd P.fabEpoch R.qState = 3 ∧ s.sameBut t [.regs, .due, .fab, .trace, .out]) ∧
    (s.fab16 ≤ ((q.flip : Int) - 20000) * 65536 → q.parts &&& (q.armed + 2 ^ fr.src) = q.parts →
      ∃ t q', exec (.quadArmed p fr) s = .next t ∧ t.fab.quad = some q' ∧ q'.go = true ∧ q'.flip = q.flip ∧ t.rd P.fabEpoch R.qState = 4 ∧
        (∀ d ∈ s.others q, s.reachable d = true → t.sent d (.flip id)) ∧ s.sameBut t [.regs, .due, .fab, .trace, .out])) ∧
  (∀ (p id e1 : Nat) (q : Quad) (fr : MFrame) (s : State), s.hears p fr → fr.body = .flipped id e1 → s.regsOk = true → s.quadOf fr id = some q →
    q.flip ≠ 0 → q.go = true → q.flipped.testBit fr.src = false →
    (q.parts &&& (q.flipped + 2 ^ fr.src) ≠ q.parts →
      ∃ t, exec (.quadFlipped p fr) s = .next t ∧ t.fab.quad = some { q with flipped := q.flipped + 2 ^ fr.src } ∧
        s.sameBut t [.regs, .due, .fab, .trace, .out]) ∧
    (q.parts &&& (q.flipped + 2 ^ fr.src) = q.parts →
      ∃ t, exec (.quadFlipped p fr) s = .next t ∧ t.fab.quad = none ∧ t.rd P.fabEpoch R.qState = 0 ∧
        (s.frozen = false → t.rd P.fabEpoch R.qCommits = (s.rd P.fabEpoch R.qCommits + 1) % 2 ^ 32) ∧
        (∀ i e, q.entry = some i → s.entry 0 i = some e → t.endedWith 0 i St.success (q.newEpoch + 65536 * (bitList q.excluded 64).length)) ∧
        s.sameBut t [.regs, .due, .fe, .fab, .trace, .out])) ∧
  (∀ (d : Nat) (rest : List Nat) (q : Quad) (s : State), s.fab.quad = some q → s.regsOk = true → q.manager = true → q.go = false →
    s.on P.fab R.fabCfg0CommitPolicy = false →
    (q.flip = 0 → s.ns < q.proposeAt + s.rd P.fab R.fabCfg3 * 1000 → exec .stageTimeout s = .next s) ∧
    (q.flip = 0 → q.proposeAt + s.rd P.fab R.fabCfg3 * 1000 ≤ s.ns → (bitList q.parts 64).filter (fun d => !q.staged.testBit d) = d :: rest →
      ∃ t, exec .stageTimeout s = .next t ∧ t.fab.quad = none ∧ t.rd P.fabEpoch R.qLastAbort = (4 + d % 64 * 256) % 2 ^ 14 ∧
        (∀ x ∈ s.others q, s.reachable x = true → t.sent x (.abort q.commitId 4)) ∧
        (∀ i e, q.entry = some i → s.entry 0 i = some e → t.endedWith 0 i St.commitAborted (4 + d % 64 * 256)) ∧
        s.sameBut t [.regs, .due, .fe, .fab, .trace, .out]) ∧
    (q.flip ≠ 0 → s.fab16 ≤ ((q.flip : Int) - 20000) * 65536 → exec .armLate s = .next s) ∧
    (q.flip ≠ 0 → ((q.flip : Int) - 20000) * 65536 < s.fab16 → (bitList q.parts 64).filter (fun d => !q.armed.testBit d) = d :: rest →
      ∃ t, exec .armLate s = .next t ∧ t.fab.quad = none ∧ t.rd P.fabEpoch R.qLastAbort = (8 + d % 64 * 256) % 2 ^ 14 ∧
        (∀ x ∈ s.others q, s.reachable x = true → t.sent x (.abort q.commitId 8)) ∧
        (∀ i e, q.entry = some i → s.entry 0 i = some e → t.endedWith 0 i St.commitAborted (8 + d % 64 * 256)) ∧
        s.sameBut t [.regs, .due, .fe, .fab, .trace, .out])) ∧
  (∀ (q : Quad) (due : List Nat) (s : State), s.fab.quad = some q → q.manager = true → q.flipped.testBit s.myId = true →
    due = (bitList (q.msgFlip &&& q.parts) 64).filter (fun d => !q.flipped.testBit d) →
    (due = [] ∨ s.ns < q.nowAt + 10000 → exec .flipNowRepeat s = .next s) ∧
    (due ≠ [] → q.nowAt + 10000 ≤ s.ns →
      ∃ t, exec .flipNowRepeat s = .next t ∧ t.fab.quad = some { q with nowAt := s.ns } ∧
        (∀ d ∈ due, s.reachable d = true → t.sent d (.flipNow q.commitId)) ∧ s.sameBut t [.regs, .due, .fab, .trace, .out])) ∧
  (∀ (q : Quad) (s : State), s.fab.quad = some q → q.manager = true → q.flipped.testBit s.myId = true → q.go = true → q.flip ≠ 0 →
    (s.fab16 < ((q.flip : Int) + 100000) * 65536 → exec .flippedTimeout s = .next s) ∧
    (((q.flip : Int) + 100000) * 65536 ≤ s.fab16 → s.regsOk = true →
      ∃ t, exec .flippedTimeout s = .next t ∧ t.fab.quad = none ∧ t.rd P.fabEpoch R.qState = 0 ∧
        (∀ d, d < 64 → q.parts.testBit d = true → q.flipped.testBit d = false → d ∈ t.fab.quarantined) ∧
        (∀ i e, q.entry = some i → s.entry 0 i = some e → t.ended 0 i St.success) ∧
        s.sameBut t [.regs, .due, .fe, .fab, .trace, .out, .nse])) ∧
  (∀ (p serial : Nat) (ds : List (Nat × Bytes)) (ok : Bool) (fr : MFrame) (s : State), s.hears p fr → fr.body = .rejoin serial ds → s.role = 2 →
    ok = (decide (s.epoch = s.fabEpoch) && decide (ds = liveDigests s.mods.slots)) →
    ∃ t, exec (.quadRejoin p fr) s = .next t ∧ (s.reachable fr.src = true → t.sent fr.src (.rejoinReply ok s.fabEpoch)) ∧
      (ok = true → fr.src ∉ t.fab.quarantined) ∧ (ok = false → t.fab.quarantined = s.fab.quarantined) ∧ s.sameBut t [.regs, .due, .fab, .trace, .out]) ∧
  (∀ (p e1 : Nat) (q : Quad) (fr : MFrame) (s : State), s.hears p fr → s.fab.quad = some q → s.role = 4 → s.rd P.fabEpoch R.qState = 5 →
    fr.src = s.mgrId → s.regsOk = true →
    (fr.body = .rejoinReply true e1 →
      ∃ t, exec (.quadRejoin p fr) s = .next t ∧ t.epoch = e1 ∧ t.mods.slots = s.slotsAfter q.mask e1 ∧ t.fab.quad = none ∧
        t.rd P.fabEpoch R.qEpochsFabric = e1 % 2 ^ 16 ∧ (t.rd P.fab R.fabStatusQReason).testBit 1 = false ∧
        (s.frozen = false → t.rd P.fabEpoch R.qRejoins = (s.rd P.fabEpoch R.qRejoins + 1) % 2 ^ 32) ∧
        (∀ i e, q.entry = some i → s.entry 0 i = some e → t.endedWith 0 i St.success e1) ∧
        s.sameBut t [.regs, .pins, .mem, .due, .fe, .mods, .fab, .obs, .trace, .flt, .out, .rst, .nse]) ∧
    (fr.body = .rejoinReply false e1 →
      ∃ t, exec (.quadRejoin p fr) s = .next t ∧ t.epoch = s.epoch ∧ t.fab.quad = none ∧
        (∀ i e, q.entry = some i → s.entry 0 i = some e → t.endedWith 0 i St.commitAborted (3 + 0x3F00)) ∧
        s.sameBut t [.regs, .due, .fe, .fab, .trace, .out]))

/-- MAP_ANNOUNCE (15 R734, 16 R818), MAP_WITHDRAW (R735), MAP_PUBLISH, MAP_FETCH (16 R817), POST_CLAIM_PUBLISH (R818), FREEZE_SW, FREEZE_IN,
FREEZE_IN_DEASSERT (18 R903, R905), FREEZE_FRAME (R908), FABRIC_FREEZE, FABRIC_THAW (R907), OBS_SW_MARK (R897 to R900), HIST_CFG_WRITE (R896),
MARKER_CFG_WRITE (R900), HISTOGRAM_SAMPLE (R895), RING_ENABLE (R935). -/
def Obligations.MapsAndMarks : Prop :=
  (∀ (p ch sh v shape : Nat) (fr : MFrame) (s : State), s.hears p fr → fr.body = .announce ch sh v shape → s.role = 2 → fr.src ∉ s.fab.quarantined →
    (s.fab.claimAt ≠ none → s.fab.published = false →
      ∃ t, exec (.mapAnnounce p fr) s = .next t ∧ t.nse = { s.nse with announced := s.nse.announced ++ [⟨fr.src, ch, sh, v, shape⟩] } ∧
        s.sameBut t [.regs, .due, .fab, .trace, .out, .nse]) ∧
    (s.fab.published = true → aget s.nse.shapes ch = none ∨ aget s.nse.shapes ch = some shape → (∀ e ∈ s.mapEnts ch, e.shard ≠ sh) →
      ∃ t, exec (.mapAnnounce p fr) s = .next t ∧
        t.shardMap ch = some ⟨(s.mapGen ch + 1) % 65536, putEnt (s.mapEnts ch) ⟨sh, fr.src, 1, v⟩⟩ ∧ aget t.nse.shapes ch = some shape ∧
        (∀ c, c ≠ ch → t.shardMap c = s.shardMap c) ∧
        (s.upPorts ≠ [] → ∀ m b, t.shardMap ch = some m → b ∈ publishBodies ch m → t.sent 0xFE b) ∧
        s.sameBut t [.regs, .due, .fab, .trace, .out, .nse]) ∧
    (s.fab.published = true → (∃ x, aget s.nse.shapes ch = some x ∧ x ≠ shape) →
      ∃ t, exec (.mapAnnounce p fr) s = .next t ∧ t.nse = s.nse ∧
        (s.regsOk = true → s.frozen = false → t.rd P.fab R.fabShardReject = (s.rd P.fab R.fabShardReject + 1) % 2 ^ 32) ∧
        s.sameBut t [.regs, .due, .fab, .trace, .out])) ∧
  (∀ (p ch sh : Nat) (es : List MapEnt) (fr : MFrame) (s : State), s.hears p fr → fr.body = .withdraw ch sh → s.role = 2 →
    es = (s.mapEnts ch).filter (fun e => !(e.shard = sh && e.device = fr.src)) →
    ∃ t, exec (.mapWithdraw p fr) s = .next t ∧ (es = s.mapEnts ch → t.nse.maps = s.nse.maps) ∧
      (es ≠ s.mapEnts ch → t.shardMap ch = some ⟨(s.mapGen ch + 1) % 65536, es⟩ ∧ (∀ c, c ≠ ch → t.shardMap c = s.shardMap c)) ∧
      s.sameBut t [.regs, .due, .fab, .trace, .out, .nse]) ∧
  (∀ (p ch gen : Nat) (ents : List MapEnt) (fr : MFrame) (s : State), s.hears p fr → fr.body = .publish ch gen 0 1 ents →
    (s.role = 2 ∨ (∃ m, s.shardMap ch = some m ∧ (m.gen = gen ∨ seqLater 16 m.gen gen = true)) →
      ∃ t, exec (.mapPublish p fr) s = .next t ∧ t.nse = s.nse ∧ s.sameBut t [.regs, .due, .fab, .trace, .out]) ∧
    (s.role ≠ 2 → aget s.nse.rx ch = none → (∀ m, s.shardMap ch = some m → m.gen ≠ gen ∧ seqLater 16 m.gen gen = false) →
      ∃ t, exec (.mapPublish p fr) s = .next t ∧ t.shardMap ch = some ⟨gen, ents.foldl putEnt []⟩ ∧ (∀ c, c ≠ ch → t.shardMap c = s.shardMap c) ∧
        (s.regsOk = true → (t.rd (P.nse 0) R.pgIrqStatus).testBit 9 = true) ∧ s.sameBut t [.regs, .due, .fab, .trace, .out, .nse])) ∧
  (∀ (p ch : Nat) (m : ShardMap) (fr : MFrame) (s : State), s.hears p fr → fr.body = .fetch ch → s.role = 2 → s.shardMap ch = some m →
    ∃ t, exec (.mapFetch p fr) s = .next t ∧ (s.reachable fr.src = true → ∀ b ∈ publishBodies ch m, t.sent fr.src b) ∧
      s.sameBut t [.regs, .due, .fab, .trace, .out]) ∧
  (∀ (s : State) (n : Nat), s.fab.claimAt = some n →
    (s.role ≠ 2 ∨ s.fab.published = true ∨ s.ns < n + 1000000 → exec .postClaimPublish s = .next s) ∧
    (s.role = 2 → s.fab.published = false → n + 1000000 ≤ s.ns →
      ∃ t, exec .postClaimPublish s = .next t ∧ t.fab.published = true ∧ t.nse.announced = [] ∧
        (∀ c m, c < 256 → s.shardMap c = some m → (∀ a ∈ s.nse.announced, a.channel ≠ c) →
          t.shardMap c = some ⟨(m.gen + 1) % 65536, m.ents.map (fun e => { e with state := 2 })⟩) ∧
        s.sameBut t [.regs, .due, .fab, .trace, .out, .nse])) ∧
  (∀ (s : State), s.regsOk = true →
    (∃ t, exec .freezeSw s = .next t ∧ t.frozen = true ∧ t.rd P.obs R.obsFreezeSw = 1 ∧
      (s.frozen = false → t.rd P.obs R.obsFrozenAt = s.fns % 2 ^ 64 ∧ t.rd P.obs R.obsFreezes = (s.rd P.obs R.obsFreezes + 1) % 2 ^ 32 ∧
        (t.rd P.obs R.pgIrqStatus).testBit 8 = true) ∧
      (s.frozen = true → s.regsBut t [(P.obs, R.obsFreezeSw)]) ∧ s.sameBut t [.regs, .due]) ∧
    (∃ t, exec .freezeIn s = .next t ∧ t.pins = { s.pins with freezeIn := true } ∧
      (s.frozen = false → s.on P.obs R.obsFreezePinEn = true → t.frozen = true ∧ t.rd P.obs R.obsFrozenAt = s.fns % 2 ^ 64 ∧
        t.rd P.obs R.obsFreezes = (s.rd P.obs R.obsFreezes + 1) % 2 ^ 32) ∧
      (s.on P.obs R.obsFreezePinEn = false → t.regs = s.regs) ∧ s.sameBut t [.regs, .pins, .due]) ∧
    (∃ t, exec .freezeInDeassert s = .next t ∧ t.pins = { s.pins with freezeIn := false } ∧ s.sameBut t [.pins])) ∧
  (∀ (p id at_ : Nat) (thaw : Bool) (fr : MFrame) (s : State), s.hears p fr → fr.body = .freeze thaw id at_ →
    (s.fns ≤ at_ → ∃ t, exec (.freezeFrame p fr) s = .next t ∧ t.obs.freezeWait = s.obs.freezeWait ++ [⟨thaw, id, at_⟩] ∧
      t.obs.freezeId = s.obs.freezeId ∧ s.sameBut t [.regs, .due, .fab, .obs, .trace, .out]) ∧
    (at_ < s.fns → thaw = false → ∃ t, exec (.freezeFrame p fr) s = .next t ∧ t.obs.freezeId = some id ∧ t.obs.freezeWait = s.obs.freezeWait ∧
      (s.on P.obs R.obsFreezeFabricEn = true → t.frozen = true) ∧ s.sameBut t [.regs, .due, .fab, .obs, .trace, .out])) ∧
  (∀ (c : Instr) (thaw : Bool) (at_ id : Nat) (s : State), c = .fabricFreeze ∧ thaw = false ∨ c = .fabricThaw ∧ thaw = true →
    id = s.obs.nextFreezeId % 2 ^ 32 → at_ = ((s.fab16 + 20000 * 65536 + 65535999) / 65536000).toNat * 1000 →
    ∃ t, exec c s = .next t ∧ t.obs.freezeWait = s.obs.freezeWait ++ [⟨thaw, id, at_⟩] ∧ t.obs.nextFreezeId = s.obs.nextFreezeId + 1 ∧
      (s.upPorts ≠ [] → t.sent 0xFE (.freeze thaw id at_)) ∧ s.sameBut t [.regs, .due, .fab, .obs, .trace, .out]) ∧
  (∀ (m i : Nat) (o : OpenMark) (s : State), m < 65536 →
    (∃ t, exec (.obsSwMark m false) s = .next t ∧ t.obs.open_ = ⟨m, 80, 0, s.fns⟩ :: s.obs.open_ ∧ t.obs.acc = s.obs.acc ∧
      s.sameBut t [.regs, .due, .obs, .trace]) ∧
    (s.obs.open_.findIdx? (fun o => o.marker = m && o.source = 80 && o.inv = 0) = some i → s.obs.open_[i]? = some o →
      ∃ t, exec (.obsSwMark m true) s = .next t ∧ t.obs.open_ = s.obs.open_.eraseIdx i ∧
        (∀ k, k < 16 → t.mkAcc k = (if s.obsFrozen = false ∧ s.on P.obs (R.markerCfgEn k) = true ∧ s.rd P.obs (R.markerCfgMarker k) = m ∧
          s.rd P.obs (R.markerCfgPartition k) = 0 then (s.mkAcc k).pair (s.fns - o.at_) else s.mkAcc k)) ∧
        s.sameBut t [.regs, .due, .obs, .trace])) ∧
  (∀ (h kind index : Nat) (s : State), s.regsOk = true → h < 16 →
    ∃ t, exec (.histCfgWrite h kind index) s = .next t ∧ t.rd P.obs (R.histCfgIndex h) = index % 2 ^ 16 ∧
      (kind < 8 → t.rd P.obs (R.histCfgKind h) = kind) ∧ (8 ≤ kind → t.rd P.obs R.pgErrCodeCode = 2 ∧ t.rd P.obs (R.histCfgKind h) = s.rd P.obs (R.histCfgKind h)) ∧
      t.obs = { s.obs with bins := s.obs.bins.filter (fun b => b.1 / 16 ≠ h) } ∧
      s.regsBut t ((P.obs, R.histCfgKind h) :: (P.obs, R.histCfgIndex h) :: errRegs P.obs) ∧ s.sameBut t [.regs, .due, .obs]) ∧
  (∀ (k marker part : Nat) (en : Bool) (s : State), s.regsOk = true → k < 16 →
    ∃ t, exec (.markerCfgWrite k marker part en) s = .next t ∧ t.rd P.obs (R.markerCfgMarker k) = marker % 2 ^ 16 ∧
      t.rd P.obs (R.markerCfgPartition k) = part % 2 ^ 4 ∧ t.rd P.obs (R.markerCfgEn k) = b2n en ∧ t.mkAcc k = ⟨0, 0, 0xFFFFFFFF, 0, 0⟩ ∧
      (∀ j, j ≠ k → t.mkAcc j = s.mkAcc j) ∧
      s.regsBut t [(P.obs, R.markerCfgMarker k), (P.obs, R.markerCfgPartition k), (P.obs, R.markerCfgEn k)] ∧ s.sameBut t [.regs, .obs]) ∧
  (∀ (s : State), (s.obsFrozen = true → exec .histogramSample s = .next s) ∧
    (s.obsFrozen = false → s.counted P.obs = true → ∃ t, exec .histogramSample s = .next t ∧
      (∀ h x, h < 16 → s.histSource (s.rd P.obs (R.histCfgKind h)) (s.rd P.obs (R.histCfgIndex h)) = some x →
        aget t.obs.bins (16 * h + histBinOf x) = some (((aget s.obs.bins (16 * h + histBinOf x)).getD 0 + 1) % 2 ^ 64)) ∧
      (∀ h b, h < 16 → b < 16 →
        (∀ x, s.histSource (s.rd P.obs (R.histCfgKind h)) (s.rd P.obs (R.histCfgIndex h)) = some x → histBinOf x ≠ b) →
        aget t.obs.bins (16 * h + b) = aget s.obs.bins (16 * h + b)) ∧ t.obs = { s.obs with bins := t.obs.bins } ∧ s.sameBut t [.obs])) ∧
  (∀ (s : State), s.regsOk = true →
    (s.ringOk (s.rd P.obs R.tallyBase) (2 ^ s.rd P.obs R.tallyCfgLog2 * 2 ^ 18) = true →
      ∃ t, exec (.ringEnable 0) s = .next t ∧ t.rd P.obs R.tallyCfgEnable = 1 ∧ s.regsBut t [(P.obs, R.tallyCfgEnable)] ∧ s.sameBut t [.regs]) ∧
    (s.ringOk (s.rd P.obs R.tallyBase) (2 ^ s.rd P.obs R.tallyCfgLog2 * 2 ^ 18) = false →
      ∃ t, exec (.ringEnable 0) s = .next t ∧ t.rd P.obs R.pgErrCodeCode = 0x0100 ∧ s.regsBut t (errRegs P.obs) ∧ s.sameBut t [.regs, .due]) ∧
    (s.gated P.obsTrace = false → s.on P.obsTrace R.trCtrlEnable = false → s.ringOk (s.rd P.obsTrace R.trBase) (2 ^ s.rd P.obsTrace R.trLog2 * 32) = true →
      ∃ t, exec (.ringEnable 1) s = .next t ∧ t.rd P.obsTrace R.trCtrlEnable = 1 ∧ t.rd P.obsTrace R.trWr = 0 ∧ t.obs.syncAt = s.fns ∧
        s.sameBut t [.regs, .due, .obs, .trace, .free]) ∧
    (s.gated P.obsTap = false → s.on P.obsTap R.tapCtrlEnable = false → s.ringOk (s.rd P.obsTap R.tapBase) (2 ^ s.rd P.obsTap R.tapLog2) = true →
      ∃ t, exec (.ringEnable 2) s = .next t ∧ t.rd P.obsTap R.tapCtrlEnable = 1 ∧ t.rd P.obsTap R.tapWr = 0 ∧ s.sameBut t [.regs]))

/-- TALLY_NOW, TALLY_LATCH (18 R882, R886 to R888), TALLY_PERIOD_WRITE (R885), TALLY_RECORD_WRITE (R884, R889, R891), TRACE_SYNC (R916), CORE_SYNC
(R915), TRACE_LOSS (R918), TRACE_RECORD_ADMIT (R919, R931), ERROR_DETECT (19 R938 to R948), LOG_FAILURE (R949 to R952), FAULT_N_CLEAR (R955),
HBM_SCRUB (R989), LANDING_PENDING_CLEAR (R971), FATAL_PATH, DUMP_BUDGET_EXPIRY (R956 to R963), MIRROR_COPY (R972 to R975). -/
def Obligations.TallyAndFaults : Prop :=
  (∀ (c : Instr) (early : Bool) (s : State), c = .tallyNow ∧ early = true ∨ c = .tallyLatch ∧ early = false → early = true ∨ s.obs.nextTally ≤ s.fns →
    (s.obs.latches.length < 2 → s.regsOk = true → ∃ t l, exec c s = .next t ∧ t.obs.latches = s.obs.latches ++ [l] ∧
      l.seq = (s.rd P.obs R.obsTallySeq + 1) % 2 ^ 64 ∧ l.ft = s.fns ∧ l.ck4 = s.time.ck4 ∧ l.early = early ∧ l.frozen = s.frozen ∧
      l.skipped = satN 16 s.obs.skipped ∧ l.blocks = s.latchPages.map s.pageBlock ∧ l.ops = s.obs.ops ∧ l.bins = s.obs.bins ∧ t.obs.skipped = 0 ∧
      t.rd P.obs R.obsTallySeq = l.seq ∧ (∀ p ∈ s.latchPages, t.rd p R.pgTallyCtrlLatchSeq = l.seq % 2 ^ R.pgTallyCtrlLatchSeq.w) ∧
      s.sameBut t [.regs, .obs]) ∧
    (2 ≤ s.obs.latches.length → ∃ t, exec c s = .next t ∧ t.obs.latches = s.obs.latches ∧ t.obs.skipped = s.obs.skipped + 1 ∧ s.sameBut t [.obs])) ∧
  (∀ (s : State), (s.fns < s.obs.nextTally → exec .tallyLatch s = .next s) ∧
    (s.obs.nextTally ≤ s.fns → ∃ t, exec .tallyLatch s = .next t ∧ t.obs.nextTally =
      (s.fns / (s.rd P.obs R.obsTallyPeriod * 1000000) + 1) * (s.rd P.obs R.obsTallyPeriod * 1000000))) ∧
  (∀ (ms : Nat) (s : State), s.regsOk = true →
    (ms = 0 ∨ 60000 < ms → ∃ t, exec (.tallyPeriodWrite ms) s = .next t ∧ t.rd P.obs R.pgErrCodeCode = 2 ∧ s.regsBut t (errRegs P.obs) ∧
      s.sameBut t [.regs, .due]) ∧
    (0 < ms → ms ≤ 60000 → ∃ t, exec (.tallyPeriodWrite ms) s = .next t ∧ t.rd P.obs R.obsTallyPeriod = ms ∧
      t.obs = { s.obs with nextTally := (s.fns / (ms * 1000000) + 1) * (ms * 1000000) } ∧ s.regsBut t [(P.obs, R.obsTallyPeriod)] ∧
      s.sameBut t [.regs, .obs])) ∧
  (∀ (l : Latch) (rest : List Latch) (base slots w : Nat) (s : State), s.obs.latches = l :: rest → s.regsOk = true → base = s.rd P.obs R.tallyBase →
    slots = 2 ^ s.rd P.obs R.tallyCfgLog2 → w = s.rd P.obs R.tallyWr →
    (s.fns < l.ft + 2000 → exec .tallyRecordWrite s = .next s) ∧
    (l.ft + 2000 ≤ s.fns → s.on P.obs R.tallyCfgEnable = true → s.on P.obs R.tallyCfgWrap = false → (w + 1) % slots = s.rd P.obs R.tallyRd % slots →
      ∃ t, exec .tallyRecordWrite s = .next t ∧ t.obs = { s.obs with latches := rest } ∧
        (s.frozen = false → t.rd P.obs R.tallyLost = (s.rd P.obs R.tallyLost + 1) % 2 ^ 32) ∧ s.regsBut t [(P.obs, R.tallyLost)] ∧
        s.sameBut t [.regs, .obs]) ∧
    (l.ft + 2000 ≤ s.fns → s.on P.obs R.tallyCfgEnable = true → s.on P.obs R.tallyCfgWrap = true ∨ (w + 1) % slots ≠ s.rd P.obs R.tallyRd % slots →
      s.ringGo base = true →
      ∃ t, exec .tallyRecordWrite s = .next t ∧ t.obs.latches = rest ∧ t.obs.ftPrev = l.ft ∧
        t.mem = (s.spWrite 0 base (w % slots * 2 ^ 18) (s.tallyRecord l)).mem ∧ t.rd P.obs R.tallyWr = (w + 1) % slots % 2 ^ 13 ∧
        t.rd P.obs R.tallyBytes = (s.tallyRecord l).length % 2 ^ 18 ∧ (t.rd P.obs R.pgIrqStatus).testBit 9 = true ∧
        s.sameBut t [.regs, .mem, .due, .obs])) ∧
  (∀ (s : State), (s.fns < s.obs.syncAt + 1000 * s.rd P.obsTrace R.trSyncUs → exec .traceSync s = .next s) ∧
    (s.on P.obsTrace R.trCtrlEnable = true → s.obs.syncAt + 1000 * s.rd P.obsTrace R.trSyncUs ≤ s.fns →
      ∃ t, exec .traceSync s = .next t ∧ t.obs.syncAt = s.fns ∧
        (∀ b, s.obs.bufs[2]? = some b → s.traceWanted 80 0x02 0 = true → b.recs.length < traceRoom →
          ∃ pl, t.obs.bufs = s.obs.bufs.set 2 { b with recs := b.recs ++ [s.traceBytes 80 0x02 0 pl] }) ∧
        s.sameBut t [.regs, .due, .obs, .trace])) ∧
  (∀ (source pc : Nat) (s : State), (20 < source → exec (.coreSync source pc) s = .next s) ∧
    (source ≤ 20 → ∃ t, exec (.coreSync source pc) s = .next t ∧ t.flt = { s.flt with coreSync := aput s.flt.coreSync source s.ns } ∧
      (∀ b, s.obs.bufs[traceDie source]? = some b → s.traceWanted source 0x10 0 = true → b.recs.length < traceRoom →
        t.obs.bufs = s.obs.bufs.set (traceDie source) { b with recs := b.recs ++ [s.traceBytes source 0x10 0 (payload [(16, 4, pc)])] }) ∧
      s.sameBut t [.regs, .due, .trace, .flt])) ∧
  (∀ (die : Nat) (b : TraceBuf) (s : State), s.obs.bufs[die]? = some b →
    (b.lost = 0 ∨ traceRoom ≤ b.recs.length → exec (.traceLoss die) s = .next s) ∧
    (b.lost ≠ 0 → b.recs.length < traceRoom →
      ∃ t, exec (.traceLoss die) s = .next t ∧ t.obs.bufs = s.obs.bufs.set die ⟨b.recs ++ [s.traceBytes 80 0x01 0
        (payload [(16, 4, satN 32 b.lost), (20, 1, b.lostSrc), (24, 8, b.lostFirst)])], 0, 0, 0⟩ ∧ s.sameBut t [.trace])) ∧
  (∀ (die : Nat) (b : TraceBuf) (one : Bytes) (rest : List Bytes) (s : State), s.obs.bufs[die]? = some b → b.recs = one :: rest → s.regsOk = true →
    s.on P.obsTrace R.trCtrlEnable = true → s.gated P.obsTrace = false → s.rd P.obs R.obsBudgetTrace ≠ 0 → 0 < s.refilled.obs.traceTokens →
    (s.traceRingRoom = false → ∃ t, exec (.traceRecordAdmit die) s = .next t ∧ t.obs.bufs = s.obs.bufs ∧
      (t.rd P.obsTrace R.pgIrqStatus).testBit 8 = true ∧ s.sameBut t [.regs, .due, .obs]) ∧
    (s.traceRingRoom = true → s.ringGo (s.rd P.obsTrace R.trBase) = true → ∃ t, exec (.traceRecordAdmit die) s = .next t ∧
      t.obs.bufs = s.obs.bufs.set die { b with recs := rest } ∧
      t.mem = (s.spWrite 0 (s.rd P.obsTrace R.trBase) (32 * (s.rd P.obsTrace R.trWr % 2 ^ s.rd P.obsTrace R.trLog2)) one).mem ∧
      t.rd P.obsTrace R.trWr = (s.rd P.obsTrace R.trWr + 1) % 2 ^ 64 ∧
      t.obs.traceTokens = s.refilled.obs.traceTokens - 32 * 10 ^ 12 ∧ s.sameBut t [.regs, .mem, .due, .obs, .trace])) ∧
  (∀ (e f : ErrEvent) (s : State), s.regsOk = true → f = { e with page := e.page % 2 ^ 26 } →
    (knownCode e.code = false → exec (.errorDetect e) s = .next s) ∧
    (∀ k, k < s.part.code.stacks → e.code = 0 → e.page = P.hbm k → e.slot = none →
      ∃ t, exec (.errorDetect e) s = .next t ∧ (s.frozen = false → t.rd (P.hbm k) R.hbmCe = (s.rd (P.hbm k) R.hbmCe + 1) % 2 ^ 32) ∧
        s.regsBut t [(P.hbm k, R.hbmCe)] ∧ s.sameBut t [.regs]) ∧
    (e.code = 1 → e.slot = none → s.logFailed = false → s.coalesces f = false →
      ∃ t, exec (.errorDetect e) s = .next t ∧ t.flt = { s.flt with seq := s.flt.seq + 1, log := aput s.flt.log ((s.flt.seq + 1) % 128) (s.faultBytes f (s.flt.seq + 1) 1 0) } ∧
        (t.rd P.flt R.pgIrqStatus).testBit 8 = true ∧ s.sameBut t [.regs, .due, .fab, .obs, .trace, .flt, .out]) ∧
    (e.code = 1 → e.slot = none → s.logFailed = false → s.coalesces f = true → ∀ r, s.newest = some r →
      ∃ t, exec (.errorDetect e) s = .next t ∧ t.flt = { s.flt with log := aput s.flt.log (s.flt.seq % 128) (putAt r 12 (leBytes 4 (satN 32 (fieldLE r 12 4 + 1)))) } ∧
        s.regsBut t [(P.flt, R.pgSentinel 1)] ∧ s.sameBut t [.regs, .flt]) ∧
    (e.code = 1 → e.slot = none → s.logFailed = true →
      ∃ t, exec (.errorDetect e) s = .next t ∧ t.rd P.fltAon R.logfailCount = satN 32 (s.rd P.fltAon R.logfailCount + 1) ∧
        s.regsBut t [(P.fltAon, R.logfailCount)] ∧ s.sameBut t [.regs]) ∧
    (e.code = 0x10 → e.slot = none → e.page < 2 ^ 26 → e.page % 0x1000 = 0 →
      ∃ t, exec (.errorDetect e) s = .next t ∧ t.on e.page R.pgStatusFault = true ∧ t.rd e.page R.pgStatusState = 6 ∧ t.ready e.page = false) ∧
    (e.code = 0x20 → e.slot = none → ∃ t, exec (.errorDetect e) s = .next t ∧ s.turnsFatal t 0x20 ∧ t.mem = s.mem ∧ t.fe = s.fe)) ∧
  (∀ (kind cls code : Nat) (s : State), s.regsOk = true → kind < 3 →
    ∃ t, exec (.logFailure kind cls code) s = .next t ∧
      t.on P.fltAon (if kind = 0 then R.logfailStatusLogUe else if kind = 1 then R.logfailStatusWriteStuck else R.logfailStatusCtrlFail) = true ∧
      (s.logFailed = false → t.rd P.fltAon R.logfailFirstClass = cls % 2 ^ 3 ∧ t.rd P.fltAon R.logfailFirstCode = code % 2 ^ 16 ∧
        t.rd P.fltAon R.logfailTime = s.fns % 2 ^ 64) ∧
      (s.logFailed = true → t.rd P.fltAon R.logfailFirstCode = s.rd P.fltAon R.logfailFirstCode) ∧
      (t.rd P.flt R.pgIrqStatus).testBit 10 = true ∧ t.rd P.fltAon R.aonFaultNAsserted = 1 ∧ t.pins = { s.pins with faultN := true } ∧
      s.sameBut t [.regs, .pins, .due]) ∧
  (∀ (mask : Nat) (s : State), s.regsOk = true → s.rd P.fltAon R.aonFaultNCause < 16 →
    ∃ t, exec (.faultNClear mask) s = .next t ∧
      (∀ b, b = 0 ∨ b = 3 → (t.rd P.fltAon R.aonFaultNCause).testBit b = ((s.rd P.fltAon R.aonFaultNCause).testBit b && !mask.testBit b)) ∧
      (t.rd P.fltAon R.aonFaultNCause).testBit 1 = s.logFailed ∧ (t.rd P.fltAon R.aonFaultNCause).testBit 2 = s.pins.thermtrip ∧
      t.pins = { s.pins with faultN := t.on P.fltAon R.aonFaultNCause } ∧ t.on P.fltAon R.aonFaultNAsserted = t.on P.fltAon R.aonFaultNCause ∧
      s.regsBut t [(P.fltAon, R.aonFaultNCause), (P.fltAon, R.aonFaultNAsserted)] ∧ s.sameBut t [.regs, .pins]) ∧
  (∀ (stack line kind : Nat) (s : State), s.regsOk = true → stack < s.part.code.stacks → line < 36 * 2 ^ 30 → s.ready (P.hbm stack) = true →
    s.on (P.hbm stack) R.hbmScrubCfgEn = true → s.frozen = false →
    ∃ t, exec (.hbmScrub stack line kind) s = .next t ∧ t.rd (P.hbm stack) R.hbmScrubPos = line / 64 * 64 / 2 ^ 20 % 2 ^ 16 ∧
      (kind = 0 → t.rd (P.hbm stack) R.hbmCe = (s.rd (P.hbm stack) R.hbmCe + 1) % 2 ^ 32 ∧ t.mem = s.mem) ∧
      (kind = 2 → t.rd (P.hbm stack) R.hbmScrubPasses = (s.rd (P.hbm stack) R.hbmScrubPasses + 1) % 2 ^ 32 ∧ t.mem = s.mem) ∧
      (kind = 1 → t.rd (P.hbm stack) R.hbmPoisoned = (s.rd (P.hbm stack) R.hbmPoisoned + 1) % 2 ^ 32 ∧
        physOf s.part.code stack (line / 64 * 64) ∈ t.mem.poison ∧ t.mem.dev = s.mem.dev ∧ (inReserve stack (line / 64 * 64) = true → s.turnsFatal t 0x25))) ∧
  (∀ (s : State), s.regsOk = true → ∃ t, exec .landingPendingClear s = .next t ∧ t.rd P.fltAon R.aonLandingPending = 0 ∧
    s.regsBut t [(P.fltAon, R.aonLandingPending)] ∧ s.sameBut t [.regs]) ∧
  (∀ (f : Fatal) (s : State), s.flt.fatal = some f → s.regsOk = true →
    (f.done = true → exec .fatalPath s = .next s ∧ exec .dumpBudgetExpiry s = .next s) ∧
    (s.dumpDeadline f < s.ns → exec .fatalPath s = .next s) ∧ (s.ns < s.dumpDeadline f → exec .dumpBudgetExpiry s = .next s) ∧
    (∀ c, c = .fatalPath ∧ s.ns ≤ s.dumpDeadline f ∨ c = .dumpBudgetExpiry ∧ s.dumpDeadline f ≤ s.ns → f.done = false → s.flt.cruise = none →
      ∃ t, exec c s = .next t ∧
        (f.code ≠ 0x22 → t.flt.fatal = none ∧ (s.rst.warm = none → t.rst.warm = some f.warmCause ∧ t.rst.warmAt = s.ns ∧ t.rst.stopped = true)) ∧
        (f.code = 0x22 → t.flt.fatal = some { f with done := true } ∧ t.rst = s.rst) ∧
        (s.ready (P.hbm 0) = false → t.rd P.fltAon R.aonLandingState = 4 ∧ t.mem = s.mem) ∧
        (s.ready (P.hbm 0) = true → s.on P.fltAon R.aonLandingKeepFirst = true → s.on P.fltAon R.aonLandingPending = true →
          t.mem.dev = Memory.write s.mem.dev 14 (leBytes 2 (satN 16 (fieldLE (s.devRead 14 2) 0 2 + 1))) ∧
          t.rd P.fltAon R.aonDumpSeq = s.rd P.fltAon R.aonDumpSeq) ∧
        (s.ready (P.hbm 0) = true → s.on P.fltAon R.aonLandingKeepFirst = false ∨ s.on P.fltAon R.aonLandingPending = false →
          t.rd P.fltAon R.aonLandingPending = 1 ∧ t.rd P.fltAon R.aonDumpSeq = (s.rd P.fltAon R.aonDumpSeq + 1) % 2 ^ 32 ∧
          (c = .dumpBudgetExpiry → t.rd P.fltAon R.aonLandingState = 3) ∧
          (c = .fatalPath → f.hwOnly = true → t.rd P.fltAon R.aonLandingState = 1) ∧
          (c = .fatalPath → f.hwOnly = false → t.rd P.fltAon R.aonLandingState = 2 ∨ t.rd P.fltAon R.aonLandingState = 3)) ∧
        s.sameBut t [.regs, .mem, .due, .flt, .free, .rst])) ∧
  (∀ (s : State), s.regsOk = true →
    (s.on P.flt R.fltMirrorCmd = true → ∃ t, exec .mirrorCopy s = .next t ∧ t.rd P.flt R.pgErrCodeCode = 0x0102 ∧ s.regsBut t (errRegs P.flt) ∧
      s.sameBut t [.regs, .due]) ∧
    (s.on P.flt R.fltMirrorCmd = false → s.mirrorGo = false →
      ∃ t, exec .mirrorCopy s = .next t ∧ t.rd P.flt R.fltMirrorCmd = 1 ∧ s.regsBut t [(P.flt, R.fltMirrorCmd)] ∧ s.sameBut t [.regs]) ∧
    (s.on P.flt R.fltMirrorCmd = false → s.mirrorGo = true → s.memOk = true →
      ∃ t, exec .mirrorCopy s = .next t ∧ t.mem = { s.mem with host := t.mem.host } ∧
        (∀ o, 0x1000 ≤ o → o < min s.landingEnd (s.rd P.flt R.fltMirrorCfgMib * 2 ^ 20) →
          Memory.get t.mem.host (s.rd P.flt R.fltMirrorBase + o) = Memory.get s.mem.dev o) ∧
        (∀ o, o < 0x1000 → o ≠ 7 → Memory.get t.mem.host (s.rd P.flt R.fltMirrorBase + o) = Memory.get s.mem.dev o) ∧
        t.rd P.flt R.fltMirrorStatusDone = 1 ∧ t.rd P.flt R.fltMirrorCmd = 0 ∧
        t.rd P.fltAon R.aonLandingMirrored = (if s.landingEnd ≤ s.rd P.flt R.fltMirrorCfgMib * 2 ^ 20 then 1 else 0) ∧
        (t.rd P.flt R.pgIrqStatus).testBit 9 = true ∧ s.sameBut t [.regs, .mem, .due]))

end
end

