-- ==== Sys2Proof/Laws/Maps.lean ====
section
/-! SUPPORT. Laws/Maps.lean: reading the association maps of State after each operation on them. -/

namespace Sys2Proof

@[simp] theorem aget_aput_self {α : Type} : ∀ (m : List (Nat × α)) (k : Nat) (a : α), aget (aput m k a) k = some a
  | [], k, a => by simp [aput, aget]
  | (j, b) :: m, k, a => by
    unfold aput
    split
    · simp [aget]
    · split
      · simp [aget]
      · rename_i h
        simp only [aget, Ne.symm h, if_false]
        exact aget_aput_self m k a

theorem aget_aput_other {α : Type} : ∀ (m : List (Nat × α)) (k j : Nat) (a : α), j ≠ k → aget (aput m k a) j = aget m j
  | [], k, j, a, h => by simp [aput, aget, Ne.symm h]
  | (i, b) :: m, k, j, a, h => by
    unfold aput
    split
    · simp [aget, Ne.symm h]
    · split
      · rename_i h1
        subst h1
        simp [aget, Ne.symm h]
      · simp only [aget]
        rw [aget_aput_other m k j a h]

@[simp] theorem aget_adel_self {α : Type} : ∀ (m : List (Nat × α)) (k : Nat), aget (adel m k) k = none
  | [], _ => rfl
  | (j, b) :: m, k => by
    have ih := aget_adel_self m k
    unfold adel at *
    by_cases h : j = k <;> simp_all [aget]

theorem aget_adel_other {α : Type} : ∀ (m : List (Nat × α)) (k j : Nat), j ≠ k → aget (adel m k) j = aget m j
  | [], _, _, _ => rfl
  | (i, b) :: m, k, j, h => by
    have ih := aget_adel_other m k j h
    unfold adel at *
    by_cases h1 : i = k
    · subst h1
      simp_all [aget, Ne.symm h]
    · simp_all [aget]

@[simp] theorem aget_amod_self {α : Type} : ∀ (m : List (Nat × α)) (k : Nat) (f : α → α), aget (amod m k f) k = (aget m k).map f
  | [], _, _ => rfl
  | (j, b) :: m, k, f => by
    have ih := aget_amod_self m k f
    unfold amod at *
    by_cases h : j = k <;> simp_all [aget]

theorem aget_amod_other {α : Type} : ∀ (m : List (Nat × α)) (k j : Nat) (f : α → α), j ≠ k → aget (amod m k f) j = aget m j
  | [], _, _, _, _ => rfl
  | (i, b) :: m, k, j, f, h => by
    have ih := aget_amod_other m k j f h
    unfold amod at *
    by_cases h1 : i = k
    · subst h1
      simp_all [aget, Ne.symm h]
    · simp_all [aget]

end Sys2Proof
end

