-- ==== Sys2Proof/Laws/Memory.lean ====
section
/-! SUPPORT. Laws/Memory.lean: reading, writing and the canonical form of memories and of register cells. -/

namespace Sys2Proof.Machine

/-! ## Memories -/

/-- A byte reads back as written where the memory is in canonical form. -/
theorem Memory.wfFrom_mono : ∀ (m : Memory) (lo hi : Nat), lo ≤ hi → Memory.wfFrom hi m = true → Memory.wfFrom lo m = true
  | [], _, _, _, _ => rfl
  | (a, b) :: m, lo, hi, h, hw => by
    simp only [Memory.wfFrom, Bool.and_eq_true, decide_eq_true_eq] at hw ⊢
    exact ⟨⟨by omega, hw.1.2⟩, hw.2⟩

/-- Below a canonical memory's bound nothing is listed. -/
theorem Memory.get_below : ∀ (m : Memory) (lo a : Nat), Memory.wfFrom lo m = true → a < lo → Memory.get m a = 0
  | [], _, _, _, _ => rfl
  | (c, d) :: m, lo, a, hw, h => by
    simp only [Memory.wfFrom, Bool.and_eq_true, decide_eq_true_eq] at hw
    have hc : c ≠ a := by omega
    simp only [Memory.get, hc, if_false]
    exact Memory.get_below m (c + 1) a hw.2 (by omega)

theorem Memory.get_put_self : ∀ (m : Memory) (lo a : Nat) (b : Byte), Memory.wfFrom lo m = true → Memory.get (Memory.put m a b) a = b
  | [], _, a, b, _ => by
    unfold Memory.put
    split <;> simp_all [Memory.get]
  | (c, d) :: m, lo, a, b, hw => by
    simp only [Memory.wfFrom, Bool.and_eq_true, decide_eq_true_eq] at hw
    unfold Memory.put
    split
    · rename_i h
      have hca : c ≠ a := by omega
      have h0 := Memory.get_below m (c + 1) a hw.2 (by omega)
      split <;> simp_all [Memory.get]
    · split
      · rename_i h
        subst h
        have h0 := Memory.get_below m (a + 1) a hw.2 (by omega)
        split <;> simp_all [Memory.get]
      · rename_i h
        have hca : c ≠ a := by omega
        simp only [Memory.get, hca, if_false]
        exact Memory.get_put_self m (c + 1) a b hw.2

theorem Memory.get_put_other : ∀ (m : Memory) (a x : Nat) (b : Byte), x ≠ a → Memory.get (Memory.put m a b) x = Memory.get m x
  | [], a, x, b, h => by
    unfold Memory.put
    split <;> simp [Memory.get, Ne.symm h]
  | (c, d) :: m, a, x, b, h => by
    unfold Memory.put
    split
    · split <;> simp [Memory.get, Ne.symm h]
    · split
      · rename_i h1
        subst h1
        split <;> simp [Memory.get, Ne.symm h]
      · simp only [Memory.get]
        rw [Memory.get_put_other m a x b h]

theorem Memory.wfFrom_put : ∀ (m : Memory) (lo a : Nat) (b : Byte), lo ≤ a → Memory.wfFrom lo m = true →
    Memory.wfFrom lo (Memory.put m a b) = true
  | [], lo, a, b, h, _ => by
    unfold Memory.put
    split <;> simp_all [Memory.wfFrom]
  | (c, d) :: m, lo, a, b, h, hw => by
    simp only [Memory.wfFrom, Bool.and_eq_true, decide_eq_true_eq] at hw
    unfold Memory.put
    split
    · split
      · simp only [Memory.wfFrom, Bool.and_eq_true, decide_eq_true_eq]
        exact hw
      · simp only [Memory.wfFrom, Bool.and_eq_true, decide_eq_true_eq]
        exact ⟨⟨h, by assumption⟩, ⟨by omega, hw.1.2⟩, hw.2⟩
    · split
      · rename_i h1
        subst h1
        split
        · exact Memory.wfFrom_mono m lo (a + 1) (by omega) hw.2
        · simp only [Memory.wfFrom, Bool.and_eq_true, decide_eq_true_eq]
          exact ⟨⟨h, by assumption⟩, hw.2⟩
      · simp only [Memory.wfFrom, Bool.and_eq_true, decide_eq_true_eq]
        exact ⟨hw.1, Memory.wfFrom_put m (c + 1) a b (by omega) hw.2⟩

/-- A byte written leaves the canonical form. -/
theorem Memory.wf_put (m : Memory) (a : Nat) (b : Byte) (h : Memory.wf m = true) : Memory.wf (Memory.put m a b) = true :=
  Memory.wfFrom_put m 0 a b (Nat.zero_le a) h

/-- A byte string written leaves the canonical form. -/
theorem Memory.wf_write : ∀ (bs : Bytes) (m : Memory) (a : Nat), Memory.wf m = true → Memory.wf (Memory.write m a bs) = true
  | [], _, _, h => by simpa [Memory.write] using h
  | b :: bs, m, a, h => by
    simp only [Memory.write]
    exact Memory.wf_write bs _ (a + 1) (Memory.wf_put m a b h)

theorem Memory.wfFrom_filter : ∀ (m : Memory) (p : Host.Cell → Bool) (lo : Nat), Memory.wfFrom lo m = true →
    Memory.wfFrom lo (List.filter p m) = true
  | [], _, _, _ => rfl
  | (a, b) :: m, p, lo, hw => by
    simp only [Memory.wfFrom, Bool.and_eq_true, decide_eq_true_eq] at hw
    simp only [List.filter]
    split
    · simp only [Memory.wfFrom, Bool.and_eq_true, decide_eq_true_eq]
      exact ⟨hw.1, Memory.wfFrom_filter m p (a + 1) hw.2⟩
    · exact Memory.wfFrom_filter m p lo (Memory.wfFrom_mono m lo (a + 1) (by omega) hw.2)

/-- A range set to zero leaves the canonical form. -/
theorem Memory.wf_clear (m : Memory) (lo hi : Nat) (h : Memory.wf m = true) : Memory.wf (Memory.clear m lo hi) = true :=
  Memory.wfFrom_filter m _ 0 h

/-- Outside the written bytes a write changes nothing. -/
theorem Memory.get_write_other : ∀ (bs : Bytes) (m : Memory) (a x : Nat), x < a ∨ a + bs.length ≤ x →
    Memory.get (Memory.write m a bs) x = Memory.get m x
  | [], _, _, _, _ => rfl
  | b :: bs, m, a, x, h => by
    simp only [List.length_cons] at h
    simp only [Memory.write]
    rw [Memory.get_write_other bs _ (a + 1) x (by omega), Memory.get_put_other m a x b (by omega)]

/-- The written bytes read back. -/
theorem Memory.get_write_self : ∀ (bs : Bytes) (m : Memory) (a i : Nat), Memory.wf m = true → (h : i < bs.length) →
    Memory.get (Memory.write m a bs) (a + i) = bs[i]
  | b :: bs, m, a, i, hw, h => by
    simp only [Memory.write]
    cases i with
    | zero =>
      have h1 := Memory.get_write_other bs (Memory.put m a b) (a + 1) a (by omega)
      simp only [Nat.add_zero, List.getElem_cons_zero]
      rw [h1]
      exact Memory.get_put_self m 0 a b hw
    | succ j =>
      have := Memory.get_write_self bs _ (a + 1) j (Memory.wf_put m a b hw) (by simpa using h)
      simpa [Nat.add_assoc, Nat.add_comm 1 j] using this

/-- Reading what was written. -/
theorem Memory.read_write_self (m : Memory) (a : Nat) (bs : Bytes) (h : Memory.wf m = true) :
    Memory.read (Memory.write m a bs) a bs.length = bs := by
  apply List.ext_getElem
  · simp [Memory.read]
  · intro i h1 h2
    simp only [Memory.read, List.getElem_map, List.getElem_range]
    exact Memory.get_write_self bs m a i h h2

/-! ## Register cells -/

theorem RegMap.wfFrom_mono : ∀ (m : RegMap) (lo hi : Nat), lo ≤ hi → RegMap.wfFrom hi m = true → RegMap.wfFrom lo m = true
  | [], _, _, _, _ => rfl
  | (a, b) :: m, lo, hi, h, hw => by
    simp only [RegMap.wfFrom, Bool.and_eq_true, decide_eq_true_eq] at hw ⊢
    exact ⟨by omega, hw.2⟩

theorem RegMap.get_below : ∀ (m : RegMap) (lo k d : Nat), RegMap.wfFrom lo m = true → k < lo → RegMap.get m k d = d
  | [], _, _, _, _, _ => rfl
  | (c, v) :: m, lo, k, d, hw, h => by
    simp only [RegMap.wfFrom, Bool.and_eq_true, decide_eq_true_eq] at hw
    have hc : c ≠ k := by omega
    simp only [RegMap.get, hc, if_false]
    exact RegMap.get_below m (c + 1) k d hw.2 (by omega)

/-- A cell reads back as written where the cells are in order. -/
theorem RegMap.get_put_self : ∀ (m : RegMap) (lo k d v : Nat), RegMap.wfFrom lo m = true → RegMap.get (RegMap.put m k d v) k d = v
  | [], _, k, d, v, _ => by
    unfold RegMap.put
    split <;> simp_all [RegMap.get]
  | (c, x) :: m, lo, k, d, v, hw => by
    simp only [RegMap.wfFrom, Bool.and_eq_true, decide_eq_true_eq] at hw
    unfold RegMap.put
    split
    · rename_i h
      have hck : c ≠ k := by omega
      have h0 := RegMap.get_below m (c + 1) k d hw.2 (by omega)
      split <;> simp_all [RegMap.get]
    · split
      · rename_i h
        subst h
        have h0 := RegMap.get_below m (k + 1) k d hw.2 (by omega)
        split <;> simp_all [RegMap.get]
      · rename_i h
        have hck : c ≠ k := by omega
        simp only [RegMap.get, hck, if_false]
        exact RegMap.get_put_self m (c + 1) k d v hw.2

/-- Another cell is unchanged. -/
theorem RegMap.get_put_other : ∀ (m : RegMap) (k d v j e : Nat), j ≠ k → RegMap.get (RegMap.put m k d v) j e = RegMap.get m j e
  | [], k, d, v, j, e, h => by
    unfold RegMap.put
    split <;> simp [RegMap.get, Ne.symm h]
  | (c, x) :: m, k, d, v, j, e, h => by
    unfold RegMap.put
    split
    · split <;> simp [RegMap.get, Ne.symm h]
    · split
      · rename_i h1
        subst h1
        split <;> simp [RegMap.get, Ne.symm h]
      · simp only [RegMap.get]
        rw [RegMap.get_put_other m k d v j e h]

theorem RegMap.wfFrom_put : ∀ (m : RegMap) (lo k d v : Nat), lo ≤ k → RegMap.wfFrom lo m = true →
    RegMap.wfFrom lo (RegMap.put m k d v) = true
  | [], lo, k, d, v, h, _ => by
    unfold RegMap.put
    split <;> simp_all [RegMap.wfFrom]
  | (c, x) :: m, lo, k, d, v, h, hw => by
    simp only [RegMap.wfFrom, Bool.and_eq_true, decide_eq_true_eq] at hw
    unfold RegMap.put
    split
    · split
      · simp only [RegMap.wfFrom, Bool.and_eq_true, decide_eq_true_eq]
        exact hw
      · simp only [RegMap.wfFrom, Bool.and_eq_true, decide_eq_true_eq]
        exact ⟨h, by omega, hw.2⟩
    · split
      · rename_i h1
        subst h1
        split
        · exact RegMap.wfFrom_mono m lo (k + 1) (by omega) hw.2
        · simp only [RegMap.wfFrom, Bool.and_eq_true, decide_eq_true_eq]
          exact ⟨h, hw.2⟩
      · simp only [RegMap.wfFrom, Bool.and_eq_true, decide_eq_true_eq]
        exact ⟨hw.1, RegMap.wfFrom_put m (c + 1) k d v (by omega) hw.2⟩

theorem RegMap.wfFrom_filter : ∀ (m : RegMap) (p : Nat × Nat → Bool) (lo : Nat), RegMap.wfFrom lo m = true →
    RegMap.wfFrom lo (List.filter p m) = true
  | [], _, _, _ => rfl
  | (a, b) :: m, p, lo, hw => by
    simp only [RegMap.wfFrom, Bool.and_eq_true, decide_eq_true_eq] at hw
    simp only [List.filter]
    split
    · simp only [RegMap.wfFrom, Bool.and_eq_true, decide_eq_true_eq]
      exact ⟨hw.1, RegMap.wfFrom_filter m p (a + 1) hw.2⟩
    · exact RegMap.wfFrom_filter m p lo (RegMap.wfFrom_mono m lo (a + 1) (by omega) hw.2)

end Sys2Proof.Machine
end

