-- ==== Sys2Proof/Laws/State.lean ====
section
/-! SUPPORT. Laws/State.lean: what each shared operation leaves unchanged, field by field, and register fields after a write. -/

namespace Sys2Proof.Machine

@[simp] theorem State.wr_frame (s : State) (p : Nat) (f : Fld) (v : Nat) :
    (s.wr p f v).pending = s.pending ∧ (s.wr p f v).part = s.part ∧ (s.wr p f v).time = s.time ∧ (s.wr p f v).pins = s.pins ∧
    (s.wr p f v).mem = s.mem ∧ (s.wr p f v).host = s.host ∧ (s.wr p f v).fe = s.fe ∧ (s.wr p f v).mods = s.mods ∧
    (s.wr p f v).fab = s.fab ∧ (s.wr p f v).pwr = s.pwr ∧ (s.wr p f v).thm = s.thm ∧ (s.wr p f v).obs = s.obs ∧ (s.wr p f v).flt = s.flt ∧
    (s.wr p f v).out = s.out ∧ (s.wr p f v).free = s.free ∧ (s.wr p f v).clk = s.clk ∧ (s.wr p f v).rst = s.rst ∧
    (s.wr p f v).trust = s.trust ∧ (s.wr p f v).rules = s.rules ∧ (s.wr p f v).nse = s.nse ∧ (s.wr p f v).path = s.path ∧
    (s.wr p f v).tab = s.tab := by
  exact ⟨rfl, rfl, rfl, rfl, rfl, rfl, rfl, rfl, rfl, rfl, rfl, rfl, rfl, rfl, rfl, rfl, rfl, rfl, rfl, rfl, rfl, rfl⟩

@[simp] theorem State.countN_frame (s : State) (p : Nat) (f : Fld) (n : Nat) :
    (s.countN p f n).pending = s.pending ∧ (s.countN p f n).part = s.part ∧ (s.countN p f n).time = s.time ∧
    (s.countN p f n).pins = s.pins ∧ (s.countN p f n).mem = s.mem ∧ (s.countN p f n).host = s.host ∧ (s.countN p f n).fe = s.fe ∧
    (s.countN p f n).mods = s.mods ∧ (s.countN p f n).fab = s.fab ∧ (s.countN p f n).pwr = s.pwr ∧ (s.countN p f n).thm = s.thm ∧
    (s.countN p f n).obs = s.obs ∧ (s.countN p f n).flt = s.flt ∧ (s.countN p f n).out = s.out ∧ (s.countN p f n).free = s.free ∧
    (s.countN p f n).clk = s.clk ∧ (s.countN p f n).rst = s.rst ∧ (s.countN p f n).trust = s.trust ∧ (s.countN p f n).rules = s.rules ∧
    (s.countN p f n).nse = s.nse ∧ (s.countN p f n).path = s.path ∧ (s.countN p f n).tab = s.tab := by
  unfold State.countN
  split <;> exact ⟨rfl, rfl, rfl, rfl, rfl, rfl, rfl, rfl, rfl, rfl, rfl, rfl, rfl, rfl, rfl, rfl, rfl, rfl, rfl, rfl, rfl, rfl⟩

@[simp] theorem State.count_frame (s : State) (p : Nat) (f : Fld) :
    (s.count p f).pending = s.pending ∧ (s.count p f).part = s.part ∧ (s.count p f).time = s.time ∧ (s.count p f).pins = s.pins ∧
    (s.count p f).mem = s.mem ∧ (s.count p f).host = s.host ∧ (s.count p f).fe = s.fe ∧ (s.count p f).mods = s.mods ∧
    (s.count p f).fab = s.fab ∧ (s.count p f).pwr = s.pwr ∧ (s.count p f).thm = s.thm ∧ (s.count p f).obs = s.obs ∧
    (s.count p f).flt = s.flt ∧ (s.count p f).out = s.out ∧ (s.count p f).free = s.free ∧ (s.count p f).clk = s.clk ∧
    (s.count p f).rst = s.rst ∧ (s.count p f).trust = s.trust ∧ (s.count p f).rules = s.rules ∧ (s.count p f).nse = s.nse ∧
    (s.count p f).path = s.path ∧ (s.count p f).tab = s.tab := by
  unfold State.count
  (repeat' split) <;> simp

@[simp] theorem State.countPN_frame (s : State) (p : Nat) (f : Fld) (n q : Nat) :
    (s.countPN p f n q).pending = s.pending ∧ (s.countPN p f n q).part = s.part ∧ (s.countPN p f n q).time = s.time ∧
    (s.countPN p f n q).pins = s.pins ∧ (s.countPN p f n q).mem = s.mem ∧ (s.countPN p f n q).host = s.host ∧
    (s.countPN p f n q).fe = s.fe ∧ (s.countPN p f n q).mods = s.mods ∧ (s.countPN p f n q).fab = s.fab ∧
    (s.countPN p f n q).pwr = s.pwr ∧ (s.countPN p f n q).thm = s.thm ∧ (s.countPN p f n q).flt = s.flt ∧
    (s.countPN p f n q).out = s.out ∧ (s.countPN p f n q).free = s.free ∧ (s.countPN p f n q).clk = s.clk ∧
    (s.countPN p f n q).rst = s.rst ∧ (s.countPN p f n q).trust = s.trust ∧ (s.countPN p f n q).rules = s.rules ∧
    (s.countPN p f n q).nse = s.nse ∧ (s.countPN p f n q).path = s.path ∧ (s.countPN p f n q).tab = s.tab := by
  unfold State.countPN
  split <;> exact ⟨rfl, rfl, rfl, rfl, rfl, rfl, rfl, rfl, rfl, rfl, rfl, rfl, rfl, rfl, rfl, rfl, rfl, rfl, rfl, rfl, rfl⟩

@[simp] theorem State.countP_frame (s : State) (p : Nat) (f : Fld) (q : Nat) :
    (s.countP p f q).pending = s.pending ∧ (s.countP p f q).part = s.part ∧ (s.countP p f q).time = s.time ∧
    (s.countP p f q).pins = s.pins ∧ (s.countP p f q).mem = s.mem ∧ (s.countP p f q).host = s.host ∧ (s.countP p f q).fe = s.fe ∧
    (s.countP p f q).mods = s.mods ∧ (s.countP p f q).fab = s.fab ∧ (s.countP p f q).pwr = s.pwr ∧ (s.countP p f q).thm = s.thm ∧
    (s.countP p f q).flt = s.flt ∧ (s.countP p f q).out = s.out ∧ (s.countP p f q).free = s.free ∧ (s.countP p f q).clk = s.clk ∧
    (s.countP p f q).rst = s.rst ∧ (s.countP p f q).trust = s.trust ∧ (s.countP p f q).rules = s.rules ∧ (s.countP p f q).nse = s.nse ∧
    (s.countP p f q).path = s.path ∧ (s.countP p f q).tab = s.tab := by
  unfold State.countP
  (repeat' split) <;> simp

@[simp] theorem State.countO_frame (s : State) (p : Nat) (f : Fld) (n : Nat) (q : Option Nat) :
    (s.countO p f n q).pending = s.pending ∧ (s.countO p f n q).part = s.part ∧ (s.countO p f n q).time = s.time ∧
    (s.countO p f n q).pins = s.pins ∧ (s.countO p f n q).mem = s.mem ∧ (s.countO p f n q).host = s.host ∧ (s.countO p f n q).fe = s.fe ∧
    (s.countO p f n q).mods = s.mods ∧ (s.countO p f n q).fab = s.fab ∧ (s.countO p f n q).pwr = s.pwr ∧ (s.countO p f n q).thm = s.thm ∧
    (s.countO p f n q).flt = s.flt ∧ (s.countO p f n q).out = s.out ∧ (s.countO p f n q).free = s.free ∧ (s.countO p f n q).clk = s.clk ∧
    (s.countO p f n q).rst = s.rst ∧ (s.countO p f n q).trust = s.trust ∧ (s.countO p f n q).rules = s.rules ∧
    (s.countO p f n q).nse = s.nse ∧ (s.countO p f n q).path = s.path ∧ (s.countO p f n q).tab = s.tab := by
  unfold State.countO
  (repeat' split) <;> simp

@[simp] theorem State.shareN_frame (s : State) (p : Nat) (f : Fld) (n q : Nat) :
    (s.shareN p f n q).pending = s.pending ∧ (s.shareN p f n q).regs = s.regs ∧ (s.shareN p f n q).part = s.part ∧
    (s.shareN p f n q).time = s.time ∧ (s.shareN p f n q).pins = s.pins ∧ (s.shareN p f n q).mem = s.mem ∧
    (s.shareN p f n q).host = s.host ∧ (s.shareN p f n q).fe = s.fe ∧ (s.shareN p f n q).mods = s.mods ∧ (s.shareN p f n q).fab = s.fab ∧
    (s.shareN p f n q).pwr = s.pwr ∧ (s.shareN p f n q).thm = s.thm ∧ (s.shareN p f n q).flt = s.flt ∧ (s.shareN p f n q).out = s.out ∧
    (s.shareN p f n q).free = s.free ∧ (s.shareN p f n q).clk = s.clk ∧ (s.shareN p f n q).rst = s.rst ∧
    (s.shareN p f n q).trust = s.trust ∧ (s.shareN p f n q).rules = s.rules ∧ (s.shareN p f n q).nse = s.nse ∧
    (s.shareN p f n q).path = s.path ∧ (s.shareN p f n q).tab = s.tab := by
  unfold State.shareN
  split <;> exact ⟨rfl, rfl, rfl, rfl, rfl, rfl, rfl, rfl, rfl, rfl, rfl, rfl, rfl, rfl, rfl, rfl, rfl, rfl, rfl, rfl, rfl, rfl⟩

@[simp] theorem State.sentinel_frame (s : State) (p i : Nat) :
    (s.sentinel p i).pending = s.pending ∧ (s.sentinel p i).part = s.part ∧ (s.sentinel p i).time = s.time ∧
    (s.sentinel p i).pins = s.pins ∧ (s.sentinel p i).mem = s.mem ∧ (s.sentinel p i).host = s.host ∧ (s.sentinel p i).fe = s.fe ∧
    (s.sentinel p i).mods = s.mods ∧ (s.sentinel p i).fab = s.fab ∧ (s.sentinel p i).pwr = s.pwr ∧ (s.sentinel p i).thm = s.thm ∧
    (s.sentinel p i).obs = s.obs ∧ (s.sentinel p i).flt = s.flt ∧ (s.sentinel p i).out = s.out ∧ (s.sentinel p i).free = s.free ∧
    (s.sentinel p i).clk = s.clk ∧ (s.sentinel p i).rst = s.rst ∧ (s.sentinel p i).trust = s.trust ∧ (s.sentinel p i).rules = s.rules ∧
    (s.sentinel p i).nse = s.nse ∧ (s.sentinel p i).path = s.path ∧ (s.sentinel p i).tab = s.tab := by
  unfold State.sentinel
  split <;> exact ⟨rfl, rfl, rfl, rfl, rfl, rfl, rfl, rfl, rfl, rfl, rfl, rfl, rfl, rfl, rfl, rfl, rfl, rfl, rfl, rfl, rfl, rfl⟩

@[simp] theorem State.sentinelN_frame (s : State) (p i n : Nat) :
    (s.sentinelN p i n).pending = s.pending ∧ (s.sentinelN p i n).part = s.part ∧ (s.sentinelN p i n).time = s.time ∧
    (s.sentinelN p i n).pins = s.pins ∧ (s.sentinelN p i n).mem = s.mem ∧ (s.sentinelN p i n).host = s.host ∧
    (s.sentinelN p i n).fe = s.fe ∧ (s.sentinelN p i n).mods = s.mods ∧ (s.sentinelN p i n).fab = s.fab ∧
    (s.sentinelN p i n).pwr = s.pwr ∧ (s.sentinelN p i n).thm = s.thm ∧ (s.sentinelN p i n).obs = s.obs ∧
    (s.sentinelN p i n).flt = s.flt ∧ (s.sentinelN p i n).out = s.out ∧ (s.sentinelN p i n).free = s.free ∧
    (s.sentinelN p i n).clk = s.clk ∧ (s.sentinelN p i n).rst = s.rst ∧ (s.sentinelN p i n).trust = s.trust ∧
    (s.sentinelN p i n).rules = s.rules ∧ (s.sentinelN p i n).nse = s.nse ∧ (s.sentinelN p i n).path = s.path ∧
    (s.sentinelN p i n).tab = s.tab := by
  unfold State.sentinelN
  split <;> exact ⟨rfl, rfl, rfl, rfl, rfl, rfl, rfl, rfl, rfl, rfl, rfl, rfl, rfl, rfl, rfl, rfl, rfl, rfl, rfl, rfl, rfl, rfl⟩

@[simp] theorem State.progress_frame (s : State) (p : Nat) :
    (s.progress p).pending = s.pending ∧ (s.progress p).part = s.part ∧ (s.progress p).time = s.time ∧ (s.progress p).pins = s.pins ∧
    (s.progress p).mem = s.mem ∧ (s.progress p).host = s.host ∧ (s.progress p).fe = s.fe ∧ (s.progress p).mods = s.mods ∧
    (s.progress p).fab = s.fab ∧ (s.progress p).pwr = s.pwr ∧ (s.progress p).thm = s.thm ∧ (s.progress p).obs = s.obs ∧
    (s.progress p).flt = s.flt ∧ (s.progress p).out = s.out ∧ (s.progress p).free = s.free ∧ (s.progress p).clk = s.clk ∧
    (s.progress p).rst = s.rst ∧ (s.progress p).trust = s.trust ∧ (s.progress p).rules = s.rules ∧ (s.progress p).nse = s.nse ∧
    (s.progress p).path = s.path ∧ (s.progress p).tab = s.tab := by
  exact ⟨rfl, rfl, rfl, rfl, rfl, rfl, rfl, rfl, rfl, rfl, rfl, rfl, rfl, rfl, rfl, rfl, rfl, rfl, rfl, rfl, rfl, rfl⟩

@[simp] theorem State.progressN_frame (s : State) (p n : Nat) :
    (s.progressN p n).pending = s.pending ∧ (s.progressN p n).part = s.part ∧ (s.progressN p n).time = s.time ∧
    (s.progressN p n).pins = s.pins ∧ (s.progressN p n).mem = s.mem ∧ (s.progressN p n).host = s.host ∧ (s.progressN p n).fe = s.fe ∧
    (s.progressN p n).mods = s.mods ∧ (s.progressN p n).fab = s.fab ∧ (s.progressN p n).pwr = s.pwr ∧ (s.progressN p n).thm = s.thm ∧
    (s.progressN p n).obs = s.obs ∧ (s.progressN p n).flt = s.flt ∧ (s.progressN p n).out = s.out ∧ (s.progressN p n).free = s.free ∧
    (s.progressN p n).clk = s.clk ∧ (s.progressN p n).rst = s.rst ∧ (s.progressN p n).trust = s.trust ∧
    (s.progressN p n).rules = s.rules ∧ (s.progressN p n).nse = s.nse ∧ (s.progressN p n).path = s.path ∧
    (s.progressN p n).tab = s.tab := by
  exact ⟨rfl, rfl, rfl, rfl, rfl, rfl, rfl, rfl, rfl, rfl, rfl, rfl, rfl, rfl, rfl, rfl, rfl, rfl, rfl, rfl, rfl, rfl⟩

@[simp] theorem State.countSat_frame (s : State) (p : Nat) (f : Fld) :
    (s.countSat p f).pending = s.pending ∧ (s.countSat p f).part = s.part ∧ (s.countSat p f).time = s.time ∧
    (s.countSat p f).pins = s.pins ∧ (s.countSat p f).mem = s.mem ∧ (s.countSat p f).host = s.host ∧ (s.countSat p f).fe = s.fe ∧
    (s.countSat p f).mods = s.mods ∧ (s.countSat p f).fab = s.fab ∧ (s.countSat p f).pwr = s.pwr ∧ (s.countSat p f).thm = s.thm ∧
    (s.countSat p f).obs = s.obs ∧ (s.countSat p f).flt = s.flt ∧ (s.countSat p f).out = s.out ∧ (s.countSat p f).free = s.free ∧
    (s.countSat p f).clk = s.clk ∧ (s.countSat p f).rst = s.rst ∧ (s.countSat p f).trust = s.trust ∧ (s.countSat p f).rules = s.rules ∧
    (s.countSat p f).nse = s.nse ∧ (s.countSat p f).path = s.path ∧ (s.countSat p f).tab = s.tab := by
  exact ⟨rfl, rfl, rfl, rfl, rfl, rfl, rfl, rfl, rfl, rfl, rfl, rfl, rfl, rfl, rfl, rfl, rfl, rfl, rfl, rfl, rfl, rfl⟩

@[simp] theorem State.msix_frame (s : State) (fn v : Nat) :
    (s.msix fn v).pending = s.pending ∧ (s.msix fn v).regs = s.regs ∧ (s.msix fn v).part = s.part ∧ (s.msix fn v).time = s.time ∧
    (s.msix fn v).pins = s.pins ∧ (s.msix fn v).mem = s.mem ∧ (s.msix fn v).fe = s.fe ∧ (s.msix fn v).mods = s.mods ∧
    (s.msix fn v).fab = s.fab ∧ (s.msix fn v).pwr = s.pwr ∧ (s.msix fn v).thm = s.thm ∧ (s.msix fn v).obs = s.obs ∧
    (s.msix fn v).flt = s.flt ∧ (s.msix fn v).free = s.free ∧ (s.msix fn v).clk = s.clk ∧ (s.msix fn v).rst = s.rst ∧
    (s.msix fn v).trust = s.trust ∧ (s.msix fn v).rules = s.rules ∧ (s.msix fn v).nse = s.nse ∧ (s.msix fn v).path = s.path ∧
    (s.msix fn v).tab = s.tab := by
  unfold State.msix
  (repeat' split) <;> simp

@[simp] theorem State.sendGroup_frame (s : State) (g : Nat) :
    (s.sendGroup g).pending = s.pending ∧ (s.sendGroup g).regs = s.regs ∧ (s.sendGroup g).part = s.part ∧ (s.sendGroup g).time = s.time ∧
    (s.sendGroup g).pins = s.pins ∧ (s.sendGroup g).mem = s.mem ∧ (s.sendGroup g).fe = s.fe ∧ (s.sendGroup g).mods = s.mods ∧
    (s.sendGroup g).fab = s.fab ∧ (s.sendGroup g).pwr = s.pwr ∧ (s.sendGroup g).thm = s.thm ∧ (s.sendGroup g).obs = s.obs ∧
    (s.sendGroup g).flt = s.flt ∧ (s.sendGroup g).free = s.free ∧ (s.sendGroup g).clk = s.clk ∧ (s.sendGroup g).rst = s.rst ∧
    (s.sendGroup g).trust = s.trust ∧ (s.sendGroup g).rules = s.rules ∧ (s.sendGroup g).nse = s.nse ∧ (s.sendGroup g).path = s.path ∧
    (s.sendGroup g).tab = s.tab := by
  unfold State.sendGroup
  (repeat' split) <;> simp

@[simp] theorem State.noteGroup_frame (s : State) (g : Nat) (b : Bool) :
    (s.noteGroup g b).pending = s.pending ∧ (s.noteGroup g b).regs = s.regs ∧ (s.noteGroup g b).part = s.part ∧
    (s.noteGroup g b).time = s.time ∧ (s.noteGroup g b).pins = s.pins ∧ (s.noteGroup g b).mem = s.mem ∧ (s.noteGroup g b).fe = s.fe ∧
    (s.noteGroup g b).mods = s.mods ∧ (s.noteGroup g b).fab = s.fab ∧ (s.noteGroup g b).pwr = s.pwr ∧ (s.noteGroup g b).thm = s.thm ∧
    (s.noteGroup g b).obs = s.obs ∧ (s.noteGroup g b).flt = s.flt ∧ (s.noteGroup g b).out = s.out ∧ (s.noteGroup g b).free = s.free ∧
    (s.noteGroup g b).clk = s.clk ∧ (s.noteGroup g b).rst = s.rst ∧ (s.noteGroup g b).trust = s.trust ∧
    (s.noteGroup g b).rules = s.rules ∧ (s.noteGroup g b).nse = s.nse ∧ (s.noteGroup g b).path = s.path ∧
    (s.noteGroup g b).tab = s.tab := by
  unfold State.noteGroup
  (repeat' split) <;> simp

@[simp] theorem State.cause_frame (s : State) (p b : Nat) :
    (s.cause p b).pending = s.pending ∧ (s.cause p b).part = s.part ∧ (s.cause p b).time = s.time ∧ (s.cause p b).pins = s.pins ∧
    (s.cause p b).mem = s.mem ∧ (s.cause p b).fe = s.fe ∧ (s.cause p b).mods = s.mods ∧ (s.cause p b).fab = s.fab ∧
    (s.cause p b).pwr = s.pwr ∧ (s.cause p b).thm = s.thm ∧ (s.cause p b).obs = s.obs ∧ (s.cause p b).flt = s.flt ∧
    (s.cause p b).out = s.out ∧ (s.cause p b).free = s.free ∧ (s.cause p b).clk = s.clk ∧ (s.cause p b).rst = s.rst ∧
    (s.cause p b).trust = s.trust ∧ (s.cause p b).rules = s.rules ∧ (s.cause p b).nse = s.nse ∧ (s.cause p b).path = s.path ∧
    (s.cause p b).tab = s.tab := by
  unfold State.cause State.withGroup
  (repeat' split) <;> simp

@[simp] theorem State.perr_frame (s : State) (p c : Nat) :
    (s.perr p c).pending = s.pending ∧ (s.perr p c).part = s.part ∧ (s.perr p c).time = s.time ∧ (s.perr p c).pins = s.pins ∧
    (s.perr p c).mem = s.mem ∧ (s.perr p c).fe = s.fe ∧ (s.perr p c).mods = s.mods ∧ (s.perr p c).fab = s.fab ∧ (s.perr p c).pwr = s.pwr ∧
    (s.perr p c).thm = s.thm ∧ (s.perr p c).obs = s.obs ∧ (s.perr p c).flt = s.flt ∧ (s.perr p c).out = s.out ∧
    (s.perr p c).free = s.free ∧ (s.perr p c).clk = s.clk ∧ (s.perr p c).rst = s.rst ∧ (s.perr p c).trust = s.trust ∧
    (s.perr p c).rules = s.rules ∧ (s.perr p c).nse = s.nse ∧ (s.perr p c).path = s.path ∧ (s.perr p c).tab = s.tab := by
  unfold State.perr
  (repeat' split) <;> simp

@[simp] theorem State.illegal_frame (s : State) (p : Nat) :
    (s.illegal p).pending = s.pending ∧ (s.illegal p).part = s.part ∧ (s.illegal p).time = s.time ∧ (s.illegal p).pins = s.pins ∧
    (s.illegal p).mem = s.mem ∧ (s.illegal p).fe = s.fe ∧ (s.illegal p).mods = s.mods ∧ (s.illegal p).fab = s.fab ∧
    (s.illegal p).pwr = s.pwr ∧ (s.illegal p).thm = s.thm ∧ (s.illegal p).obs = s.obs ∧ (s.illegal p).flt = s.flt ∧
    (s.illegal p).out = s.out ∧ (s.illegal p).free = s.free ∧ (s.illegal p).clk = s.clk ∧ (s.illegal p).rst = s.rst ∧
    (s.illegal p).trust = s.trust ∧ (s.illegal p).rules = s.rules ∧ (s.illegal p).nse = s.nse ∧ (s.illegal p).path = s.path ∧
    (s.illegal p).tab = s.tab := by
  unfold State.illegal
  (repeat' split) <;> simp

@[simp] theorem State.setReady_frame (s : State) (p : Nat) (b : Bool) :
    (s.setReady p b).pending = s.pending ∧ (s.setReady p b).part = s.part ∧ (s.setReady p b).time = s.time ∧
    (s.setReady p b).pins = s.pins ∧ (s.setReady p b).mem = s.mem ∧ (s.setReady p b).fe = s.fe ∧ (s.setReady p b).mods = s.mods ∧
    (s.setReady p b).fab = s.fab ∧ (s.setReady p b).pwr = s.pwr ∧ (s.setReady p b).thm = s.thm ∧ (s.setReady p b).obs = s.obs ∧
    (s.setReady p b).flt = s.flt ∧ (s.setReady p b).out = s.out ∧ (s.setReady p b).free = s.free ∧ (s.setReady p b).clk = s.clk ∧
    (s.setReady p b).rst = s.rst ∧ (s.setReady p b).trust = s.trust ∧ (s.setReady p b).rules = s.rules ∧ (s.setReady p b).nse = s.nse ∧
    (s.setReady p b).path = s.path ∧ (s.setReady p b).tab = s.tab := by
  unfold State.setReady
  (repeat' split) <;> simp

@[simp] theorem State.setState_frame (s : State) (p c : Nat) :
    (s.setState p c).pending = s.pending ∧ (s.setState p c).part = s.part ∧ (s.setState p c).time = s.time ∧
    (s.setState p c).pins = s.pins ∧ (s.setState p c).mem = s.mem ∧ (s.setState p c).host = s.host ∧ (s.setState p c).fe = s.fe ∧
    (s.setState p c).mods = s.mods ∧ (s.setState p c).fab = s.fab ∧ (s.setState p c).pwr = s.pwr ∧ (s.setState p c).thm = s.thm ∧
    (s.setState p c).obs = s.obs ∧ (s.setState p c).flt = s.flt ∧ (s.setState p c).out = s.out ∧ (s.setState p c).free = s.free ∧
    (s.setState p c).clk = s.clk ∧ (s.setState p c).rst = s.rst ∧ (s.setState p c).trust = s.trust ∧ (s.setState p c).rules = s.rules ∧
    (s.setState p c).nse = s.nse ∧ (s.setState p c).path = s.path ∧ (s.setState p c).tab = s.tab := by
  exact ⟨rfl, rfl, rfl, rfl, rfl, rfl, rfl, rfl, rfl, rfl, rfl, rfl, rfl, rfl, rfl, rfl, rfl, rfl, rfl, rfl, rfl, rfl⟩

@[simp] theorem State.setFault_frame (s : State) (p : Nat) :
    (s.setFault p).pending = s.pending ∧ (s.setFault p).part = s.part ∧ (s.setFault p).time = s.time ∧ (s.setFault p).pins = s.pins ∧
    (s.setFault p).mem = s.mem ∧ (s.setFault p).fe = s.fe ∧ (s.setFault p).mods = s.mods ∧ (s.setFault p).fab = s.fab ∧
    (s.setFault p).pwr = s.pwr ∧ (s.setFault p).thm = s.thm ∧ (s.setFault p).obs = s.obs ∧ (s.setFault p).flt = s.flt ∧
    (s.setFault p).out = s.out ∧ (s.setFault p).free = s.free ∧ (s.setFault p).clk = s.clk ∧ (s.setFault p).rst = s.rst ∧
    (s.setFault p).trust = s.trust ∧ (s.setFault p).rules = s.rules ∧ (s.setFault p).nse = s.nse ∧ (s.setFault p).path = s.path ∧
    (s.setFault p).tab = s.tab := by
  unfold State.setFault
  (repeat' split) <;> simp

@[simp] theorem State.setDegraded_frame (s : State) (p : Nat) (b : Bool) :
    (s.setDegraded p b).pending = s.pending ∧ (s.setDegraded p b).part = s.part ∧ (s.setDegraded p b).time = s.time ∧
    (s.setDegraded p b).pins = s.pins ∧ (s.setDegraded p b).mem = s.mem ∧ (s.setDegraded p b).fe = s.fe ∧
    (s.setDegraded p b).mods = s.mods ∧ (s.setDegraded p b).fab = s.fab ∧ (s.setDegraded p b).pwr = s.pwr ∧
    (s.setDegraded p b).thm = s.thm ∧ (s.setDegraded p b).obs = s.obs ∧ (s.setDegraded p b).flt = s.flt ∧
    (s.setDegraded p b).out = s.out ∧ (s.setDegraded p b).free = s.free ∧ (s.setDegraded p b).clk = s.clk ∧
    (s.setDegraded p b).rst = s.rst ∧ (s.setDegraded p b).trust = s.trust ∧ (s.setDegraded p b).rules = s.rules ∧
    (s.setDegraded p b).nse = s.nse ∧ (s.setDegraded p b).path = s.path ∧ (s.setDegraded p b).tab = s.tab := by
  unfold State.setDegraded
  (repeat' split) <;> simp

@[simp] theorem State.resetPage_frame (s : State) (p : Nat) :
    (s.resetPage p).pending = s.pending ∧ (s.resetPage p).part = s.part ∧ (s.resetPage p).time = s.time ∧ (s.resetPage p).pins = s.pins ∧
    (s.resetPage p).mem = s.mem ∧ (s.resetPage p).host = s.host ∧ (s.resetPage p).fe = s.fe ∧ (s.resetPage p).mods = s.mods ∧
    (s.resetPage p).fab = s.fab ∧ (s.resetPage p).pwr = s.pwr ∧ (s.resetPage p).thm = s.thm ∧ (s.resetPage p).obs = s.obs ∧
    (s.resetPage p).flt = s.flt ∧ (s.resetPage p).out = s.out ∧ (s.resetPage p).free = s.free ∧ (s.resetPage p).clk = s.clk ∧
    (s.resetPage p).rst = s.rst ∧ (s.resetPage p).trust = s.trust ∧ (s.resetPage p).rules = s.rules ∧ (s.resetPage p).nse = s.nse ∧
    (s.resetPage p).path = s.path ∧ (s.resetPage p).tab = s.tab := by
  exact ⟨rfl, rfl, rfl, rfl, rfl, rfl, rfl, rfl, rfl, rfl, rfl, rfl, rfl, rfl, rfl, rfl, rfl, rfl, rfl, rfl, rfl, rfl⟩

@[simp] theorem State.devWrite_frame (s : State) (a : Nat) (bs : Bytes) :
    (s.devWrite a bs).pending = s.pending ∧ (s.devWrite a bs).regs = s.regs ∧ (s.devWrite a bs).part = s.part ∧
    (s.devWrite a bs).time = s.time ∧ (s.devWrite a bs).pins = s.pins ∧ (s.devWrite a bs).host = s.host ∧ (s.devWrite a bs).fe = s.fe ∧
    (s.devWrite a bs).mods = s.mods ∧ (s.devWrite a bs).fab = s.fab ∧ (s.devWrite a bs).pwr = s.pwr ∧ (s.devWrite a bs).thm = s.thm ∧
    (s.devWrite a bs).obs = s.obs ∧ (s.devWrite a bs).flt = s.flt ∧ (s.devWrite a bs).out = s.out ∧ (s.devWrite a bs).free = s.free ∧
    (s.devWrite a bs).clk = s.clk ∧ (s.devWrite a bs).rst = s.rst ∧ (s.devWrite a bs).trust = s.trust ∧
    (s.devWrite a bs).rules = s.rules ∧ (s.devWrite a bs).nse = s.nse ∧ (s.devWrite a bs).path = s.path ∧
    (s.devWrite a bs).tab = s.tab := by
  exact ⟨rfl, rfl, rfl, rfl, rfl, rfl, rfl, rfl, rfl, rfl, rfl, rfl, rfl, rfl, rfl, rfl, rfl, rfl, rfl, rfl, rfl, rfl⟩

@[simp] theorem State.hostWrite_frame (s : State) (a : Nat) (bs : Bytes) :
    (s.hostWrite a bs).pending = s.pending ∧ (s.hostWrite a bs).regs = s.regs ∧ (s.hostWrite a bs).part = s.part ∧
    (s.hostWrite a bs).time = s.time ∧ (s.hostWrite a bs).pins = s.pins ∧ (s.hostWrite a bs).host = s.host ∧
    (s.hostWrite a bs).fe = s.fe ∧ (s.hostWrite a bs).mods = s.mods ∧ (s.hostWrite a bs).fab = s.fab ∧ (s.hostWrite a bs).pwr = s.pwr ∧
    (s.hostWrite a bs).thm = s.thm ∧ (s.hostWrite a bs).obs = s.obs ∧ (s.hostWrite a bs).flt = s.flt ∧ (s.hostWrite a bs).out = s.out ∧
    (s.hostWrite a bs).free = s.free ∧ (s.hostWrite a bs).clk = s.clk ∧ (s.hostWrite a bs).rst = s.rst ∧
    (s.hostWrite a bs).trust = s.trust ∧ (s.hostWrite a bs).rules = s.rules ∧ (s.hostWrite a bs).nse = s.nse ∧
    (s.hostWrite a bs).path = s.path ∧ (s.hostWrite a bs).tab = s.tab := by
  exact ⟨rfl, rfl, rfl, rfl, rfl, rfl, rfl, rfl, rfl, rfl, rfl, rfl, rfl, rfl, rfl, rfl, rfl, rfl, rfl, rfl, rfl, rfl⟩

@[simp] theorem State.draw_frame (s : State)  :
    (s.draw).pending = s.pending ∧ (s.draw).regs = s.regs ∧ (s.draw).part = s.part ∧ (s.draw).time = s.time ∧ (s.draw).pins = s.pins ∧
    (s.draw).mem = s.mem ∧ (s.draw).host = s.host ∧ (s.draw).fe = s.fe ∧ (s.draw).mods = s.mods ∧ (s.draw).fab = s.fab ∧
    (s.draw).pwr = s.pwr ∧ (s.draw).thm = s.thm ∧ (s.draw).obs = s.obs ∧ (s.draw).flt = s.flt ∧ (s.draw).out = s.out ∧
    (s.draw).clk = s.clk ∧ (s.draw).rst = s.rst ∧ (s.draw).trust = s.trust ∧ (s.draw).rules = s.rules ∧ (s.draw).nse = s.nse ∧
    (s.draw).path = s.path ∧ (s.draw).tab = s.tab := by
  exact ⟨rfl, rfl, rfl, rfl, rfl, rfl, rfl, rfl, rfl, rfl, rfl, rfl, rfl, rfl, rfl, rfl, rfl, rfl, rfl, rfl, rfl, rfl⟩

@[simp] theorem State.drawN_frame (s : State) (n : Nat) :
    (s.drawN n).pending = s.pending ∧ (s.drawN n).regs = s.regs ∧ (s.drawN n).part = s.part ∧ (s.drawN n).time = s.time ∧
    (s.drawN n).pins = s.pins ∧ (s.drawN n).mem = s.mem ∧ (s.drawN n).host = s.host ∧ (s.drawN n).fe = s.fe ∧ (s.drawN n).mods = s.mods ∧
    (s.drawN n).fab = s.fab ∧ (s.drawN n).pwr = s.pwr ∧ (s.drawN n).thm = s.thm ∧ (s.drawN n).obs = s.obs ∧ (s.drawN n).flt = s.flt ∧
    (s.drawN n).out = s.out ∧ (s.drawN n).clk = s.clk ∧ (s.drawN n).rst = s.rst ∧ (s.drawN n).trust = s.trust ∧
    (s.drawN n).rules = s.rules ∧ (s.drawN n).nse = s.nse ∧ (s.drawN n).path = s.path ∧ (s.drawN n).tab = s.tab := by
  exact ⟨rfl, rfl, rfl, rfl, rfl, rfl, rfl, rfl, rfl, rfl, rfl, rfl, rfl, rfl, rfl, rfl, rfl, rfl, rfl, rfl, rfl, rfl⟩

@[simp] theorem State.setQueue_frame (s : State) (q : Nat) (r : Queue) :
    (s.setQueue q r).pending = s.pending ∧ (s.setQueue q r).regs = s.regs ∧ (s.setQueue q r).part = s.part ∧
    (s.setQueue q r).time = s.time ∧ (s.setQueue q r).pins = s.pins ∧ (s.setQueue q r).mem = s.mem ∧ (s.setQueue q r).host = s.host ∧
    (s.setQueue q r).mods = s.mods ∧ (s.setQueue q r).fab = s.fab ∧ (s.setQueue q r).pwr = s.pwr ∧ (s.setQueue q r).thm = s.thm ∧
    (s.setQueue q r).obs = s.obs ∧ (s.setQueue q r).flt = s.flt ∧ (s.setQueue q r).out = s.out ∧ (s.setQueue q r).free = s.free ∧
    (s.setQueue q r).clk = s.clk ∧ (s.setQueue q r).rst = s.rst ∧ (s.setQueue q r).trust = s.trust ∧ (s.setQueue q r).rules = s.rules ∧
    (s.setQueue q r).nse = s.nse ∧ (s.setQueue q r).path = s.path ∧ (s.setQueue q r).tab = s.tab := by
  exact ⟨rfl, rfl, rfl, rfl, rfl, rfl, rfl, rfl, rfl, rfl, rfl, rfl, rfl, rfl, rfl, rfl, rfl, rfl, rfl, rfl, rfl, rfl⟩

@[simp] theorem State.modQueue_frame (s : State) (q : Nat) (f : Queue → Queue) :
    (s.modQueue q f).pending = s.pending ∧ (s.modQueue q f).regs = s.regs ∧ (s.modQueue q f).part = s.part ∧
    (s.modQueue q f).time = s.time ∧ (s.modQueue q f).pins = s.pins ∧ (s.modQueue q f).mem = s.mem ∧ (s.modQueue q f).host = s.host ∧
    (s.modQueue q f).mods = s.mods ∧ (s.modQueue q f).fab = s.fab ∧ (s.modQueue q f).pwr = s.pwr ∧ (s.modQueue q f).thm = s.thm ∧
    (s.modQueue q f).obs = s.obs ∧ (s.modQueue q f).flt = s.flt ∧ (s.modQueue q f).out = s.out ∧ (s.modQueue q f).free = s.free ∧
    (s.modQueue q f).clk = s.clk ∧ (s.modQueue q f).rst = s.rst ∧ (s.modQueue q f).trust = s.trust ∧ (s.modQueue q f).rules = s.rules ∧
    (s.modQueue q f).nse = s.nse ∧ (s.modQueue q f).path = s.path ∧ (s.modQueue q f).tab = s.tab := by
  exact ⟨rfl, rfl, rfl, rfl, rfl, rfl, rfl, rfl, rfl, rfl, rfl, rfl, rfl, rfl, rfl, rfl, rfl, rfl, rfl, rfl, rfl, rfl⟩

@[simp] theorem State.modQcb_frame (s : State) (q : Nat) (f : Qcb → Qcb) :
    (s.modQcb q f).pending = s.pending ∧ (s.modQcb q f).regs = s.regs ∧ (s.modQcb q f).part = s.part ∧ (s.modQcb q f).time = s.time ∧
    (s.modQcb q f).pins = s.pins ∧ (s.modQcb q f).mem = s.mem ∧ (s.modQcb q f).host = s.host ∧ (s.modQcb q f).mods = s.mods ∧
    (s.modQcb q f).fab = s.fab ∧ (s.modQcb q f).pwr = s.pwr ∧ (s.modQcb q f).thm = s.thm ∧ (s.modQcb q f).obs = s.obs ∧
    (s.modQcb q f).flt = s.flt ∧ (s.modQcb q f).out = s.out ∧ (s.modQcb q f).free = s.free ∧ (s.modQcb q f).clk = s.clk ∧
    (s.modQcb q f).rst = s.rst ∧ (s.modQcb q f).trust = s.trust ∧ (s.modQcb q f).rules = s.rules ∧ (s.modQcb q f).nse = s.nse ∧
    (s.modQcb q f).path = s.path ∧ (s.modQcb q f).tab = s.tab := by
  exact ⟨rfl, rfl, rfl, rfl, rfl, rfl, rfl, rfl, rfl, rfl, rfl, rfl, rfl, rfl, rfl, rfl, rfl, rfl, rfl, rfl, rfl, rfl⟩

@[simp] theorem State.modEntry_frame (s : State) (q i : Nat) (f : Entry → Entry) :
    (s.modEntry q i f).pending = s.pending ∧ (s.modEntry q i f).regs = s.regs ∧ (s.modEntry q i f).part = s.part ∧
    (s.modEntry q i f).time = s.time ∧ (s.modEntry q i f).pins = s.pins ∧ (s.modEntry q i f).mem = s.mem ∧
    (s.modEntry q i f).host = s.host ∧ (s.modEntry q i f).mods = s.mods ∧ (s.modEntry q i f).fab = s.fab ∧
    (s.modEntry q i f).pwr = s.pwr ∧ (s.modEntry q i f).thm = s.thm ∧ (s.modEntry q i f).obs = s.obs ∧ (s.modEntry q i f).flt = s.flt ∧
    (s.modEntry q i f).out = s.out ∧ (s.modEntry q i f).free = s.free ∧ (s.modEntry q i f).clk = s.clk ∧ (s.modEntry q i f).rst = s.rst ∧
    (s.modEntry q i f).trust = s.trust ∧ (s.modEntry q i f).rules = s.rules ∧ (s.modEntry q i f).nse = s.nse ∧
    (s.modEntry q i f).path = s.path ∧ (s.modEntry q i f).tab = s.tab := by
  exact ⟨rfl, rfl, rfl, rfl, rfl, rfl, rfl, rfl, rfl, rfl, rfl, rfl, rfl, rfl, rfl, rfl, rfl, rfl, rfl, rfl, rfl, rfl⟩

@[simp] theorem State.modSlot_frame (s : State) (k : Nat) (f : Slot → Slot) :
    (s.modSlot k f).pending = s.pending ∧ (s.modSlot k f).regs = s.regs ∧ (s.modSlot k f).part = s.part ∧ (s.modSlot k f).time = s.time ∧
    (s.modSlot k f).pins = s.pins ∧ (s.modSlot k f).mem = s.mem ∧ (s.modSlot k f).host = s.host ∧ (s.modSlot k f).mods = s.mods ∧
    (s.modSlot k f).fab = s.fab ∧ (s.modSlot k f).pwr = s.pwr ∧ (s.modSlot k f).thm = s.thm ∧ (s.modSlot k f).obs = s.obs ∧
    (s.modSlot k f).flt = s.flt ∧ (s.modSlot k f).out = s.out ∧ (s.modSlot k f).free = s.free ∧ (s.modSlot k f).clk = s.clk ∧
    (s.modSlot k f).rst = s.rst ∧ (s.modSlot k f).trust = s.trust ∧ (s.modSlot k f).rules = s.rules ∧ (s.modSlot k f).nse = s.nse ∧
    (s.modSlot k f).path = s.path ∧ (s.modSlot k f).tab = s.tab := by
  exact ⟨rfl, rfl, rfl, rfl, rfl, rfl, rfl, rfl, rfl, rfl, rfl, rfl, rfl, rfl, rfl, rfl, rfl, rfl, rfl, rfl, rfl, rfl⟩

@[simp] theorem State.postAsync_frame (s : State) (q i st d sl e it tag : Nat) :
    (s.postAsync q i st d sl e it tag).pending = s.pending ∧ (s.postAsync q i st d sl e it tag).regs = s.regs ∧
    (s.postAsync q i st d sl e it tag).part = s.part ∧ (s.postAsync q i st d sl e it tag).time = s.time ∧
    (s.postAsync q i st d sl e it tag).pins = s.pins ∧ (s.postAsync q i st d sl e it tag).mem = s.mem ∧
    (s.postAsync q i st d sl e it tag).host = s.host ∧ (s.postAsync q i st d sl e it tag).mods = s.mods ∧
    (s.postAsync q i st d sl e it tag).fab = s.fab ∧ (s.postAsync q i st d sl e it tag).pwr = s.pwr ∧
    (s.postAsync q i st d sl e it tag).thm = s.thm ∧ (s.postAsync q i st d sl e it tag).obs = s.obs ∧
    (s.postAsync q i st d sl e it tag).flt = s.flt ∧ (s.postAsync q i st d sl e it tag).out = s.out ∧
    (s.postAsync q i st d sl e it tag).free = s.free ∧ (s.postAsync q i st d sl e it tag).clk = s.clk ∧
    (s.postAsync q i st d sl e it tag).rst = s.rst ∧ (s.postAsync q i st d sl e it tag).trust = s.trust ∧
    (s.postAsync q i st d sl e it tag).rules = s.rules ∧ (s.postAsync q i st d sl e it tag).nse = s.nse ∧
    (s.postAsync q i st d sl e it tag).path = s.path ∧ (s.postAsync q i st d sl e it tag).tab = s.tab := by
  exact ⟨rfl, rfl, rfl, rfl, rfl, rfl, rfl, rfl, rfl, rfl, rfl, rfl, rfl, rfl, rfl, rfl, rfl, rfl, rfl, rfl, rfl, rfl⟩

@[simp] theorem State.traceBuf_frame (s : State) (d c : Nat) (bs : Bytes) :
    (s.traceBuf d c bs).pending = s.pending ∧ (s.traceBuf d c bs).part = s.part ∧ (s.traceBuf d c bs).time = s.time ∧
    (s.traceBuf d c bs).pins = s.pins ∧ (s.traceBuf d c bs).mem = s.mem ∧ (s.traceBuf d c bs).fe = s.fe ∧
    (s.traceBuf d c bs).mods = s.mods ∧ (s.traceBuf d c bs).fab = s.fab ∧ (s.traceBuf d c bs).pwr = s.pwr ∧
    (s.traceBuf d c bs).thm = s.thm ∧ (s.traceBuf d c bs).flt = s.flt ∧ (s.traceBuf d c bs).out = s.out ∧
    (s.traceBuf d c bs).free = s.free ∧ (s.traceBuf d c bs).clk = s.clk ∧ (s.traceBuf d c bs).rst = s.rst ∧
    (s.traceBuf d c bs).trust = s.trust ∧ (s.traceBuf d c bs).rules = s.rules ∧ (s.traceBuf d c bs).nse = s.nse ∧
    (s.traceBuf d c bs).path = s.path ∧ (s.traceBuf d c bs).tab = s.tab := by
  unfold State.traceBuf
  (repeat' split) <;> simp

@[simp] theorem State.trace_frame (s : State) (c t p : Nat) (l : List (Nat × Nat × Nat)) :
    (s.trace c t p l).pending = s.pending ∧ (s.trace c t p l).part = s.part ∧ (s.trace c t p l).time = s.time ∧
    (s.trace c t p l).pins = s.pins ∧ (s.trace c t p l).mem = s.mem ∧ (s.trace c t p l).fe = s.fe ∧ (s.trace c t p l).mods = s.mods ∧
    (s.trace c t p l).fab = s.fab ∧ (s.trace c t p l).pwr = s.pwr ∧ (s.trace c t p l).thm = s.thm ∧ (s.trace c t p l).flt = s.flt ∧
    (s.trace c t p l).out = s.out ∧ (s.trace c t p l).free = s.free ∧ (s.trace c t p l).clk = s.clk ∧ (s.trace c t p l).rst = s.rst ∧
    (s.trace c t p l).trust = s.trust ∧ (s.trace c t p l).rules = s.rules ∧ (s.trace c t p l).nse = s.nse ∧
    (s.trace c t p l).path = s.path ∧ (s.trace c t p l).tab = s.tab := by
  unfold State.trace
  (repeat' split) <;> simp

@[simp] theorem State.touchQcb_frame (s : State) (q : Nat) :
    (s.touchQcb q).pending = s.pending ∧ (s.touchQcb q).part = s.part ∧ (s.touchQcb q).time = s.time ∧ (s.touchQcb q).pins = s.pins ∧
    (s.touchQcb q).mem = s.mem ∧ (s.touchQcb q).host = s.host ∧ (s.touchQcb q).mods = s.mods ∧ (s.touchQcb q).fab = s.fab ∧
    (s.touchQcb q).pwr = s.pwr ∧ (s.touchQcb q).thm = s.thm ∧ (s.touchQcb q).obs = s.obs ∧ (s.touchQcb q).flt = s.flt ∧
    (s.touchQcb q).out = s.out ∧ (s.touchQcb q).free = s.free ∧ (s.touchQcb q).clk = s.clk ∧ (s.touchQcb q).rst = s.rst ∧
    (s.touchQcb q).trust = s.trust ∧ (s.touchQcb q).rules = s.rules ∧ (s.touchQcb q).nse = s.nse ∧ (s.touchQcb q).path = s.path ∧
    (s.touchQcb q).tab = s.tab := by
  unfold State.touchQcb
  (repeat' split) <;> simp

@[simp] theorem State.startEntry_frame (s : State) (q i : Nat) :
    (s.startEntry q i).pending = s.pending ∧ (s.startEntry q i).part = s.part ∧ (s.startEntry q i).time = s.time ∧
    (s.startEntry q i).pins = s.pins ∧ (s.startEntry q i).mem = s.mem ∧ (s.startEntry q i).mods = s.mods ∧
    (s.startEntry q i).fab = s.fab ∧ (s.startEntry q i).pwr = s.pwr ∧ (s.startEntry q i).thm = s.thm ∧ (s.startEntry q i).flt = s.flt ∧
    (s.startEntry q i).out = s.out ∧ (s.startEntry q i).free = s.free ∧ (s.startEntry q i).clk = s.clk ∧ (s.startEntry q i).rst = s.rst ∧
    (s.startEntry q i).trust = s.trust ∧ (s.startEntry q i).rules = s.rules ∧ (s.startEntry q i).nse = s.nse ∧
    (s.startEntry q i).path = s.path ∧ (s.startEntry q i).tab = s.tab := by
  unfold State.startEntry
  (repeat' split) <;> simp

@[simp] theorem State.finish_frame (s : State) (q i st d : Nat) :
    (s.finish q i st d).pending = s.pending ∧ (s.finish q i st d).part = s.part ∧ (s.finish q i st d).time = s.time ∧
    (s.finish q i st d).pins = s.pins ∧ (s.finish q i st d).mem = s.mem ∧ (s.finish q i st d).host = s.host ∧
    (s.finish q i st d).mods = s.mods ∧ (s.finish q i st d).fab = s.fab ∧ (s.finish q i st d).pwr = s.pwr ∧
    (s.finish q i st d).thm = s.thm ∧ (s.finish q i st d).obs = s.obs ∧ (s.finish q i st d).flt = s.flt ∧
    (s.finish q i st d).out = s.out ∧ (s.finish q i st d).free = s.free ∧ (s.finish q i st d).clk = s.clk ∧
    (s.finish q i st d).rst = s.rst ∧ (s.finish q i st d).trust = s.trust ∧ (s.finish q i st d).rules = s.rules ∧
    (s.finish q i st d).nse = s.nse ∧ (s.finish q i st d).path = s.path ∧ (s.finish q i st d).tab = s.tab := by
  unfold State.finish
  (repeat' split) <;> simp

@[simp] theorem State.finishAny_frame (s : State) (q i st : Nat) :
    (s.finishAny q i st).pending = s.pending ∧ (s.finishAny q i st).part = s.part ∧ (s.finishAny q i st).time = s.time ∧
    (s.finishAny q i st).pins = s.pins ∧ (s.finishAny q i st).mem = s.mem ∧ (s.finishAny q i st).host = s.host ∧
    (s.finishAny q i st).mods = s.mods ∧ (s.finishAny q i st).fab = s.fab ∧ (s.finishAny q i st).pwr = s.pwr ∧
    (s.finishAny q i st).thm = s.thm ∧ (s.finishAny q i st).obs = s.obs ∧ (s.finishAny q i st).flt = s.flt ∧
    (s.finishAny q i st).out = s.out ∧ (s.finishAny q i st).clk = s.clk ∧ (s.finishAny q i st).rst = s.rst ∧
    (s.finishAny q i st).trust = s.trust ∧ (s.finishAny q i st).rules = s.rules ∧ (s.finishAny q i st).nse = s.nse ∧
    (s.finishAny q i st).path = s.path ∧ (s.finishAny q i st).tab = s.tab := by
  unfold State.finishAny
  (repeat' split) <;> simp

@[simp] theorem State.slotProgress_frame (s : State) (k : Nat) :
    (s.slotProgress k).pending = s.pending ∧ (s.slotProgress k).part = s.part ∧ (s.slotProgress k).time = s.time ∧
    (s.slotProgress k).pins = s.pins ∧ (s.slotProgress k).mem = s.mem ∧ (s.slotProgress k).host = s.host ∧ (s.slotProgress k).fe = s.fe ∧
    (s.slotProgress k).mods = s.mods ∧ (s.slotProgress k).fab = s.fab ∧ (s.slotProgress k).pwr = s.pwr ∧ (s.slotProgress k).thm = s.thm ∧
    (s.slotProgress k).obs = s.obs ∧ (s.slotProgress k).flt = s.flt ∧ (s.slotProgress k).out = s.out ∧ (s.slotProgress k).free = s.free ∧
    (s.slotProgress k).clk = s.clk ∧ (s.slotProgress k).rst = s.rst ∧ (s.slotProgress k).trust = s.trust ∧
    (s.slotProgress k).rules = s.rules ∧ (s.slotProgress k).nse = s.nse ∧ (s.slotProgress k).path = s.path ∧
    (s.slotProgress k).tab = s.tab := by
  exact ⟨rfl, rfl, rfl, rfl, rfl, rfl, rfl, rfl, rfl, rfl, rfl, rfl, rfl, rfl, rfl, rfl, rfl, rfl, rfl, rfl, rfl, rfl⟩

/-! ## Register fields -/

/-- Every register cell is in order: keys strictly rising. -/
@[simp] theorem State.rd_wr_self (s : State) (p : Nat) (f : Fld) (v : Nat) (h : RegMap.wfFrom 0 s.regs = true) :
    (s.wr p f v).rd p f = v % 2 ^ f.w := RegMap.get_put_self s.regs 0 _ _ _ h

/-- A field at another position is unchanged. -/
theorem State.rd_wr_other (s : State) (p q : Nat) (f g : Fld) (v : Nat) (h : 8 * q + g.pos ≠ 8 * p + f.pos) :
    (s.wr p f v).rd q g = s.rd q g := RegMap.get_put_other s.regs _ _ _ _ _ h

/-- Registers stay in order. -/
@[simp] theorem State.regs_wr_ok (s : State) (p : Nat) (f : Fld) (v : Nat) (h : RegMap.wfFrom 0 s.regs = true) :
    RegMap.wfFrom 0 (s.wr p f v).regs = true := RegMap.wfFrom_put s.regs 0 _ _ _ (Nat.zero_le _) h

/-- A register field depends on the cells alone. -/
theorem State.rd_congr {s t : State} (h : t.regs = s.regs) (p : Nat) (f : Fld) : t.rd p f = s.rd p f := by
  unfold State.rd
  rw [h]

end Sys2Proof.Machine
end

