-- ==== Sys2Proof/WellFormed.lean ====
section
/-! DEFINITION. WellFormed.lean: commands whose operands lie in the ranges the spec gives them: a register access of legal
size, a page of BAR0, a port, die, queue, slot, partition that can exist on some ordering code, a frame whose header fields
fit theirs. A command out of range is never sent; its meaning stays total. -/

namespace Sys2Proof

/-- A queue entry's or a step's place. -/
def WRef.wellFormed : WRef → Bool
  | .entry q i => q < 1024 && i < 2 ^ 16
  | .step _ n => n < 2 ^ 16

/-- A page of BAR0 (06). -/
def pageOk (page : Nat) : Bool := page < 2 ^ 26 && page % 0x1000 = 0

/-- A BAR0 write of legal size and alignment (06 R260). -/
def accessOk (addr size data : Nat) : Bool :=
  addr < 2 ^ 26 && (size = 4 || size = 8) && addr % size = 0 && data < 2 ^ (8 * size)

/-- The header fields of a Melaz frame fit (16, Frames). -/
def MFrame.wellFormed (f : MFrame) : Bool :=
  f.ver < 256 && f.typ < 256 && f.src < 256 && f.dst < 256 && f.vc < 3 && f.ttl < 256 && f.fwClass < 256 && f.len < 2 ^ 16 &&
  f.epoch < 2 ^ 16 && f.gen < 8 && f.part < 16 && f.flags < 256 && f.cls < 256 && f.egress < 16 && f.crVc < 4 && f.crCount < 2 ^ 14 &&
  f.actions < 2 ^ 64 && f.score < 2 ^ 32 && f.flow < 2 ^ 32

/-- What a detected error names (19). -/
def ErrEvent.wellFormed (e : ErrEvent) : Bool :=
  e.code < 2 ^ 16 && pageOk e.page && e.addr < 2 ^ 64 && e.opcode < 256 && e.queue < 1024 && e.epoch < 2 ^ 16 && e.die < 6 && e.unit < 256 &&
  (match e.slot with | some k => decide (k < 32) | none => true) && (match e.part with | some p => decide (p < 16) | none => true)

/-- The operands lie in their ranges. -/
def Instr.wellFormed : Instr → Bool
  | .sqTailDb fn q val stores => fn < 17 && q < 1024 && val < 2 ^ 32 && stores.all (fun x => x.1 < 2 ^ 64)
  | .cqHeadDb fn q val => fn < 17 && q < 1024 && val < 2 ^ 32
  | .slotMap slot => slot < 32
  | .slotUnmap slot => slot < 32
  | .grant slot => slot < 32
  | .descriptorFetchFail q count => q < 1024 && count ≤ 8
  | .entryRetire q => q < 1024
  | .nop q i => q < 1024 && i < 65536
  | .launchGraph q i => q < 1024 && i < 65536
  | .launchPersistent q i => q < 1024 && i < 65536
  | .stopPersistentDrain q i => q < 1024 && i < 65536
  | .stopPersistentDetach q i => q < 1024 && i < 65536
  | .cancel q i => q < 1024 && i < 65536
  | .voidOperation q i => q < 1024 && i < 65536
  | .copy q i => q < 1024 && i < 65536
  | .queueCreate i => i < 65536
  | .queueDestroyDrain i => i < 65536
  | .queueDestroyAbort i => i < 65536
  | .slotReset i => i < 65536
  | .slotResetDrainTimeout slot => slot < 32
  | .partitionConfigWrite i => i < 65536
  | .partitionConfigRead i => i < 65536
  | .modelStage i => i < 65536
  | .epochCommitLocal i => i < 65536
  | .epochCommitFabric i => i < 65536
  | .modelReleaseDiscard i => i < 65536
  | .modelReleaseRetire i => i < 65536
  | .epochRelease => true
  | .invocationStart _ => true
  | .rulesetLoadBuild i => i < 65536
  | .rulesetLoadDiscard i => i < 65536
  | .rulesetCommit i => i < 65536
  | .generationRelease => true
  | .releaseSweep => true
  | .tableQuerySearch q i => q < 1024 && i < 65536
  | .tableQueryNext q i => q < 1024 && i < 65536
  | .tableWriteInsert q i => q < 1024 && i < 65536
  | .tableWriteUpdate q i => q < 1024 && i < 65536
  | .tableWriteDelete q i => q < 1024 && i < 65536
  | .tableFlush i => i < 65536
  | .stationWriteWrite i => i < 65536
  | .stationWriteDelete i => i < 65536
  | .attestReport i => i < 65536
  | .attestDeviceidCert i => i < 65536
  | .attestAliasEndorsement i => i < 65536
  | .cruise i => i < 65536
  | .indexLoadDefine i => i < 65536
  | .indexLoadLoad i => i < 65536
  | .indexLoadUnload i => i < 65536
  | .indexLoadDelete i => i < 65536
  | .indexLoadSetMode i => i < 65536
  | .firmwareUpdate i _ => i < 65536
  | .matmul w => w.wellFormed
  | .conv1d w => w.wellFormed
  | .elemwise w => w.wellFormed
  | .softmax w => w.wellFormed
  | .norm w => w.wellFormed
  | .reduce w => w.wellFormed
  | .topk w => w.wellFormed
  | .pool1d w => w.wellFormed
  | .gather w => w.wellFormed
  | .scatter w => w.wellFormed
  | .embedSum w => w.wellFormed
  | .transpose w => w.wellFormed
  | .concat w => w.wellFormed
  | .convert w => w.wellFormed
  | .fill w => w.wellFormed
  | .move w => w.wellFormed
  | .qstats w => w.wellFormed
  | .requant w => w.wellFormed
  | .dequant w => w.wellFormed
  | .featurePrep w => w.wellFormed
  | .forestEval w => w.wellFormed
  | .vsearch w => w.wellFormed
  | .flowRead w => w.wellFormed
  | .flowWrite w => w.wellFormed
  | .verdictEmit w => w.wellFormed
  | .waitQueue w => w.wellFormed
  | .pushQueue w => w.wellFormed
  | .skipIf w => w.wellFormed
  | .barrier w => w.wellFormed
  | .mark w => w.wellFormed
  | .dumpTap w => w.wellFormed
  | .stepStart _ step => step < 2 ^ 16
  | .coreFault w core pc => w.wellFormed && core < 8 && pc < 2 ^ 32
  | .tapCapture _ step entry => step < 2 ^ 16 && entry < 64
  | .registerWrite addr size data => accessOk addr size data
  | .illegalAccess fn addr size _ => fn < 17 && addr < 2 ^ 26 && size ≤ 4096
  | .vfWriteDrop fn addr size => fn < 17 && addr < 2 ^ 26 && size ≤ 4096
  | .readClear fn addr size => fn < 17 && addr < 2 ^ 26 && size ≤ 4096
  | .loReadShadow fn addr => fn < 17 && addr < 2 ^ 26
  | .pgCtrlEnableClear page => pageOk page
  | .pgCtrlEnableSet page => pageOk page
  | .softReset page => pageOk page
  | .pgIrqStatusW1c page mask => pageOk page && mask < 2 ^ 32
  | .pgIrqSet page mask => pageOk page && mask < 2 ^ 32
  | .irqRouteEnable group vector => group < 32 && vector < 2 ^ 11
  | .groupMsix group => group < 32
  | .feKqEnable => true
  | .rstCmdWarm data => data < 2 ^ 32
  | .rstPartCmd mask => mask < 2 ^ 16
  | .partitionResetDone p => p < 16
  | .gateClose gate => gate < 256
  | .gateOpen gate => gate < 256
  | .switchToIosc => true
  | .switchToRef => true
  | .ioscTrimWrite trim => trim < 2 ^ 24
  | .fmcStart => true
  | .fmcDone count => count < 2 ^ 64
  | .fmcNoEdge => true
  | .ptpCapture die => die < 4
  | .ptpStep die ns => die < 4 && ns < 2 ^ 64
  | .ptpRateWrite die rate => die < 4 && rate < 2 ^ 32
  | .gateCommit port => port < 16
  | .gateListChange port => port < 16
  | .gateEvent port => port < 16
  | .tsPop port => port < 16
  | .pwrOffWrite mask => mask < 2 ^ 24
  | .trkInit die theta => die < 4 && theta < 2 ^ 32
  | .rateDataWrite die off data => die < 4 && off < 36 && off % 4 = 0 && data < 2 ^ 32
  | .feFlush cluster => cluster < 16
  | .tallyNow => true
  | .tallyPeriodWrite ms => ms < 2 ^ 17
  | .fabricFreeze => true
  | .fabricThaw => true
  | .obsSwMark marker _ => marker < 2 ^ 16
  | .histCfgWrite h kind index => h < 16 && kind < 16 && index < 2 ^ 16
  | .markerCfgWrite k marker part _ => k < 16 && marker < 2 ^ 16 && part < 16
  | .ringEnable ring => ring < 3
  | .freezeSw => true
  | .mirrorCopy => true
  | .crzGo => true
  | .landingPendingClear => true
  | .faultNClear mask => mask < 16
  | .thmAlarmClear => true
  | .pumpLostClear => true
  | .rportBind port device rport => port < 16 && device < 64 && rport < 16
  | .powerGoodRise straps => straps < 2 ^ 7
  | .powerGoodFall => true
  | .perstAssert => true
  | .perstDeassert => true
  | .warmReset => true
  | .flowWritebackTimeout => true
  | .functionReset fn => fn < 17
  | .hotReset => true
  | .busMasterEnableClear fn => fn < 17
  | .busMasterEnableSet fn => fn < 17
  | .hostReadError q i => q < 1024 && i < 65536
  | .bar4WindowAccess fn addr size data _ => fn < 17 && addr < 2 ^ 40 && size ≤ 4096 && data < 2 ^ (8 * size)
  | .bootRom => true
  | .bundleVerify => true
  | .pllLock => true
  | .blockReady page => pageOk page
  | .blockNotReady page => pageOk page
  | .cacheOnlyEnd die => die < 4
  | .journalRestore => true
  | .bankReverify slot => slot < 256
  | .shardRestore channel shard => channel < 256 && shard < 4096
  | .refclkLoss => true
  | .refReturn => true
  | .coastDelayExpiry => true
  | .refOkHeld => true
  | .relockDone => true
  | .deskewTick errs => errs.length ≤ 5
  | .trimInterval _ => true
  | .trimHold => true
  | .droopFlag cpm => cpm < 32
  | .droopLevelRise => true
  | .droopHoldExpiry => true
  | .avsInterval lows => lows.length ≤ 32
  | .cpmFatal cpm _ => cpm < 32
  | .avsbusPoll reads => reads.length ≤ 8
  | .eqTick dirs => dirs.all (fun x => x.1 < 128)
  | .thermalSample temps => temps.length ≤ 64
  | .thermtrip => true
  | .hbmTempRead temps => temps.length ≤ 8
  | .govTick => true
  | .floorTick => true
  | .pumpLoss input => input < 6
  | .tachEdge input => input < 6
  | .pwmPeriod => true
  | .plantSensorRead raws => raws.length ≤ 8
  | .reelStepMove _ step cluster => step < 2 ^ 16 && cluster < 16
  | .reelHomeMove _ => true
  | .homeMoveCancel _ => true
  | .housekeepingWatchdog => true
  | .frameReceive port frame => port < 16 && frame.length ≤ 2 ^ 14
  | .pauseFrame port quanta => port < 16 && quanta < 2 ^ 16
  | .pfcFrame port enables quanta => port < 16 && enables < 256 && quanta.length = 8 && quanta.all (fun x => x < 2 ^ 16)
  | .pauseExpiry port => port < 16
  | .flowLookup _ => true
  | .triggerStage _ => true
  | .headPoint _ => true
  | .itemQueue _ => true
  | .tailGood _ => true
  | .tailBad _ => true
  | .verdictArrive die => die < 4
  | .holdDeadline _ => true
  | .itemNoVerdict _ => true
  | .verdictStage _ => true
  | .trackerUpdate die cls => die < 4 && cls < 256
  | .trackerAnchor die => die < 4
  | .egressStart port => port < 16
  | .preemptFragment port => port < 16
  | .preemptVerify port _ => port < 16
  | .portLinkUp port => port < 16
  | .portLinkDown port => port < 16
  | .egressTimestamp port => port < 16
  | .ppsInEdge => true
  | .ppsOutEdge => true
  | .slowPathDeliver _ => true
  | .slowPathIrq die part => die < 4 && part < 16
  | .reinjectDescriptor die part => die < 4 && part < 16
  | .stationLearnApply die => die < 4
  | .skidderPass => true
  | .flowAger => true
  | .flowWriteback die index => die < 4 && index < 2 ^ 27
  | .flowEccError index => index < 2 ^ 27
  | .stationParity die index => die < 4 && index < 2 ^ 18
  | .parseParity pipe index => pipe < 8 && index < 64 + 0x11000
  | .fpTraining port => port < 8
  | .fpDown port _ => port < 8
  | .fpTrainingTimeout port => port < 8
  | .hello port frame => port < 8 && frame.wellFormed
  | .helloSend => true
  | .creditFrame port frame => port < 8 && frame.wellFormed
  | .creditReturnTimer port => port < 8
  | .markSend => true
  | .markReceive port frame => port < 8 && frame.wellFormed
  | .melazFrameForward port frame => port < 8 && frame.wellFormed
  | .dataReceive port frame => port < 8 && frame.wellFormed
  | .dataSend _ => true
  | .elect port frame => port < 8 && frame.wellFormed
  | .electionStart => true
  | .electQuietExpiry => true
  | .claim port frame => port < 8 && frame.wellFormed
  | .assignJoin port frame => port < 8 && frame.wellFormed
  | .assignTable port frame => port < 8 && frame.wellFormed
  | .routeTable port frame => port < 8 && frame.wellFormed
  | .routeCompute => true
  | .statusReport port frame => port < 8 && frame.wellFormed
  | .beaconSend => true
  | .beacon port frame => port < 8 && frame.wellFormed
  | .managerLost => true
  | .fabricAlone => true
  | .timeReq => true
  | .timeReqReceive port frame => port < 8 && frame.wellFormed
  | .timeResp port frame => port < 8 && frame.wellFormed
  | .timeDegradedEnter => true
  | .quadPropose port frame => port < 8 && frame.wellFormed
  | .quadStage port frame => port < 8 && frame.wellFormed
  | .quadArm port frame => port < 8 && frame.wellFormed
  | .quadArmed port frame => port < 8 && frame.wellFormed
  | .quadFlip port frame => port < 8 && frame.wellFormed
  | .flipTimeReached => true
  | .quadFlipNow port frame => port < 8 && frame.wellFormed
  | .flipNowRepeat => true
  | .quadFlipped port frame => port < 8 && frame.wellFormed
  | .quadAbort port frame => port < 8 && frame.wellFormed
  | .stageTimeout => true
  | .armLate => true
  | .flippedTimeout => true
  | .quadRejoin port frame => port < 8 && frame.wellFormed
  | .mapAnnounce port frame => port < 8 && frame.wellFormed
  | .mapWithdraw port frame => port < 8 && frame.wellFormed
  | .mapPublish port frame => port < 8 && frame.wellFormed
  | .mapFetch port frame => port < 8 && frame.wellFormed
  | .postClaimPublish => true
  | .searchReq port frame => port < 8 && frame.wellFormed
  | .shardPartDone _ => true
  | .searchAnswer port frame => port < 8 && frame.wellFormed
  | .searchBounce port frame => port < 8 && frame.wellFormed
  | .holderUnreachable device => device < 64
  | .freezeFrame port frame => port < 8 && frame.wellFormed
  | .freezeIn => true
  | .tallyLatch => true
  | .tallyRecordWrite => true
  | .traceSync => true
  | .coreSync source pc => source < 21 && pc < 2 ^ 32
  | .traceLoss die => die < 6
  | .errorDetect e => e.wellFormed
  | .logFailure kind cls code => kind < 3 && cls < 8 && code < 2 ^ 16
  | .fatalPath => true
  | .dumpBudgetExpiry => true
  | .hbmScrub stack line kind => stack < 8 && line < 2 ^ 40 && kind < 3
  | .mgmtRead off _ => off < 256
  | .jtagInstruction _ => true
  | .fmcOverflow => true
  | .freezeInDeassert => true
  | .vfEnableChange numVfs _ => numVfs ≤ 16
  | .histogramSample => true
  | .traceRecordAdmit die => die < 6
  | .tachNoEdge input => input < 6

end Sys2Proof
end

