-- ==== Sys2Proof/Tests/Slice0.lean ====
section
/-! SUPPORT. Tests/Slice0.lean: tests of the model. -/

namespace Sys2Proof.Tests

open Sys2Proof

theorem test_wf_misaligned_write : Instr.wellFormed (.registerWrite 2 4 0) = false := by decide

end Sys2Proof.Tests
end

/-! SUPPORT. Frames: State.sameBut and State.regsBut compose, and what each shared operation of the front end,
the counters and the trace changes of the parts of the state and of the register fields. -/

namespace Sys2Proof.Machine

/-! ## Frames compose -/

theorem Comp.same.trans {s t u : State} {c : Comp} (hst : c.same s t) (htu : c.same t u) : c.same s u := by
  cases c
  case obs =>
    simp only [Comp.same] at hst htu ⊢
    rw [htu, hst]
  case host =>
    obtain ⟨h1, h2, h3, h4⟩ := hst
    obtain ⟨k1, k2, k3, k4⟩ := htu
    exact ⟨k1.trans h1, k2.trans h2, k3.trans h3, k4.trans h4⟩
  all_goals exact Eq.trans htu hst

theorem State.sameBut_refl (s : State) (l : List Comp) : s.sameBut s l := by
  intro c _
  cases c <;> simp [Comp.same]

theorem State.sameBut.trans {s t u : State} {l m : List Comp} (hst : s.sameBut t l) (htu : t.sameBut u m) : s.sameBut u (l ++ m) :=
  fun c hc => (hst c (fun h => hc (List.mem_append_left m h))).trans (htu c (fun h => hc (List.mem_append_right l h)))

theorem State.sameBut.mono {s t : State} {l m : List Comp} (h : s.sameBut t l) (hlm : l ⊆ m) : s.sameBut t m :=
  fun c hc => h c (fun hl => hc (hlm hl))

theorem State.regsBut_refl (s : State) (l : List (Nat × Fld)) : s.regsBut s l := fun _ _ _ => rfl

theorem State.regsBut.trans {s t u : State} {l m : List (Nat × Fld)} (hst : s.regsBut t l) (htu : t.regsBut u m) :
    s.regsBut u (l ++ m) :=
  fun p f h => (htu p f (fun x hx => h x (List.mem_append_right l hx))).trans (hst p f (fun x hx => h x (List.mem_append_left m hx)))

theorem State.regsBut.mono {s t : State} {l m : List (Nat × Fld)} (h : s.regsBut t l) (hlm : l ⊆ m) : s.regsBut t m :=
  fun p f hm => h p f (fun x hx => hm x (hlm hx))

/-- Equal cells give equal fields. -/
theorem State.regsBut_of_regs_eq {s t : State} (h : t.regs = s.regs) : s.regsBut t [] := fun p f _ => State.rd_congr h p f

/-! ## One part of the state replaced -/

theorem State.sameBut_regs (s : State) (m : RegMap) : s.sameBut { s with regs := m } [.regs] := by
  intro c hc
  cases c <;> simp_all [Comp.same]

theorem State.sameBut_mem (s : State) (m : MemSt) : s.sameBut { s with mem := m } [.mem] := by
  intro c hc
  cases c <;> simp_all [Comp.same]

theorem State.sameBut_fe (s : State) (x : FeSt) : s.sameBut { s with fe := x } [.fe] := by
  intro c hc
  cases c <;> simp_all [Comp.same]

theorem State.sameBut_due (s : State) (l : List Nat) : s.sameBut { s with host := { s.host with dueGroups := l } } [.due] := by
  intro c hc
  cases c <;> simp_all [Comp.same]

theorem State.sameBut_trace (s : State) (l : List TraceBuf) : s.sameBut { s with obs := { s.obs with bufs := l } } [.trace] := by
  intro c hc
  cases c <;> simp_all [Comp.same]

/-! ## Registers, counters, interrupt causes -/

theorem State.wr_sameBut (s : State) (p : Nat) (f : Fld) (v : Nat) : s.sameBut (s.wr p f v) [.regs] := s.sameBut_regs _

theorem State.wr_regsBut (s : State) (p : Nat) (f : Fld) (v : Nat) : s.regsBut (s.wr p f v) [(p, f)] :=
  fun q g h => s.rd_wr_other p q f g v (h _ (List.mem_singleton_self _))

/-- A count either writes the field's next value or, frozen, changes nothing (18 R903). -/
theorem State.count_eq_or (s : State) (p : Nat) (f : Fld) : s.count p f = s ∨ s.count p f = s.wr p f (s.rd p f + 1) := by
  unfold State.count State.countN
  split
  · exact .inl rfl
  · exact .inr rfl

/-- While no freeze is active a count counts. -/
theorem State.count_of_not_frozen {s : State} (h : s.frozen = false) (p : Nat) (f : Fld) : s.count p f = s.wr p f (s.rd p f + 1) := by
  simp [State.count, State.countN, h]

theorem State.count_sameBut (s : State) (p : Nat) (f : Fld) : s.sameBut (s.count p f) [.regs] := by
  obtain h | h := s.count_eq_or p f <;> rw [h]
  · exact s.sameBut_refl _
  · exact s.wr_sameBut _ _ _

theorem State.count_regsBut (s : State) (p : Nat) (f : Fld) : s.regsBut (s.count p f) [(p, f)] := by
  obtain h | h := s.count_eq_or p f <;> rw [h]
  · exact s.regsBut_refl _
  · exact s.wr_regsBut _ _ _

theorem State.count_regsOk {s : State} (h : s.regsOk = true) (p : Nat) (f : Fld) : (s.count p f).regsOk = true := by
  obtain hc | hc := s.count_eq_or p f <;> rw [hc]
  · exact h
  · exact s.regs_wr_ok p f _ h

theorem State.sentinel_sameBut (s : State) (p i : Nat) : s.sameBut (s.sentinel p i) [.regs] := by
  unfold State.sentinel
  split
  · exact s.sameBut_refl _
  · exact s.wr_sameBut _ _ _

theorem State.sentinel_regsBut (s : State) (p i : Nat) : s.regsBut (s.sentinel p i) [(p, R.pgSentinel i)] := by
  unfold State.sentinel
  split
  · exact s.regsBut_refl _
  · exact s.wr_regsBut _ _ _

theorem State.noteGroup_sameBut (s : State) (g : Nat) (was : Bool) : s.sameBut (s.noteGroup g was) [.due] := by
  unfold State.noteGroup
  split
  · exact s.sameBut_due _
  · exact s.sameBut_refl _

theorem State.cause_sameBut (s : State) (p b : Nat) : s.sameBut (s.cause p b) [.regs, .due] := by
  unfold State.cause State.withGroup
  have hw := s.wr_sameBut p R.pgIrqStatus (s.rd p R.pgIrqStatus ||| 2 ^ b)
  split
  · exact hw.mono (by decide)
  · exact hw.trans (State.noteGroup_sameBut _ _ _)

theorem State.cause_regsBut (s : State) (p b : Nat) : s.regsBut (s.cause p b) [(p, R.pgIrqStatus)] := by
  unfold State.cause State.withGroup
  have hw := s.wr_regsBut p R.pgIrqStatus (s.rd p R.pgIrqStatus ||| 2 ^ b)
  split
  · exact hw
  · exact hw.trans (State.regsBut_of_regs_eq (by simp))

/-! ## The freeze -/

/-- The freeze reads four fields, the FREEZE_IN pin and the observation state. -/
theorem State.frozen_congr {s t : State} {l : List (Nat × Fld)} (hregs : s.regsBut t l)
    (hl : ∀ f ∈ [R.obsFreezeSw, R.obsFreezePinEn, R.obsFreezeFabricEn, R.obsFreezeSrcFault], ∀ x ∈ l,
      8 * P.obs + f.pos ≠ 8 * x.1 + x.2.pos)
    (hpins : t.pins = s.pins) (hobs : t.obs = s.obs) : t.frozen = s.frozen := by
  have hrd : ∀ f ∈ [R.obsFreezeSw, R.obsFreezePinEn, R.obsFreezeFabricEn, R.obsFreezeSrcFault], t.rd P.obs f = s.rd P.obs f :=
    fun f hf => hregs P.obs f (hl f hf)
  simp only [List.forall_mem_cons] at hrd
  obtain ⟨hsw, hpin, hfab, hfault, -⟩ := hrd
  simp only [State.frozen, State.on, hsw, hpin, hfab, hfault, hpins, hobs]

/-! ## Trace records -/

/-- A record that finds room is buffered; one that does not is lost, which the registers count (18 R918). -/
theorem State.traceBuf_sameBut (s : State) (die src : Nat) (rec : Bytes) :
    s.sameBut (s.traceBuf die src rec) [.regs, .due, .trace] := by
  unfold State.traceBuf
  split
  · exact s.sameBut_refl _
  · split
    · exact (s.sameBut_trace _).mono (by decide)
    · exact ((((s.sameBut_trace _).trans (State.count_sameBut _ _ _)).trans (State.sentinel_sameBut _ _ _)).trans
        (State.cause_sameBut _ _ _)).mono (by decide)

theorem State.traceBuf_regsBut (s : State) (die src : Nat) (rec : Bytes) : s.regsBut (s.traceBuf die src rec) traceRegs := by
  unfold State.traceBuf
  split
  · exact s.regsBut_refl _
  · split
    · exact (State.regsBut_of_regs_eq (by rfl)).mono (List.nil_subset _)
    · exact (((State.regsBut_of_regs_eq (by rfl)).trans (State.count_regsBut _ _ _)).trans (State.sentinel_regsBut _ _ _)).trans
        (State.cause_regsBut _ _ _)

theorem State.trace_sameBut (s : State) (src typ part : Nat) (l : List (Nat × Nat × Nat)) :
    s.sameBut (s.trace src typ part l) [.regs, .due, .trace] := by
  unfold State.trace
  split
  · exact s.traceBuf_sameBut _ _ _
  · exact s.sameBut_refl _

theorem State.trace_regsBut (s : State) (src typ part : Nat) (l : List (Nat × Nat × Nat)) :
    s.regsBut (s.trace src typ part l) traceRegs := by
  unfold State.trace
  split
  · exact s.traceBuf_regsBut _ _ _
  · exact s.regsBut_refl _

/-! ## Queues and the QCB cache -/

/-- The queues are the front end's. -/
theorem State.queue_congr {s t : State} (h : t.fe = s.fe) (q : Nat) : t.queue q = s.queue q := by
  unfold State.queue
  rw [h]

@[simp] theorem State.queue_modQueue_self (s : State) (q : Nat) (f : Queue → Queue) :
    (s.modQueue q f).queue q = (s.queue q).map f := aget_amod_self ..

theorem State.queue_modQueue_other (s : State) (q p : Nat) (f : Queue → Queue) (h : p ≠ q) :
    (s.modQueue q f).queue p = s.queue p := aget_amod_other _ _ _ _ h

@[simp] theorem State.queue_modQcb_self (s : State) (q : Nat) (f : Qcb → Qcb) :
    (s.modQcb q f).queue q = (s.queue q).map (fun r => { r with qcb := f r.qcb }) := s.queue_modQueue_self q _

theorem State.queue_modQcb_other (s : State) (q p : Nat) (f : Qcb → Qcb) (h : p ≠ q) : (s.modQcb q f).queue p = s.queue p :=
  s.queue_modQueue_other q p _ h

@[simp] theorem State.queue_count (s : State) (p : Nat) (f : Fld) (q : Nat) : (s.count p f).queue q = s.queue q :=
  State.queue_congr (by simp) q

@[simp] theorem State.queue_trace (s : State) (src typ part : Nat) (l : List (Nat × Nat × Nat)) (q : Nat) :
    (s.trace src typ part l).queue q = s.queue q := State.queue_congr (by simp) q

theorem State.modQueue_sameBut (s : State) (q : Nat) (f : Queue → Queue) : s.sameBut (s.modQueue q f) [.fe] := s.sameBut_fe _

/-- A touch moves the cache alone of the front end. -/
@[simp] theorem State.queue_touchQcb (s : State) (q p : Nat) : (s.touchQcb q).queue p = s.queue p := by
  unfold State.touchQcb State.queue
  split <;> simp

theorem State.touchQcb_sameBut (s : State) (q : Nat) : s.sameBut (s.touchQcb q) [.regs, .fe] := by
  unfold State.touchQcb
  refine State.sameBut.trans (l := [.regs]) ?_ (State.sameBut_fe _ _)
  split
  · exact s.sameBut_refl _
  · exact s.count_sameBut _ _

theorem State.touchQcb_regsBut (s : State) (q : Nat) : s.regsBut (s.touchQcb q) [(P.fe, R.feQcbMiss)] := by
  unfold State.touchQcb
  refine State.regsBut.trans (l := [(P.fe, R.feQcbMiss)]) ?_ (State.regsBut_of_regs_eq (by rfl))
  split
  · exact s.regsBut_refl _
  · exact s.count_regsBut _ _

theorem State.touchQcb_regsOk {s : State} (h : s.regsOk = true) (q : Nat) : (s.touchQcb q).regsOk = true := by
  unfold State.touchQcb
  simp only [State.regsOk]
  split
  · exact h
  · exact State.count_regsOk h ..

end Sys2Proof.Machine

/-! PROOFS. Doorbells: the two outcomes of a submission doorbell of an active queue (02 R46, R47, R49). -/

namespace Sys2Proof.Machine

open Host (Outcome)

/-! ## The stores before a doorbell -/

/-- Host software's stores reach memory alone. -/
theorem State.hostStores_eq (l : List (Nat × Bytes)) : ∀ s : State, s.hostStores l = { s with mem := (s.hostStores l).mem } := by
  induction l with
  | nil => intro s; rfl
  | cons x l ih => intro s; exact ih (s.hostWrite x.1 x.2)

@[simp] theorem State.hostStores_regs (s : State) (l : List (Nat × Bytes)) : (s.hostStores l).regs = s.regs := by
  rw [s.hostStores_eq l]

@[simp] theorem State.hostStores_pins (s : State) (l : List (Nat × Bytes)) : (s.hostStores l).pins = s.pins := by
  rw [s.hostStores_eq l]

@[simp] theorem State.hostStores_obs (s : State) (l : List (Nat × Bytes)) : (s.hostStores l).obs = s.obs := by
  rw [s.hostStores_eq l]

@[simp] theorem State.hostStores_fe (s : State) (l : List (Nat × Bytes)) : (s.hostStores l).fe = s.fe := by
  rw [s.hostStores_eq l]

@[simp] theorem State.queue_hostStores (s : State) (l : List (Nat × Bytes)) (q : Nat) : (s.hostStores l).queue q = s.queue q :=
  State.queue_congr (by simp) q

@[simp] theorem State.ready_hostStores (s : State) (l : List (Nat × Bytes)) (p : Nat) : (s.hostStores l).ready p = s.ready p := by
  simp only [State.ready, State.rd_congr (s.hostStores_regs l)]

@[simp] theorem State.mayRing_hostStores (s : State) (l : List (Nat × Bytes)) (fn q : Nat) :
    (s.hostStores l).mayRing fn q = s.mayRing fn q := by
  simp [State.mayRing]

@[simp] theorem State.ns_hostStores (s : State) (l : List (Nat × Bytes)) : (s.hostStores l).ns = s.ns := by
  rw [s.hostStores_eq l]
  rfl

theorem State.hostStores_sameBut (s : State) (l : List (Nat × Bytes)) : s.sameBut (s.hostStores l) [.mem] := by
  rw [s.hostStores_eq l]
  exact s.sameBut_mem _

/-! ## The two outcomes -/

/-- Ring positions from the old tail up to a new one (R46). -/
def Queue.advance (r : Queue) (val : Nat) : Nat := (val + r.qcb.sqSize - r.qcb.sqTail) % r.qcb.sqSize

/-- The entries a new tail makes visible, queued at a time (R46, R49). -/
def Queue.newEntries (r : Queue) (val now : Nat) : List Entry :=
  (List.range (r.advance val)).map (fun k => newEntry ((r.qcb.sqTail + k) % r.qcb.sqSize) now)

/-- The queue with further entries behind its own and a new tail. -/
def Queue.extend (es : List Entry) (val : Nat) (r : Queue) : Queue :=
  { r with ents := r.ents ++ es, qcb := { r.qcb with sqTail := val } }

/-- The control block with one more doorbell rejected. -/
def Qcb.rejectDoorbell (c : Qcb) : Qcb := { c with dbReject := (c.dbReject + 1) % 2 ^ 32 }

/-- R47's condition: the value is not below the ring size, or leaves more than ring size - 1 entries unconsumed. -/
def Queue.tailOutOfRange (r : Queue) (val : Nat) : Prop :=
  r.qcb.sqSize ≤ val ∨ r.qcb.sqSize - 1 < r.ents.length + r.advance val

section
variable {fn q val : Nat} {s : State} {r : Queue}

/-- A doorbell in range extends the queue and emits a trace record. -/
theorem sqTailDb_of_inRange (stores : List (Nat × Bytes)) (hq : q < 1024) (hring : s.mayRing fn q = true) (hr : s.queue q = some r)
    (hready : s.ready P.fe = true) (hactive : r.qcb.state = 1) (hrange : ¬ r.tailOutOfRange val) :
    sqTailDb fn q val stores s =
      (((s.hostStores stores).touchQcb q).modQueue q (Queue.extend (r.newEntries val s.ns) val)).trace 32 0x20 r.qcb.part
        [(16, 2, q), (18, 2, val)] := by
  simp only [Queue.tailOutOfRange, Queue.advance] at hrange
  simp +unfoldPartialApp [sqTailDb, hring, hr, hready, hactive, Nat.not_le.mpr hq, hrange, Queue.extend, Queue.newEntries, Queue.advance]

/-- A doorbell out of range is counted in the queue and in the front end. -/
theorem sqTailDb_of_outOfRange (stores : List (Nat × Bytes)) (hq : q < 1024) (hring : s.mayRing fn q = true) (hr : s.queue q = some r)
    (hready : s.ready P.fe = true) (hactive : r.qcb.state = 1) (hrange : r.tailOutOfRange val) :
    sqTailDb fn q val stores s =
      (((s.hostStores stores).touchQcb q).modQcb q Qcb.rejectDoorbell).count P.fe R.feDbReject := by
  simp only [Queue.tailOutOfRange, Queue.advance] at hrange
  simp +unfoldPartialApp [sqTailDb, hring, hr, hready, hactive, Nat.not_le.mpr hq, hrange, Qcb.rejectDoorbell]

end

/-! ## The obligations -/

/-- Settles O6: the queue as it is after the doorbell, and the frames of the three operations it runs. -/
theorem submissionDoorbell : Obligations.SubmissionDoorbell := by
  intro fn q val stores s r hq hring hr hready hactive hval hfit
  have hrange : ¬ r.tailOutOfRange val := by
    unfold Queue.tailOutOfRange Queue.advance
    omega
  refine ⟨_, congrArg Outcome.next (sqTailDb_of_inRange stores hq hring hr hready hactive hrange), ?_, ?_, ?_, ?_, ?_⟩
  · simp [hr, Queue.extend, Queue.newEntries, Queue.advance]
  · intro p hp
    simp [State.queue_modQueue_other _ _ _ _ hp]
  · simp
  · have htouch := (State.regsBut_of_regs_eq (s.hostStores_regs stores)).trans (State.touchQcb_regsBut _ q)
    exact (htouch.trans (State.regsBut_of_regs_eq (by rfl))).trans (State.trace_regsBut _ _ _ _ _)
  · exact ((((s.hostStores_sameBut stores).trans (State.touchQcb_sameBut _ q)).trans (State.modQueue_sameBut _ _ _)).trans
      (State.trace_sameBut _ _ _ _ _)).mono (by decide)

/-- Settles O7: neither the stores nor the touch of the QCB cache changes FE_DB_REJECT or brings a freeze, so both counters count. -/
theorem submissionDoorbellDiscarded : Obligations.SubmissionDoorbellDiscarded := by
  intro fn q val stores s r hok hfrozen hq hring hr hready hactive hrange
  let t := ((s.hostStores stores).touchQcb q).modQcb q Qcb.rejectDoorbell
  have htouch : s.regsBut t [(P.fe, R.feQcbMiss)] :=
    ((State.regsBut_of_regs_eq (s.hostStores_regs stores)).trans (State.touchQcb_regsBut _ q)).trans
      (State.regsBut_of_regs_eq (by rfl))
  have htok : t.regsOk = true := State.touchQcb_regsOk (by simpa [State.regsOk] using hok) q
  have htfrozen : t.frozen = false :=
    (State.frozen_congr htouch (by decide) (by simp [t]) (by simp [t])).trans hfrozen
  refine ⟨_, congrArg Outcome.next (sqTailDb_of_outOfRange stores hq hring hr hready hactive hrange), ?_, ?_, ?_, ?_⟩
  · simp [hr, Qcb.rejectDoorbell]
  · rw [State.count_of_not_frozen htfrozen, State.rd_wr_self _ _ _ _ htok, htouch P.fe R.feDbReject (by decide)]
  · intro p hp
    simp [State.queue_modQcb_other _ _ _ _ hp]
  · exact ((((s.hostStores_sameBut stores).trans (State.touchQcb_sameBut _ q)).trans (State.modQueue_sameBut _ _ _)).trans
      (State.count_sameBut _ _ _)).mono (by decide)

/-! ## States that meet the hypotheses -/

/-- Queue 3 of partition 0, ACTIVE, a ring of 16 entries with its tail at 14 and nothing visible; the front end is READY. -/
def doorbellWitness : State :=
  { State.reset with
    regs := [(8 * P.fe + R.pgStatusReady.pos, 1)]
    fe := { FeSt.reset with queues := [(3, ⟨{
      sqBase := 0, cqBase := 0, sqLog2 := 4, cqLog2 := 4, prio := 0, part := 0, sqHead := 14, sqTail := 14, cqTail := 0, cqHead := 0,
      vector := 0, quantum := 0, state := 1, phase := 1, irqEn := 0, retired := 0, ceDropped := 0, dbReject := 0, slot := 0xFFFF,
      persist := 0 }, [], none⟩)] } }

/-- Rung by its partition's function with tail 2, the ring shows its last two positions and, past the wrap, its first two. -/
theorem doorbellWitness_rings : ∃ t, exec (.sqTailDb 1 3 2 []) doorbellWitness = .next t ∧
    (t.queue 3).map (fun r => r.ents.map (·.idx)) = some [14, 15, 0, 1] := by
  obtain ⟨t, hexec, hqueue, -⟩ := submissionDoorbell 1 3 2 [] doorbellWitness _ (by decide) (by decide) rfl (by decide) rfl
    (by decide) (by decide)
  exact ⟨t, hexec, by rw [hqueue]; rfl⟩

/-- A tail of 16 is not below the ring size: the queue counts a rejected doorbell. -/
theorem doorbellWitness_discards : ∃ t, exec (.sqTailDb 1 3 16 []) doorbellWitness = .next t ∧
    (t.queue 3).map (fun r => r.qcb.dbReject) = some 1 := by
  obtain ⟨t, hexec, hqueue, -⟩ := submissionDoorbellDiscarded 1 3 16 [] doorbellWitness _ (by decide) (by decide) (by decide)
    (by decide) rfl (by decide) rfl (.inl (by decide))
  exact ⟨t, hexec, by rw [hqueue]; rfl⟩

end Sys2Proof.Machine
